-- ==== Sys2Proof/Word.lean ====
section
/-! DEFINITION. Bytes, the sides, posts, bands and monitors of the part, and the small fixed-size records indexed by them. -/

namespace Sys2Proof

/-- One byte of the supervisor link or of the gauge bus. -/
abbrev Byte := BitVec 8

/-- The depot stamp: 0..4,294,967,295 (R17). -/
abbrev Stamp := BitVec 32

/-- An axle ID: 10 characters, each one byte (R1, R190). -/
abbrev AxleId := List Byte

/-- A bogie ID: 8 characters, each one byte (R1, R190). -/
abbrev BogieId := List Byte

/-- Left and right, as seen facing the lathe (00_scope.md 5.3). -/
inductive Side where
  | l
  | r
  deriving DecidableEq, Repr

/-- A pair of like things, one per side: wheels, heads, bridges, clamps. -/
structure Sides (α : Type) where
  l : α
  r : α
  deriving DecidableEq, Repr

def Sides.get {α : Type} (v : Sides α) : Side → α
  | .l => v.l
  | .r => v.r

def Sides.set {α : Type} (v : Sides α) (a : α) : Side → Sides α
  | .l => { v with l := a }
  | .r => { v with r := a }

def Sides.both {α : Type} (a : α) : Sides α := ⟨a, a⟩

def Sides.map {α β : Type} (f : α → β) (v : Sides α) : Sides β := ⟨f v.l, f v.r⟩

def Sides.all {α : Type} (p : α → Bool) (v : Sides α) : Bool := p v.l && p v.r

def Sides.any {α : Type} (p : α → Bool) (v : Sides α) : Bool := p v.l || p v.r

/-- The other side. -/
def Side.other : Side → Side
  | .l => .r
  | .r => .l

/-- The four posts P1 front-left, P2 front-right, P3 rear-left, P4 rear-right (00_scope.md 5.3). -/
inductive Post where
  | p1
  | p2
  | p3
  | p4
  deriving DecidableEq, Repr

/-- Four like things, one per post. -/
structure Four (α : Type) where
  p1 : α
  p2 : α
  p3 : α
  p4 : α
  deriving DecidableEq, Repr

def Four.get {α : Type} (v : Four α) : Post → α
  | .p1 => v.p1
  | .p2 => v.p2
  | .p3 => v.p3
  | .p4 => v.p4

def Four.set {α : Type} (v : Four α) (a : α) : Post → Four α
  | .p1 => { v with p1 := a }
  | .p2 => { v with p2 := a }
  | .p3 => { v with p3 := a }
  | .p4 => { v with p4 := a }

def Four.each {α : Type} (a : α) : Four α := ⟨a, a, a, a⟩

def Four.map {α β : Type} (f : α → β) (v : Four α) : Four β :=
  ⟨f v.p1, f v.p2, f v.p3, f v.p4⟩

def Four.zipWith {α β γ : Type} (f : α → β → γ) (v : Four α) (w : Four β) : Four γ :=
  ⟨f v.p1 w.p1, f v.p2 w.p2, f v.p3 w.p3, f v.p4 w.p4⟩

def Four.all {α : Type} (p : α → Bool) (v : Four α) : Bool :=
  p v.p1 && p v.p2 && p v.p3 && p v.p4

def Four.any {α : Type} (p : α → Bool) (v : Four α) : Bool :=
  p v.p1 || p v.p2 || p v.p3 || p v.p4

def Four.toList {α : Type} (v : Four α) : List α := [v.p1, v.p2, v.p3, v.p4]

/-- The four rim temperature bands of R113. -/
inductive Band where
  | a
  | b
  | c
  | d
  deriving DecidableEq, Repr

/-- Four like things, one per band. -/
structure Bands (α : Type) where
  a : α
  b : α
  c : α
  d : α
  deriving DecidableEq, Repr

def Bands.get {α : Type} (v : Bands α) : Band → α
  | .a => v.a
  | .b => v.b
  | .c => v.c
  | .d => v.d

def Bands.set {α : Type} (v : Bands α) (x : α) : Band → Bands α
  | .a => { v with a := x }
  | .b => { v with b := x }
  | .c => { v with c := x }
  | .d => { v with d := x }

/-- The thirteen monitor instances of the fault table (03, 3.2). -/
inductive MonitorId where
  | m1
  | m2
  | m3
  | m4
  | m5
  | m6
  | m7
  | m8
  | m9
  | m10
  | m11
  | m12
  | m13
  deriving DecidableEq, Repr

/-- Thirteen like things, one per monitor, in the fixed order of the fault table. -/
structure PerMonitor (α : Type) where
  m1 : α
  m2 : α
  m3 : α
  m4 : α
  m5 : α
  m6 : α
  m7 : α
  m8 : α
  m9 : α
  m10 : α
  m11 : α
  m12 : α
  m13 : α
  deriving DecidableEq, Repr

def PerMonitor.get {α : Type} (v : PerMonitor α) : MonitorId → α
  | .m1 => v.m1
  | .m2 => v.m2
  | .m3 => v.m3
  | .m4 => v.m4
  | .m5 => v.m5
  | .m6 => v.m6
  | .m7 => v.m7
  | .m8 => v.m8
  | .m9 => v.m9
  | .m10 => v.m10
  | .m11 => v.m11
  | .m12 => v.m12
  | .m13 => v.m13

def PerMonitor.set {α : Type} (v : PerMonitor α) (a : α) : MonitorId → PerMonitor α
  | .m1 => { v with m1 := a }
  | .m2 => { v with m2 := a }
  | .m3 => { v with m3 := a }
  | .m4 => { v with m4 := a }
  | .m5 => { v with m5 := a }
  | .m6 => { v with m6 := a }
  | .m7 => { v with m7 := a }
  | .m8 => { v with m8 := a }
  | .m9 => { v with m9 := a }
  | .m10 => { v with m10 := a }
  | .m11 => { v with m11 := a }
  | .m12 => { v with m12 := a }
  | .m13 => { v with m13 := a }

/-- The record whose entry for each monitor is `f` of its name. -/
def PerMonitor.ofFn {α : Type} (f : MonitorId → α) : PerMonitor α :=
  ⟨f .m1, f .m2, f .m3, f .m4, f .m5, f .m6, f .m7, f .m8, f .m9, f .m10, f .m11, f .m12, f .m13⟩

/-- The monitors in instance order. -/
def MonitorId.list : List MonitorId :=
  [.m1, .m2, .m3, .m4, .m5, .m6, .m7, .m8, .m9, .m10, .m11, .m12, .m13]

/-- The instance number 1..13 of a monitor. -/
def MonitorId.number : MonitorId → Nat
  | .m1 => 1
  | .m2 => 2
  | .m3 => 3
  | .m4 => 4
  | .m5 => 5
  | .m6 => 6
  | .m7 => 7
  | .m8 => 8
  | .m9 => 9
  | .m10 => 10
  | .m11 => 11
  | .m12 => 12
  | .m13 => 13

end Sys2Proof
end

