-- ==== Sys2Proof/Config.lean ====
section
/-! DEFINITION. The fixed figures of the part that no setting changes, and the free values: figures the manual leaves
unstated, as constants without a body. -/

namespace Sys2Proof.Config

/-! ## Fixed figures -/

/-- Travel of a post, µm (2.1). -/
def postTravel : Nat := 250000
/-- Largest load of a post, daN (R20). -/
def loadMax : Nat := 30000
/-- A post at this position or below is at home, µm (R20). -/
def homeWindow : Nat := 500
/-- The arrival window of the lift, µm (R25, R31). -/
def arrivalWindow : Nat := 200
/-- The hysteresis of the load zones, daN (R21). -/
def zoneBand : Nat := 50
/-- The lift control period, ms (R31). -/
def liftPeriod : Nat := 20
/-- The travel timer of a rail bridge, ms (R10). -/
def bridgeTravelTime : Nat := 10000
/-- The confirmation timeout of a clamp move in SENSOR mode, ms (R41). -/
def clampConfirmTime : Nat := 5000
/-- The wait limit of the gauge bus, ms (R72). -/
def waitLimit : Nat := 25
/-- Clock pulses of a recovery of the gauge bus (R72, R80). -/
def recoveryPulses : Nat := 9
/-- The quiet time of the gauge bus, ms (R78). -/
def quietTime : Nat := 1000
/-- Retries of a transaction after a loss of arbitration (R75). -/
def maxRetries : Nat := 3
/-- Tag attempts of one tag read (R3). -/
def maxTagAttempts : Nat := 3
/-- The spindle stop timer, ms (R120). -/
def stopTime : Nat := 2000
/-- The hold timer of a rim sensor, ms (R97). -/
def rimHoldTime : Nat := 10000
/-- The temperature a rim whose sensor has failed is given, T10 (R97). -/
def rimDefault : Int := 200
/-- Surface speed of the measuring run, m/min (R140). -/
def measuringSpeed : Nat := 10
/-- Largest cutting force reading, daN (R49). -/
def forceMax : Nat := 5000
/-- Capacity of a profile list (R83). -/
def profileCapacity : Nat := 256
/-- Capacity of a ring list, and samples per revolution (R82, R83). -/
def ringCapacity : Nat := 128
/-- The scan's last position, µm (R88). -/
def scanEnd : Nat := 140000
/-- Slots of the history array (8.3). -/
def slotCount : Nat := 544
/-- Most records the store holds (R147). -/
def maxRecords : Nat := 512
/-- Places of the open record cache (8.5). -/
def cachePlaces : Nat := 4
/-- Most entries of a record's entry list (R144). -/
def maxEntries : Nat := 24
/-- Most sibling marks of a plan (R111). -/
def maxMarks : Nat := 8
/-- Saturation of a record's cumulative loss, µm (R145). -/
def maxLoss : Nat := 1000000
/-- Saturation of the 16-bit counters. -/
def max16 : Nat := 65535
/-- Saturation of a trip count (R48). -/
def maxTrips : Nat := 255
/-- Largest revolution counter (07, table of items). -/
def maxRevolutions : Nat := 4294967295
/-- Frames of the receive queue (R170). -/
def receivePlaces : Nat := 4
/-- Largest LEN of a frame (9.1). -/
def maxPayload : Nat := 248
/-- The gap timer of the receiver, ms (R169). -/
def gapTime : Nat := 5

/-! ## Free values: nothing constrains them (log entries 5 to 7) -/

/-- DESIGN CHOICE, log 5. The wheel surface speed that R121 gives for a tread diameter when the interval between two
index events is 0 ms: a division by 0, of which the manual states no result. -/
opaque wheelSpeedAtZeroInterval : Int → Nat

/-- DESIGN CHOICE, log 6. The revolution counter after a revolution counted at 4,294,967,295: the manual gives the
counter's range and not whether it wraps or saturates. -/
opaque revolutionsAfterLast : Nat

/-- DESIGN CHOICE, log 7. What an unsigned field of `n` bytes carries for a figure that it cannot hold: the manual
gives the field's width and no such case. -/
opaque oversizedField (n : Nat) (x : Int) : Int

end Sys2Proof.Config
end

