-- ==== Sys2Proof/Syntax.lean ====
section
/-! DEFINITION. The commands of the Icamber 740: one constructor of `Instr` per row of spec/opcode_table.json. -/

namespace Sys2Proof

/-- The two ends of a rail bridge's travel (R9). -/
inductive BridgeEnd where
  /-- in the running line -/
  | inLine
  /-- withdrawn -/
  | out
  deriving DecidableEq, Repr

/-- The two end switches of a clamp (2.7). -/
inductive ClampEnd where
  | closed
  | opened
  deriving DecidableEq, Repr

/-- The two lift jog buttons of the pendant (R14, R30). -/
inductive JogButton where
  | up
  | down
  deriving DecidableEq, Repr

/-- A condition on the gauge bus lines that frames a transaction (R65). -/
inductive BusCondition where
  | start
  | stop
  deriving DecidableEq, Repr

/-- The address of a setting as SET_SETTING and GET_SETTING carry it (R181): a short ID and instance, or a table ID,
an entry index and a field. -/
inductive SettingAddr where
  | scalar (id inst : Nat)
  | table (table entry field : Nat)
  deriving DecidableEq, Repr

/-- A frame of the supervisor link without its SYNC, LEN and CRC (9.1). -/
structure Frame where
  kind : Byte
  tag : Byte
  payload : List Byte
  deriving DecidableEq, Repr

/-- The levels of the end switches of one rail bridge. -/
structure BridgeSwitches where
  inMade : Bool
  outMade : Bool
  deriving DecidableEq, Repr

/-- The levels of the end switches of one clamp. -/
structure ClampSwitches where
  closedMade : Bool
  openMade : Bool
  deriving DecidableEq, Repr

/-- The levels of every field line that the part reads at the end of a reset (R1, R9, R15, R20, R40, R80, R97, R120,
R122, R168). -/
structure FieldLines where
  /-- presence sensor on -/
  presence : Bool
  /-- pit stop line asserted -/
  pitStop : Bool
  bridges : Sides BridgeSwitches
  /-- post position sensors, µm -/
  positions : Four Nat
  /-- post load cells, daN -/
  loads : Four Nat
  clamps : Sides ClampSwitches
  /-- surface speeds the two roller pairs report, mm/min -/
  rollers : Sides Nat
  /-- park switches of the heads made -/
  parked : Sides Bool
  /-- cutting force sensors, daN -/
  forces : Sides Nat
  /-- rim infrared sensors: a reading in T10, or a fault -/
  rims : Sides (Option Int)
  /-- both gauge bus lines high -/
  busHigh : Bool
  /-- rate strap high -/
  rateStrap : Bool
  deriving DecidableEq, Repr

/-- The commands. A supervisor request carries first the TAG of its frame and then its payload's fields (11.2), coded
as the frame codes them where a code may be refused. -/
inductive Instr where
  -- requests of the Pit Interlock
  | seatAxle (tag : Byte) (axleId : AxleId) (wheelType : Nat) (bogieId : BogieId) (position : Nat) (force : Bool)
  | releaseAxle (tag : Byte)
  | bridges (tag : Byte) (direction : Nat)
  | source (tag : Byte) (group owner : Nat)
  | setStamp (tag : Byte) (stamp : Stamp)
  -- requests of the Bogie Lift Unit
  | lift (tag : Byte) (height : Nat)
  | lower (tag : Byte) (height : Nat)
  | takeLoad (tag : Byte)
  | haltLift (tag : Byte)
  | clampClose (tag : Byte)
  | clampOpen (tag : Byte)
  -- requests of the Fault Monitor Unit
  | clearFault (tag : Byte) (monitors : BitVec 16)
  | readFaults (tag : Byte)
  -- requests of the Profile Measurement Unit
  | sweep (tag : Byte) (wheels : Nat)
  | haltSweep (tag : Byte)
  | referenceSweep (tag : Byte) (head : Nat)
  | readProfile (tag : Byte) (wheel : Nat)
  -- requests of the Turning Plan Engine
  | plan (tag : Byte)
  | readPlan (tag : Byte)
  -- requests of the Turning Control Unit
  | turn (tag : Byte)
  | pause (tag : Byte)
  | resume (tag : Byte)
  | abort (tag : Byte)
  | home (tag : Byte) (head : Nat)
  | indexEdge (tag : Byte) (head : Nat)
  | toolChanged (tag : Byte) (head : Nat)
  -- requests of the Axle History Store
  | readHistory (tag : Byte) (axleId : AxleId) (start : Nat)
  | listBogie (tag : Byte) (bogieId : BogieId)
  | retireAxle (tag : Byte) (axleId : AxleId)
  | correctHistory (tag : Byte) (axleId : AxleId) (diameterL diameterR : Option Nat)
  | commit (tag : Byte)
  -- requests of the Supervisor Link Port
  | status (tag : Byte)
  | resumeLink (tag : Byte)
  | reset (tag : Byte)
  -- requests of the Settings Store
  | setSetting (tag : Byte) (addr : SettingAddr) (value : Int)
  | getSetting (tag : Byte) (source : Nat) (addr : SettingAddr)
  | storeSettings (tag : Byte) (autoload : Nat)
  | loadSettings (tag : Byte)
  | defaultSettings (tag : Byte)
  -- resets
  | powerOnReset (lines : FieldLines)
  | pinReset (lines : FieldLines)
  | linkResetEffect (lines : FieldLines)
  -- the supervisor link
  | goodFrame (frame : Frame)
  | lineError
  | gapTimerExpiry
  | dispatch
  | sendingReply
  | sendingReport
  | frameSent
  | silenceTimerExpiry
  -- the pit interlock
  | presenceOn
  | presenceOff
  | tagReadBegin
  | bridgeSwitchMade (side : Side) (bridgeEnd : BridgeEnd)
  | bridgeSwitchDropped (side : Side) (bridgeEnd : BridgeEnd)
  | bridgeTravelTimerExpiry (side : Side)
  | pitStopAsserted
  | pitStopReleased
  -- the pendant
  | pendantJogUp
  | pendantJogDown
  | pendantJogRelease (button : JogButton)
  | pendantClampsClose
  | pendantClampsOpen
  | pendantBridgesIn
  | pendantBridgesOut
  | pendantHeadsHome
  -- the lift and the clamps
  | liftControlPeriodExpiry (positions loads : Four Nat)
  | loadChange (post : Post) (load : Nat) (positions : Four Nat)
  | clampSwitchMade (side : Side) (clampEnd : ClampEnd)
  | clampSwitchDropped (side : Side) (clampEnd : ClampEnd)
  | clampMoveTimerExpiry (side : Side)
  -- the fault monitors
  | deglitchTimerExpiry (monitor : MonitorId)
  -- the gauge bus
  | gaugeTransactionBegin
  | gaugeTransactionEnd
  | clockHold
  | clockRelease
  | waitTimerExpiry
  | arbitrationLoss
  | unexpectedStartStop (condition : BusCondition)
  | foreignStart
  | foreignStop
  | quietTimerExpiry
  | resetObservationTimeout
  -- profile measurement
  | profileScanBegin
  | sweepExtractionDone
  | rimTemperatureReading (side : Side) (value : Int)
  | rimSensorFault (side : Side)
  | rimHoldTimerExpiry (side : Side)
  -- turning
  | indexEvent (interval : Nat) (forcesL forcesR : List Nat)
  | rollerSpeedChange (pairL pairR : Nat)
  | forceReadingChange (side : Side) (value : Nat)
  | stopTimerExpiry
  | headMoveEnd (side : Side) (parkSwitch : Bool)
  -- background work that ends
  | planComputationEnd
  | recordOpenComplete
  | commitBegin
  | slotWriteDone
  | commitVerifyDone (agrees : Bool)
  | startupScanEnd (badChecks : List Nat)
  | settingsProgrammingBegin
  | settingsReadbackDone (agrees : Bool)
  -- bytes of the two links
  | byteReceived (value : Byte)
  | gaugeBusByte (value : Byte) (ack : Bool)
  deriving DecidableEq, Repr

end Sys2Proof
end

