-- ==== Sys2Proof/Machine/State.lean ====
section
/-! DEFINITION. The state of the Icamber 740 as plain data, block by block, and the state after its first power-on reset. -/

namespace Sys2Proof.Machine

/-! ## Result codes and replies (R172, R190) -/

/-- Result codes, in the order of R190. -/
inductive Code where
  | ok
  | accepted
  | clamped
  | busy
  | notAvailable
  | notOwner
  | faulted
  | stopped
  | badParameter
  | unknownRequest
  | notFound
  | noRecord
  | idConflict
  | calStale
  | conditionPresent
  deriving DecidableEq, Repr

/-- A request whose reply takes its fields when its sending begins (R172). -/
inductive LateRead where
  | status
  | readFaults
  | readProfile (side : Side)
  | readPlan
  | readHistory (axleId : AxleId) (start : Nat)
  | listBogie (bogieId : BogieId)
  | getSetting (stored : Bool) (addr : SettingAddr)
  deriving DecidableEq, Repr

/-- What a reply will carry after its header: fixed at dispatch, or OK and fields still to be taken (R172). -/
inductive ReplyBody where
  | fixed (code : Code) (fields : List Byte)
  | late (read : LateRead)
  deriving DecidableEq, Repr

/-- A reply in the reply slot. -/
structure Reply where
  kind : Byte
  tag : Byte
  body : ReplyBody
  deriving DecidableEq, Repr

/-! ## Pit Interlock (01) -/

inductive SeatState where
  | vacant
  | present
  | seated
  deriving DecidableEq, Repr

inductive IdSource where
  | tag
  | entered
  deriving DecidableEq, Repr

inductive TagState where
  | none
  | reading
  | read
  | failed
  deriving DecidableEq, Repr

inductive TagOutcome where
  | none
  | read
  | failed
  deriving DecidableEq, Repr

/-- The identity fields of the seat record, present only while SEATED (1.1). -/
structure Identity where
  axleId : AxleId
  wheelType : Nat
  bogieId : BogieId
  position : Nat
  source : IdSource
  deriving DecidableEq, Repr

inductive BridgeState where
  | inLine
  | movingOut
  | out
  | movingIn
  | halted
  deriving DecidableEq, Repr

inductive BridgeOutcome where
  | none
  | complete
  | timeout
  | switchLost
  | liftHalted
  | clearance
  | pitStop
  deriving DecidableEq, Repr

/-- A rail bridge (1.5). -/
structure Bridge where
  state : BridgeState
  fault : Bool
  switches : BridgeSwitches
  /-- stopped, or running with the ms it started with -/
  travelTimer : Option Nat
  lastOutcome : BridgeOutcome
  deriving DecidableEq, Repr

inductive Owner where
  | link
  | pendant
  deriving DecidableEq, Repr

inductive Group where
  | lift
  | clamps
  | bridges
  | heads
  deriving DecidableEq, Repr

/-- The group source table (1.6). -/
structure Owners where
  lift : Owner
  clamps : Owner
  bridges : Owner
  heads : Owner
  deriving DecidableEq, Repr

structure Pil where
  seatState : SeatState
  identity : Option Identity
  tagState : TagState
  tagAttempts : Nat
  tagId : Option AxleId
  /-- the presence sensor is on -/
  presence : Bool
  bridge : Sides Bridge
  owners : Owners
  /-- the pit stop state is ASSERTED -/
  pitStop : Bool
  /-- the clear-to-move line is asserted (R16) -/
  clearToMove : Bool
  stamp : Stamp
  lastTag : TagOutcome
  deriving DecidableEq, Repr

/-! ## Bogie Lift Unit (02) -/

inductive Zone where
  | free
  | taking
  | bearing
  | overload
  deriving DecidableEq, Repr

/-- A post record (2.1). -/
structure PostRecord where
  position : Nat
  load : Nat
  zone : Zone
  step : Nat
  deriving DecidableEq, Repr

inductive LiftState where
  | lowered
  | rising
  | holding
  | lowering
  | halted
  deriving DecidableEq, Repr

inductive MoveKind where
  | target
  | home
  | load
  | jog
  deriving DecidableEq, Repr

inductive LiftOutcome where
  | none
  | arrived
  | loaded
  | noLoad
  | haltRequest
  | jogEnded
  | handshake
  | silence
  | tripped
  | presenceLost
  | pitStop
  deriving DecidableEq, Repr

inductive ClampState where
  | opened
  | closing
  | closed
  | opening
  | failed
  | halted
  deriving DecidableEq, Repr

inductive ClampOutcome where
  | none
  | complete
  | unconfirmed
  | failed
  | pitStop
  | presenceLost
  deriving DecidableEq, Repr

/-- An axle box clamp (2.7). -/
structure Clamp where
  state : ClampState
  switches : ClampSwitches
  moveTimer : Option Nat
  /-- the timeout condition of R41 is present -/
  timeout : Bool
  lastOutcome : ClampOutcome
  deriving DecidableEq, Repr

structure Blu where
  posts : Four PostRecord
  lift : LiftState
  kind : Option MoveKind
  target : Nat
  clamp : Sides Clamp
  lastLift : LiftOutcome
  deriving DecidableEq, Repr

/-! ## Fault Monitor Unit (03) -/

inductive MonitorState where
  | quiet
  | deglitch
  | tripped
  | latched
  | warned
  deriving DecidableEq, Repr

inductive MonitorMode where
  | latched
  | perStroke
  | warnOnly
  | off
  deriving DecidableEq, Repr

inductive Scope where
  | side
  | pit
  deriving DecidableEq, Repr

inductive Recurrence where
  | none
  | armed
  | timing
  deriving DecidableEq, Repr

/-- A monitor record (3.1) without the fields that are settings. -/
structure Monitor where
  state : MonitorState
  count : Nat
  condition : Bool
  /-- the deglitch timer: stopped, or running with the ms it started with -/
  timer : Option Nat
  recurrence : Recurrence
  deriving DecidableEq, Repr

structure Fmu where
  monitors : PerMonitor Monitor
  /-- M8 is blanked (R59) -/
  slipBlanked : Bool
  /-- the blanking setting of M8 in force when its stroke began (R59) -/
  slipEighths : Nat
  deriving DecidableEq, Repr

/-! ## Gauge Bus Controller (04) -/

inductive Requester where
  | pmu (side : Side)
  | pilTag
  deriving DecidableEq, Repr

inductive Direction where
  | write
  | read
  deriving DecidableEq, Repr

/-- The two kinds of measuring work that place transactions (R83). -/
inductive Work where
  | sweep
  | reference
  deriving DecidableEq, Repr

/-- The work a transaction serves: what its requester does with the result (R3, R83). -/
inductive Purpose where
  | tagAttempt
  /-- a MODE write whose OK is awaited -/
  | mode (work : Work)
  /-- SCAN_START or RING_START -/
  | command (work : Work)
  | stateRead (work : Work)
  | blockRead (work : Work)
  /-- the work has ended, or the result is not looked at (MODE PARK): the result is discarded -/
  | discarded
  deriving DecidableEq, Repr

/-- A transaction record (4.2). -/
structure Txn where
  requester : Requester
  /-- 7-bit device address -/
  address : Nat
  direction : Direction
  writeBytes : List Byte
  readLength : Nat
  retries : Nat
  purpose : Purpose
  deriving DecidableEq, Repr

inductive TxnResult where
  | ok
  | absent
  | rejected
  | waitTimeout
  | lost
  deriving DecidableEq, Repr

inductive BusState where
  | idle
  | running
  | recovering
  | observing
  deriving DecidableEq, Repr

inductive RunPhase where
  | address
  | write
  | turn
  | read
  | closing
  deriving DecidableEq, Repr

/-- What stands on the two lines in a transaction of the part (R65, R66): a START or repeated START and the STOP, which
the part drives; a byte that the part sends, with the acknowledge it reads; a byte that the part receives, with the
acknowledge it sends. True is ACK. In a recovery the part sends clock pulses with the data line released (R72). -/
inductive LineEvent where
  | start
  | pulse
  | sent (value : Byte) (ack : Bool)
  | received (value : Byte) (ack : Bool)
  | stop
  deriving DecidableEq, Repr

/-- Where the running transaction stands (4.2). -/
structure Run where
  phase : RunPhase
  /-- write bytes sent and acknowledged -/
  sent : Nat
  /-- read bytes received, in order -/
  received : List Byte
  /-- the result that is handed when the STOP has been sent -/
  result : Option TxnResult
  /-- what stands on the lines since the START, in order: the conditions the part drives, each from the moment it begins
  to send it, and the bytes that have completed (R66) -/
  line : List LineEvent
  deriving DecidableEq, Repr

/-- The observation record (R77). -/
structure Observation where
  /-- the start was SEEN -/
  seen : Bool
  /-- head L addressed, head R addressed -/
  addressed : Sides Bool
  /-- the next byte is an address byte -/
  addressNext : Bool
  deriving DecidableEq, Repr

structure Gbc where
  queue : List Txn
  /-- transactions a PMU requester at its quota keeps back (R67) -/
  held : Sides (List Txn)
  bus : BusState
  run : Option Run
  clockHeld : Bool
  waitTimer : Option Nat
  observation : Option Observation
  foreignFlag : Bool
  quietTimer : Option Nat
  /-- what the part has sent in its last recovery, in order: the clock pulses and the STOP (R72, R80; log 70) -/
  recovery : List LineEvent
  deriving DecidableEq, Repr

/-! ## Profile Measurement Unit (05) -/

inductive SweepPhase where
  | idle
  | claiming
  | profileScan
  | ringWait
  | ringScan
  | computing
  deriving DecidableEq, Repr

inductive Wheels where
  | l
  | r
  | both
  deriving DecidableEq, Repr

/-- Sweep and reference reasons, in the order of R190. -/
inductive Reason where
  | short
  | order
  | range
  | noFlange
  | noFlank
  | overrun
  | bus
  | overtravel
  | pitStop
  | slip
  | stale
  | halted
  | support
  | silence
  deriving DecidableEq, Repr

inductive SweepOutcome where
  | none
  | done
  | failed (reason : Reason)
  deriving DecidableEq, Repr

inductive Calibration where
  | verified
  | stale
  deriving DecidableEq, Repr

inductive ReferenceState where
  | idle
  | running
  deriving DecidableEq, Repr

inductive ReferenceOutcome where
  | none
  | verified
  | referenceFail
  | failed (reason : Reason)
  deriving DecidableEq, Repr

/-- A sample of a probe head: a position (z in µm, or an angle index) and a radius in µm (R82). -/
structure Sample where
  pos : Nat
  r : Nat
  deriving DecidableEq, Repr

/-- What the PMU keeps per head (05, table of items). -/
structure PmuHead where
  profile : List Sample
  ring : List Sample
  calibration : Calibration
  lastReach : Option Nat
  reference : ReferenceState
  lastReference : ReferenceOutcome
  /-- the list of the scan in progress is complete (R83) -/
  listDone : Bool
  /-- the MODE write of the present phase has returned OK (R88, R90) -/
  modeOk : Bool
  /-- made STALE since its claim by the running sweep (R85) -/
  staleDuring : Bool
  /-- tread diameter handed to the TCU at the end of PROFILE_SCAN (R89) -/
  diameter : Option Int
  deriving DecidableEq, Repr

inductive SensorState where
  | live
  | held
  | defaulted
  deriving DecidableEq, Repr

structure Rim where
  value : Int
  state : SensorState
  holdTimer : Option Nat
  deriving DecidableEq, Repr

inductive ProfileKind where
  | asFound
  | asTurned
  deriving DecidableEq, Repr

inductive Verdict where
  | serviceable
  | turn
  | condemn
  deriving DecidableEq, Repr

/-- The figures of a VALID or SUPERSEDED profile record (5.6). -/
structure ProfileFigures where
  kind : ProfileKind
  d : Int
  d20 : Int
  h : Int
  t : Int
  qR : Int
  oor : Int
  temp : Int
  tempHeld : Bool
  mismatch : Bool
  calStale : Bool
  verdict : Option Verdict
  samples : Nat
  deriving DecidableEq, Repr

/-- A current profile record (5.6). -/
inductive ProfileRecord where
  | none
  | valid (figures : ProfileFigures)
  | failed (reason : Reason) (calStale : Bool) (samples : Nat)
  | superseded (figures : ProfileFigures)
  deriving DecidableEq, Repr

structure Pmu where
  phase : SweepPhase
  selected : Option Wheels
  settle : Nat
  lastSweep : SweepOutcome
  entrySkipped : Bool
  turnedSince : Bool
  head : Sides PmuHead
  /-- rim temperature and TEMP_HELD taken on entry to COMPUTING (R91) -/
  taken : Sides (Option (Int × Bool))
  rim : Sides Rim
  record : Sides ProfileRecord
  deriving DecidableEq, Repr

/-! ## Turning Plan Engine (06) -/

inductive PlanState where
  | none
  | ready
  | refused
  | notNeeded
  | inUse
  | spent
  | broken
  deriving DecidableEq, Repr

/-- Plan reasons, in the order of R190. -/
inductive PlanReason where
  | condemned
  | condemn
  | tooDeep
  | settings
  | sweep
  | seat
  deriving DecidableEq, Repr

inductive PlanWork where
  | idle
  | computing
  | marking
  deriving DecidableEq, Repr

inductive PlanOutcome where
  | none
  | ready
  | notNeeded
  | refused (reason : PlanReason)
  | cancelled (reason : PlanReason)
  deriving DecidableEq, Repr

/-- The figures a plan record holds in every state but NONE (6.6). -/
structure PlanFigures where
  axleId : AxleId
  wheelType : Nat
  profileIndex : Nat
  d20 : Sides Int
  required : Sides Int
  target : Int
  depth : Sides Int
  siblingDue : Bool
  tempHeld : Bool
  deriving DecidableEq, Repr

/-- One pass of a pass list: its depth in µm and the step in which it is cut (R115). -/
structure Pass where
  depth : Nat
  step : Nat
  deriving DecidableEq, Repr

/-- The figures a plan record holds in READY, IN_USE, SPENT and BROKEN only (6.6). -/
structure PlanCut where
  band : Sides Band
  speed : Nat
  force : Sides (Option Nat)
  steps : Nat
  passes : Sides (List Pass)
  deriving DecidableEq, Repr

structure PlanRecord where
  state : PlanState
  reason : Option PlanReason
  figures : Option PlanFigures
  cut : Option PlanCut
  deriving DecidableEq, Repr

/-- The measured inputs of one wheel (6.2). -/
structure WheelInput where
  d : Int
  h : Int
  t : Int
  oor : Int
  temp : Int
  tempHeld : Bool
  deriving DecidableEq, Repr

/-- A record of the bogie that stage 5 examines: not CONDEMNED, with at least one last diameter (R111). -/
structure Sibling where
  axleId : AxleId
  least : Int
  deriving DecidableEq, Repr

/-- The inputs of a plan computation, as PLAN takes them (R106). -/
structure PlanInputs where
  axleId : AxleId
  wheelType : Nat
  profileIndex : Nat
  dScrap : Int
  hT : Int
  tT : Int
  k : Int
  wheel : Sides WheelInput
  cMin : Int
  finishDepth : Nat
  depthLimit : Int
  bogieTol : Int
  ta : Int
  tb : Int
  tc : Int
  aMax : Bands Nat
  speed : Bands Nat
  force : Bands Nat
  siblings : List Sibling
  deriving DecidableEq, Repr

/-- A pending sibling mark (R111). -/
structure Mark where
  axleId : AxleId
  limit : Int
  source : AxleId
  deriving DecidableEq, Repr

structure Tpe where
  plan : PlanRecord
  work : PlanWork
  inputs : Option PlanInputs
  /-- the computed plan that becomes READY when the last mark is placed or skipped (R112) -/
  computed : Option (PlanFigures × PlanCut)
  marks : List Mark
  lastPlan : PlanOutcome
  deriving DecidableEq, Repr

/-! ## Turning Control Unit (07) -/

inductive PauseCause where
  | force
  | pause
  | load
  | lift
  | clamp
  | slip
  | edge
  | silence
  deriving DecidableEq, Repr

/-- The states a measuring run returns to (07, table of items: state left). -/
inductive LeftState where
  | idle
  | done
  | aborted
  deriving DecidableEq, Repr

inductive TcuState where
  | idle
  | measureRun (left : LeftState)
  | runup
  | cutting
  | paused (cause : PauseCause)
  | ending (aborted : Bool)
  | done
  | aborted
  deriving DecidableEq, Repr

/-- The spindle state with its target in m/min, present while RUNUP or AT_SPEED (R120). -/
inductive Spindle where
  | stopped
  | runup (target : Nat)
  | atSpeed (target : Nat)
  | rundown
  deriving DecidableEq, Repr

inductive HeadOwner where
  | none
  | measure
  | turn
  deriving DecidableEq, Repr

inductive HeadPosition where
  | parked
  | moving
  | atWork
  | inCut
  | probing
  | retracted
  | halted
  deriving DecidableEq, Repr

/-- Where a head's slides are going (R122, R126). -/
inductive HeadDest where
  /-- to the park station -/
  | park
  /-- to the clear position beside the wheel -/
  | atWork
  /-- a withdrawal from the cut or from an approach -/
  | retracted
  /-- to the scan start of a sweep -/
  | scanStart
  /-- to the taping line of a sweep -/
  | tapingLine
  /-- to the start of a pass -/
  | passStart
  /-- at the start of a pass, waiting for the next index event -/
  | awaitIndex
  /-- at the park station after a reference sweep, the probe being withdrawn (5.7.1) -/
  | stow
  deriving DecidableEq, Repr

inductive ToolState where
  | usable
  | worn
  | exhausted
  deriving DecidableEq, Repr

/-- The start of a pass, where the head goes and from where it cuts (R126). -/
structure PassStart where
  /-- the axial position, µm -/
  axial : Nat
  /-- how far, µm, the passes before it have brought the surface of the wheel below that of the turning's beginning -/
  surface : Nat
  /-- the radial depth of the pass below that surface, µm -/
  depth : Nat
  deriving DecidableEq, Repr

/-- A head record (7.2). -/
structure Head where
  owner : HeadOwner
  position : HeadPosition
  dest : Option HeadDest
  edgeCount : Nat
  edgesUsed : Nat
  tool : ToolState
  passIndex : Option Nat
  /-- the start of the pass the head goes to, stands at or cuts (R126) -/
  passStart : Option PassStart
  feed : Nat
  zDone : Option Nat
  remaining : Option Nat
  /-- the cutting force reading, daN (R49) -/
  force : Nat
  /-- index events of blanking of M9 or M10 that are left (R59) -/
  blankLeft : Nat
  deriving DecidableEq, Repr

inductive PassStatus where
  | pending
  | active
  | complete
  | incomplete
  deriving DecidableEq, Repr

/-- The turning progress (07, table of items). -/
structure Progress where
  step : Nat
  status : Sides (List PassStatus)
  lProf : Nat
  deriving DecidableEq, Repr

inductive TurnCause where
  | abort
  | pitStop
  | presenceLost
  deriving DecidableEq, Repr

inductive TurnOutcome where
  | none
  | complete
  | interrupted (cause : TurnCause)
  deriving DecidableEq, Repr

structure Tcu where
  state : TcuState
  spindle : Spindle
  stopTimer : Option Nat
  /-- a measuring run has been asked for and is neither finished nor withdrawn (R140) -/
  measuring : Bool
  /-- roller surface speed, mm/min (R121) -/
  rollerSpeed : Nat
  /-- index events of the present run, 0, 1 or 2 for two and more (R121) -/
  runEvents : Nat
  /-- ms between the last two index events of the run -/
  interval : Nat
  head : Sides Head
  progress : Option Progress
  revolutions : Nat
  lastTurn : TurnOutcome
  deriving DecidableEq, Repr

/-! ## Axle History Store (08) -/

inductive RecordState where
  | inService
  /-- with the due mark: the limit diameter and the source axle ID -/
  | turnDue (limit : Int) (source : AxleId)
  | condemned
  deriving DecidableEq, Repr

inductive WorkKind where
  | turned
  | checked
  deriving DecidableEq, Repr

/-- The wheel part of a measurement entry (8.2). -/
structure WheelPart where
  d20 : Int
  h : Int
  t : Int
  qR : Int
  oor : Int
  verdict : Option Verdict
  deriving DecidableEq, Repr

/-- What an entry carries besides stamp and serial (8.2). -/
inductive EntryBody where
  | found (part : Sides (Option WheelPart)) (mismatch : Bool)
  | checked (part : Sides (Option WheelPart)) (mismatch : Bool)
  | turned (target : Int) (planned cut : Sides Int) (passes : Sides Nat) (interrupted : Bool)
  | marked (limit : Int) (source : AxleId)
  | condemned (target : Int)
  | entered (diameter : Sides (Option Int))
  deriving DecidableEq, Repr

structure Entry where
  body : EntryBody
  stamp : Stamp
  serial : Nat
  deriving DecidableEq, Repr

/-- A history record (8.1). -/
structure Record where
  axleId : AxleId
  wheelType : Nat
  bogieId : BogieId
  position : Nat
  state : RecordState
  lastD : Sides (Option Int)
  lastWork : Option WorkKind
  loss : Nat
  turnings : Nat
  visits : Nat
  nextSerial : Nat
  entries : List Entry
  deriving DecidableEq, Repr

/-- A slot that is not FREE (8.3). -/
inductive Slot where
  | written (record : Record)
  | valid (record : Record)
  | bad
  deriving DecidableEq, Repr

inductive CacheState where
  | clean
  | dirty
  | committing
  deriving DecidableEq, Repr

/-- An open record (8.5). -/
structure OpenRecord where
  record : Record
  state : CacheState
  /-- the changed-during-commit mark -/
  changed : Bool
  deriving DecidableEq, Repr

inductive CommitStage where
  | write
  | verify
  deriving DecidableEq, Repr

/-- The commit in progress (R154, R155). -/
structure Commit where
  axleId : AxleId
  slot : Nat
  stage : CommitStage
  /-- the second slot is being tried -/
  retry : Bool
  /-- slots marked BAD by this commit -/
  bads : Nat
  deriving DecidableEq, Repr

inductive CommitOutcome where
  | none
  | committed (axleId : AxleId) (bads : Nat)
  | failed (axleId : AxleId) (bads : Nat)
  deriving DecidableEq, Repr

/-- The seated record link (R148). -/
inductive SeatedLink where
  | none
  | waiting (axleId : AxleId)
  | opened (axleId : AxleId)
  deriving DecidableEq, Repr

/-- A record that is being opened (R148, R149, R152, R158). -/
structure Opening where
  axleId : AxleId
  /-- for the seating; otherwise for a sibling mark -/
  seating : Bool
  /-- the record, where it is created at this seating -/
  created : Option Record
  /-- a cache place has been found and the slot is being read; otherwise this is the waiting opening of R152 -/
  placed : Bool
  deriving DecidableEq, Repr

inductive StoreState where
  | loading
  | ready
  deriving DecidableEq, Repr

/-- An entry of the record index (R147). -/
structure IndexEntry where
  axleId : AxleId
  slot : Option Nat
  deriving DecidableEq, Repr

structure Ahs where
  store : StoreState
  /-- the slot array: slot numbers strictly rising, FREE slots not listed -/
  slots : List (Nat × Slot)
  /-- the record index, in ascending order of axle ID -/
  index : List IndexEntry
  cache : List OpenRecord
  queue : List AxleId
  commit : Option Commit
  link : SeatedLink
  opening : Option Opening
  storeFull : Bool
  lastCommit : CommitOutcome
  scanLosses : Nat
  deriving DecidableEq, Repr

/-! ## Settings Store (10) -/

inductive ErrorMode where
  | full
  | oneStep
  deriving DecidableEq, Repr

inductive ClampMode where
  | sensor
  | timed
  deriving DecidableEq, Repr

inductive SilenceMode where
  | hold
  | report
  deriving DecidableEq, Repr

/-- An entry of the wheel type table (10.2). -/
structure WheelType where
  dNew : Nat
  dScrap : Nat
  profileIndex : Nat
  hMax : Nat
  tMin : Nat
  tMax : Nat
  qRMin : Nat
  oorMax : Nat
  deriving DecidableEq, Repr

/-- An entry of the profile table (10.2). -/
structure Profile where
  hT : Nat
  tT : Nat
  k : Nat
  lProf : Nat
  deriving DecidableEq, Repr

/-- The scalar settings of 10.1 and the two tables of 10.2. -/
structure Settings where
  liftSpeed : Nat
  kpLift : Nat
  liftMode : ErrorMode
  contact : Nat
  bearing : Nat
  overload : Nat
  tiltLimit : Nat
  clearance : Nat
  clampMode : ClampMode
  clampTime : Nat
  monitorMode : PerMonitor MonitorMode
  deglitch : PerMonitor Nat
  /-- scope of M9 and of M10 -/
  scope : Sides Scope
  slipBlanking : Nat
  /-- blanking of M9 and of M10 -/
  toolBlanking : Sides Nat
  forceLimit : Nat
  scanStep : Nat
  zTl : Nat
  gauge : Nat
  qOff : Nat
  rRef : Nat
  axleTol : Nat
  probeOffset : Sides Int
  cMin : Nat
  finishDepth : Nat
  depthLimit : Nat
  bogieTol : Nat
  ta : Int
  tb : Int
  tc : Int
  aMax : Bands Nat
  bandSpeed : Bands Nat
  bandForce : Bands Nat
  feedMode : ErrorMode
  kpFeed : Nat
  fStart : Nat
  fMin : Nat
  fMax : Nat
  edgeLife : Nat
  edgesPerInsert : Nat
  silenceTimeout : Nat
  silenceMode : SilenceMode
  wheelTypes : List WheelType
  profiles : List Profile
  deriving DecidableEq, Repr

/-- The tool-life counters of one head (10.4). -/
structure ToolCounters where
  edgeCount : Nat
  edgesUsed : Nat
  tool : ToolState
  deriving DecidableEq, Repr

/-- The contents of the stored image whose check is GOOD (10.4). -/
structure Image where
  settings : Settings
  tools : Sides ToolCounters
  /-- the autoload flag is SET -/
  autoload : Bool
  deriving DecidableEq, Repr

inductive SettingsState where
  | idle
  | pending
  | writing
  deriving DecidableEq, Repr

inductive StartSource where
  | defaults
  | image
  deriving DecidableEq, Repr

inductive SettingsOutcome where
  | none
  | stored
  | storeFailed
  | loaded
  | defaulted
  deriving DecidableEq, Repr

structure Sst where
  active : Settings
  /-- the stored image; absent while its check is BAD -/
  image : Option Image
  /-- the snapshot being stored (R184) -/
  snapshot : Option Image
  store : SettingsState
  source : StartSource
  lastOutcome : SettingsOutcome
  deriving DecidableEq, Repr

/-! ## Supervisor Link Port (09) -/

inductive Rate where
  | baud115200
  | baud460800
  deriving DecidableEq, Repr

/-- The receiver; IN_FRAME with the bytes received after SYNC (R169). -/
inductive Receiver where
  | hunting
  | inFrame (bytes : List Byte)
  deriving DecidableEq, Repr

/-- The transmitter, with the bytes of the frame it is sending (R173). -/
inductive Transmitter where
  | idle
  | sendingReply (bytes : List Byte)
  | sendingReport (bytes : List Byte)
  deriving DecidableEq, Repr

inductive LastFrame where
  | reply
  | report
  deriving DecidableEq, Repr

structure Slp where
  rate : Rate
  receiver : Receiver
  gapTimer : Option Nat
  queue : List Frame
  replySlot : Option Reply
  transmitter : Transmitter
  lastFrame : LastFrame
  reportDue : Bool
  /-- stopped, or running with the s it started with -/
  silenceTimer : Option Nat
  silenceFlag : Bool
  silenceHold : Bool
  resetPending : Bool
  deriving DecidableEq, Repr

/-! ## The whole part -/

/-- The state of the part: its ten blocks, and the commands that wait. -/
structure State where
  pil : Pil
  blu : Blu
  fmu : Fmu
  gbc : Gbc
  pmu : Pmu
  tpe : Tpe
  tcu : Tcu
  ahs : Ahs
  sst : Sst
  slp : Slp
  /-- the commands that wait, first in first out: the model's own field -/
  pending : List Instr
  deriving DecidableEq, Repr

/-- Nothing stops the part: the manual names no event that does, and every command has a next state. Safe: no
constructor, so no claim can rest on a fault. -/
inductive Fault where
  deriving DecidableEq, Repr

/-- Why a command has no meaning. -/
inductive Refusal where
  /-- The command is not modelled. Raised by no arm: every command has its meaning. Safe. -/
  | notModelled (mnemonic : String)
  deriving DecidableEq, Repr

/-! ## One update per block, so that frames are seen -/

def State.modPil (f : Pil → Pil) (s : State) : State := { s with pil := f s.pil }
def State.modBlu (f : Blu → Blu) (s : State) : State := { s with blu := f s.blu }
def State.modFmu (f : Fmu → Fmu) (s : State) : State := { s with fmu := f s.fmu }
def State.modGbc (f : Gbc → Gbc) (s : State) : State := { s with gbc := f s.gbc }
def State.modPmu (f : Pmu → Pmu) (s : State) : State := { s with pmu := f s.pmu }
def State.modTpe (f : Tpe → Tpe) (s : State) : State := { s with tpe := f s.tpe }
def State.modTcu (f : Tcu → Tcu) (s : State) : State := { s with tcu := f s.tcu }
def State.modAhs (f : Ahs → Ahs) (s : State) : State := { s with ahs := f s.ahs }
def State.modSst (f : Sst → Sst) (s : State) : State := { s with sst := f s.sst }
def State.modSlp (f : Slp → Slp) (s : State) : State := { s with slp := f s.slp }

/-! ## Reset values -/

/-- A monitor after any reset (R48), its condition absent. -/
def Monitor.reset : Monitor := ⟨.quiet, 0, false, none, .none⟩

/-- Entry 0 of the wheel type table by default (10.2). -/
def WheelType.first : WheelType := ⟨920000, 850000, 0, 36000, 22000, 33000, 6500, 1000⟩

/-- Entries 1..7 of the wheel type table by default (10.2). -/
def WheelType.undefined : WheelType := ⟨0, 0, 0, 36000, 22000, 33000, 6500, 1000⟩

/-- Every entry of the profile table by default (10.2). -/
def Profile.first : Profile := ⟨28000, 32500, 1664, 135000⟩

/-- The defaults of 10.1, 10.2 and 3.2. -/
def Settings.defaults : Settings where
  liftSpeed := 8
  kpLift := 2
  liftMode := .full
  contact := 200
  bearing := 2000
  overload := 12000
  tiltLimit := 3000
  clearance := 40000
  clampMode := .sensor
  clampTime := 2000
  monitorMode := ⟨.latched, .latched, .latched, .latched, .latched, .latched, .latched, .perStroke, .perStroke,
    .perStroke, .latched, .latched, .latched⟩
  deglitch := ⟨50, 50, 50, 50, 20, 50, 50, 20, 10, 10, 10, 10, 100⟩
  scope := ⟨.side, .side⟩
  slipBlanking := 2
  toolBlanking := ⟨1, 1⟩
  forceLimit := 2500
  scanStep := 600
  zTl := 70000
  gauge := 10000
  qOff := 2000
  rRef := 400000
  axleTol := 300
  probeOffset := ⟨0, 0⟩
  cMin := 500
  finishDepth := 300
  depthLimit := 15000
  bogieTol := 2000
  ta := 0
  tb := 250
  tc := 450
  aMax := ⟨2000, 3000, 3000, 1500⟩
  bandSpeed := ⟨60, 80, 80, 50⟩
  bandForce := ⟨900, 1100, 1100, 700⟩
  feedMode := .full
  kpFeed := 2
  fStart := 500
  fMin := 200
  fMax := 1200
  edgeLife := 600
  edgesPerInsert := 4
  silenceTimeout := 0
  silenceMode := .hold
  wheelTypes := [.first, .undefined, .undefined, .undefined, .undefined, .undefined, .undefined, .undefined]
  profiles := [.first, .first, .first, .first]

/-- The tool counters of a head whose history is unknown (R139, R188). -/
def ToolCounters.unknown : ToolCounters := ⟨0, 0, .worn⟩

/-- A plan record in state NONE with a reason or none (R117). -/
def PlanRecord.empty (reason : Option PlanReason) : PlanRecord := ⟨.none, reason, none, none⟩

def Tpe.reset : Tpe := ⟨.empty none, .idle, none, none, [], .none⟩

/-- A head of the PMU after a reset, with the calibration given (05, table of items). -/
def PmuHead.reset (calibration : Calibration) : PmuHead :=
  ⟨[], [], calibration, none, .idle, .none, false, false, false, none⟩

/-- A parked head with tools of unknown history, at f_start (R122, R188). -/
def Head.firstReset : Head :=
  ⟨.none, .parked, none, 0, 0, .worn, none, none, 500, none, none, 0, 0⟩

/-- The part right after its first power-on reset: the values of every block's table of items, with the field lines at
rest (log entry 2) and a blank nonvolatile array (log entry 4). -/
def State.reset : State where
  pil := {
    seatState := .vacant
    identity := none
    tagState := .none
    tagAttempts := 0
    tagId := none
    presence := false
    bridge := .both ⟨.inLine, false, ⟨true, false⟩, none, .none⟩
    owners := ⟨.link, .link, .link, .link⟩
    pitStop := false
    clearToMove := true
    stamp := 0
    lastTag := .none }
  blu := {
    posts := .each ⟨0, 0, .free, 0⟩
    lift := .lowered
    kind := none
    target := 0
    clamp := .both ⟨.opened, ⟨false, true⟩, none, false, .none⟩
    lastLift := .none }
  fmu := {
    monitors := .ofFn fun _ => .reset
    slipBlanked := false
    slipEighths := 0 }
  gbc := {
    queue := []
    held := .both []
    bus := .idle
    run := none
    clockHeld := false
    waitTimer := none
    observation := none
    foreignFlag := false
    quietTimer := none
    recovery := [] }
  pmu := {
    phase := .idle
    selected := none
    settle := 0
    lastSweep := .none
    entrySkipped := false
    turnedSince := false
    head := .both (.reset .stale)
    taken := .both none
    rim := .both ⟨200, .live, none⟩
    record := .both .none }
  tpe := .reset
  tcu := {
    state := .idle
    spindle := .stopped
    stopTimer := none
    measuring := false
    rollerSpeed := 0
    runEvents := 0
    interval := 0
    head := .both .firstReset
    progress := none
    revolutions := 0
    lastTurn := .none }
  ahs := {
    store := .loading
    slots := []
    index := []
    cache := []
    queue := []
    commit := none
    link := .none
    opening := none
    storeFull := false
    lastCommit := .none
    scanLosses := 0 }
  sst := {
    active := .defaults
    image := none
    snapshot := none
    store := .idle
    source := .defaults
    lastOutcome := .none }
  slp := {
    rate := .baud115200
    receiver := .hunting
    gapTimer := none
    queue := []
    replySlot := none
    transmitter := .idle
    lastFrame := .report
    reportDue := true
    silenceTimer := none
    silenceFlag := false
    silenceHold := false
    resetPending := false }
  pending := []

end Sys2Proof.Machine
end

