-- ==== Sys2Proof/Machine/Ops.lean ====
section
/-! DEFINITION. Shared operations: the four roundings of 00_scope.md 5.2, the CRC, the coding of fields in bytes (R190),
and the small tests and updates of State that every block uses. -/

namespace Sys2Proof.Machine

/-! ## Roundings (00_scope.md 5.2) -/

/-- Division rounded to the nearest integer, a half away from zero. -/
def divHalfAway (a b : Int) : Int :=
  let q : Int := ((2 * a.natAbs + b.natAbs) / (2 * b.natAbs) : Nat)
  if a < 0 ↔ b < 0 then q else -q

/-- Division truncated toward zero. -/
def divTrunc (a b : Int) : Int := a.tdiv b

/-- Division rounded down. -/
def divFloor (a b : Int) : Int := a.fdiv b

/-- Division rounded up. -/
def divCeil (a b : Int) : Int := -((-a).fdiv b)

/-- Division of natural numbers rounded up. -/
def natDivCeil (a b : Nat) : Nat := (a + b - 1) / b

/-- A value brought into a range: the nearer end where it lies outside. -/
def clampInt (lo hi x : Int) : Int := if x < lo then lo else if hi < x then hi else x

/-- A counter that saturates. -/
def saturate (top n : Nat) : Nat := if n ≤ top then n else top

/-! ## The CRC-16 of both links (R3, 9.1) -/

/-- One shift of the CRC register, polynomial 1021h, unreflected. -/
def crcShift (c : BitVec 16) : BitVec 16 :=
  if c.msb then (c <<< 1) ^^^ 0x1021#16 else c <<< 1

/-- One byte into the CRC register, most significant bit first. -/
def crcByte (c : BitVec 16) (b : Byte) : BitVec 16 :=
  crcShift (crcShift (crcShift (crcShift (crcShift (crcShift (crcShift (crcShift
    (c ^^^ (b.setWidth 16 <<< 8)))))))))

/-- The CRC-16 of a list of bytes: initial value FFFFh, final XOR 0000h. -/
def crc16 (bytes : List Byte) : BitVec 16 := bytes.foldl crcByte 0xFFFF#16

/-! ## Fields as bytes (R190) -/

/-- An integer in `n` bytes, high byte first, two's complement where it is negative. -/
def be : Nat → Int → List Byte
  | 0, _ => []
  | n + 1, x => be n (x.fdiv 256) ++ [BitVec.ofInt 8 x]

/-- An absent unsigned field of `n` bytes. -/
def absentBytes (n : Nat) : List Byte := List.replicate n 0xFF#8

/-- An unsigned field that may be absent. -/
def beOpt (n : Nat) : Option Int → List Byte
  | some x => be n x
  | none => absentBytes n

/-- A signed field of `n` bytes that may be absent: 80h and zeros. -/
def beSigned (n : Nat) : Option Int → List Byte
  | some x => be n x
  | none => 0x80#8 :: List.replicate (n - 1) 0#8

/-- A character field of `n` characters that may be absent: spaces. -/
def charField (n : Nat) : Option (List Byte) → List Byte
  | some cs => cs
  | none => List.replicate n 0x20#8

/-- One byte of value `n`. -/
def byte (n : Nat) : Byte := BitVec.ofNat 8 n

/-- One byte of value `n`, or FFh where absent. -/
def byteOpt : Option Nat → Byte
  | some n => byte n
  | none => 0xFF#8

/-- The value of bytes sent high byte first. -/
def fromBe (bytes : List Byte) : Nat := bytes.foldl (fun acc b => acc * 256 + b.toNat) 0

/-- A bit of weight `w`. -/
def bitIf (w : Nat) (b : Bool) : Nat := if b then w else 0

/-! ## Characters and identifiers -/

/-- A character 0-9 or A-Z (R190). -/
def idChar (b : Byte) : Bool :=
  (0x30 ≤ b.toNat && b.toNat ≤ 0x39) || (0x41 ≤ b.toNat && b.toNat ≤ 0x5A)

/-- An identifier of `n` characters, each 0-9 or A-Z. -/
def idValid (n : Nat) (cs : List Byte) : Bool := cs.length == n && cs.all idChar

/-- Ascending order of identifiers: character codes, from the first character on (log entry 17). -/
def idBefore : List Byte → List Byte → Bool
  | [], [] => false
  | [], _ :: _ => true
  | _ :: _, [] => false
  | a :: as, b :: bs =>
    if a.toNat < b.toNat then true else if b.toNat < a.toNat then false else idBefore as bs

/-! ## Updates of one side's record -/

def modBridge (side : Side) (f : Bridge → Bridge) (s : State) : State :=
  s.modPil fun p => { p with bridge := p.bridge.set (f (p.bridge.get side)) side }

def modClamp (side : Side) (f : Clamp → Clamp) (s : State) : State :=
  s.modBlu fun b => { b with clamp := b.clamp.set (f (b.clamp.get side)) side }

def modHead (side : Side) (f : Head → Head) (s : State) : State :=
  s.modTcu fun t => { t with head := t.head.set (f (t.head.get side)) side }

def modPmuHead (side : Side) (f : PmuHead → PmuHead) (s : State) : State :=
  s.modPmu fun p => { p with head := p.head.set (f (p.head.get side)) side }

def modRim (side : Side) (f : Rim → Rim) (s : State) : State :=
  s.modPmu fun p => { p with rim := p.rim.set (f (p.rim.get side)) side }

def modMonitor (m : MonitorId) (f : Monitor → Monitor) (s : State) : State :=
  s.modFmu fun u => { u with monitors := u.monitors.set (f (u.monitors.get m)) m }

/-- Apply an operation to one side and then to the other, L first. -/
def forSides (f : Side → State → State) (s : State) : State := f .r (f .l s)

/-! ## Tests of State -/

/-- The lift is RISING or LOWERING. -/
def liftMoving (s : State) : Bool := s.blu.lift == .rising || s.blu.lift == .lowering

/-- The bridge is MOVING_IN or MOVING_OUT. -/
def Bridge.moving (b : Bridge) : Bool := b.state == .movingIn || b.state == .movingOut

def bridgesMoving (s : State) : Bool := s.pil.bridge.any Bridge.moving

/-- Both rail bridges are in the state given. -/
def bothBridges (st : BridgeState) (s : State) : Bool := s.pil.bridge.all fun b => b.state == st

/-- The clamp is CLOSING or OPENING. -/
def Clamp.moving (c : Clamp) : Bool := c.state == .closing || c.state == .opening

def clampsMoving (s : State) : Bool := s.blu.clamp.any Clamp.moving

/-- Both clamps are in the state given. -/
def bothClamps (st : ClampState) (s : State) : Bool := s.blu.clamp.all fun c => c.state == st

/-- The spindle is RUNUP or AT_SPEED. -/
def spindleRunning (s : State) : Bool :=
  match s.tcu.spindle with
  | .runup _ => true
  | .atSpeed _ => true
  | .stopped => false
  | .rundown => false

/-- The spindle's target in m/min, while it is RUNUP or AT_SPEED (R120). -/
def spindleTarget (s : State) : Option Nat :=
  match s.tcu.spindle with
  | .runup v => some v
  | .atSpeed v => some v
  | .stopped => none
  | .rundown => none

/-- A turning is RUNUP, CUTTING or PAUSED: it can still be paused or ended from outside. -/
def turningLive (s : State) : Bool :=
  match s.tcu.state with
  | .runup => true
  | .cutting => true
  | .paused _ => true
  | _ => false

/-- A turning is in progress: RUNUP, CUTTING, PAUSED or ENDING (07). -/
def turningInProgress (s : State) : Bool :=
  turningLive s || (match s.tcu.state with | .ending _ => true | _ => false)

/-- The TCU is PAUSED. -/
def turningPaused (s : State) : Bool :=
  match s.tcu.state with
  | .paused _ => true
  | _ => false

/-- The TCU is IDLE, DONE or ABORTED. -/
def tcuFree (s : State) : Bool :=
  s.tcu.state == .idle || s.tcu.state == .done || s.tcu.state == .aborted

/-- A sweep is running (5.3). -/
def sweepRunning (s : State) : Bool := s.pmu.phase != .idle

/-- The wheel of a side is among the wheels of a sweep. -/
def Wheels.has : Wheels → Side → Bool
  | .l, .l => true
  | .l, .r => false
  | .r, .l => false
  | .r, .r => true
  | .both, _ => true

/-- The head of a side is used by the running sweep. -/
def headInSweep (side : Side) (s : State) : Bool :=
  sweepRunning s && (match s.pmu.selected with | some w => w.has side | none => false)

/-- A reference sweep of the head is running. -/
def referenceRunning (side : Side) (s : State) : Bool := (s.pmu.head.get side).reference == .running

/-- Some head has a reference sweep running. -/
def anyReference (s : State) : Bool := referenceRunning .l s || referenceRunning .r s

/-- A position state in which the head's slides travel, cut or probe. -/
def HeadPosition.active (p : HeadPosition) : Bool := p == .moving || p == .inCut || p == .probing

/-- Some head is MOVING, IN_CUT or PROBING. -/
def headsActive (s : State) : Bool := s.tcu.head.any fun h => h.position.active

/-- Some head is IN_CUT. -/
def headInCut (s : State) : Bool := s.tcu.head.any fun h => h.position == .inCut

/-- The monitor is LATCHED. -/
def latched (m : MonitorId) (s : State) : Bool := (s.fmu.monitors.get m).state == .latched

/-- Some monitor of M1 to M7 and M13 is LATCHED (R124, R134). -/
def turnBlocked (s : State) : Bool :=
  [MonitorId.m1, .m2, .m3, .m4, .m5, .m6, .m7, .m13].any fun m => latched m s

/-- The overtravel monitor of a head: M11 or M12. -/
def overtravelOf : Side → MonitorId
  | .l => .m11
  | .r => .m12

/-- The force monitor of a head: M9 or M10. -/
def forceOf : Side → MonitorId
  | .l => .m9
  | .r => .m10

/-- The monitor of a clamp: M6 or M7. -/
def clampMonitor : Side → MonitorId
  | .l => .m6
  | .r => .m7

/-- The owner of a motion group. -/
def Owners.get (o : Owners) : Group → Owner
  | .lift => o.lift
  | .clamps => o.clamps
  | .bridges => o.bridges
  | .heads => o.heads

def Owners.set (o : Owners) (w : Owner) : Group → Owners
  | .lift => { o with lift := w }
  | .clamps => { o with clamps := w }
  | .bridges => { o with bridges := w }
  | .heads => { o with heads := w }

/-- The lamp of a motion group at the pendant is lit (R13). -/
def pendantLamp (s : State) (g : Group) : Bool := s.pil.owners.get g == .pendant

/-! ## The lift's figures (R20, R33) -/

/-- The mean post position: the sum of the four positions divided by 4, trunc (R20). -/
def mean (s : State) : Nat :=
  (s.blu.posts.p1.position + s.blu.posts.p2.position + s.blu.posts.p3.position + s.blu.posts.p4.position) / 4

/-- Every post is at home (R20). -/
def allHome (s : State) : Bool := s.blu.posts.all fun p => p.position ≤ Config.homeWindow

/-- Every post is BEARING. -/
def allBearing (s : State) : Bool := s.blu.posts.all fun p => p.zone == .bearing

/-- The lift is HOLDING with all four posts BEARING. -/
def holdingBearing (s : State) : Bool := s.blu.lift == .holding && allBearing s

/-- The largest of the four positions minus the smallest (R33). -/
def spread (s : State) : Nat :=
  let p := s.blu.posts.map PostRecord.position
  max (max p.p1 p.p2) (max p.p3 p.p4) - min (min p.p1 p.p2) (min p.p3 p.p4)

/-! ## Outputs that follow the state -/

/-- The spindle drive is applied (R120). -/
def spindleDrive (s : State) : Bool := spindleRunning s

/-- The drive of a rail bridge is applied (R10 to R12). -/
def bridgeDrive (side : Side) (s : State) : Bool := (s.pil.bridge.get side).moving

/-- The drive of a clamp moves it (2.7). -/
def clampDrive (side : Side) (s : State) : Bool := (s.blu.clamp.get side).moving

end Sys2Proof.Machine
end

