-- ==== Sys2Proof/Decode.lean ====
section
/-! DEFINITION. From frames to commands and back: the request kinds of 11.2. The table of commands gives no row a word of bits. -/

namespace Sys2Proof

open Machine

/-- The command a word spells by the table's bits: the table gives no row any bits, so no word spells one. -/
def decodeTableWord (_nbits _w : Nat) : Option Instr := none

namespace Decode

/-- Why a frame is no request: an UNKNOWN_REQUEST or a BAD_PARAMETER (R171). -/
abbrev Decoded := Except Code Instr

/-- A request whose payload has a fixed length (R171). -/
def sized (n : Nat) (p : List Byte) (i : Instr) : Decoded := if p.length = n then .ok i else .error .badParameter

/-- A payload byte as a number. -/
def at' (p : List Byte) (k : Nat) : Nat := (p.getD k 0#8).toNat

/-- `n` payload bytes from offset `k`, high byte first. -/
def field (p : List Byte) (k n : Nat) : Nat := fromBe ((p.drop k).take n)

/-- A signed field of 4 bytes (R190). -/
def signed (p : List Byte) (k : Nat) : Int := (BitVec.ofNat 32 (field p k 4)).toInt

/-- A diameter of 3 bytes, absent as FFFFFFh (R190). -/
def diameter (p : List Byte) (k : Nat) : Option Nat :=
  if field p k 3 = 0xFFFFFF then none else some (field p k 3)

/-- SET_SETTING: the form byte must agree with the length (R190). -/
def setSetting (tag : Byte) (p : List Byte) : Decoded :=
  if p.length = 7 ∧ at' p 0 = 0 then .ok (.setSetting tag (.scalar (at' p 1) (at' p 2)) (signed p 3))
  else if p.length = 8 ∧ at' p 0 = 1 then
    .ok (.setSetting tag (.table (at' p 1) (at' p 2) (at' p 3)) (signed p 4))
  else .error .badParameter

/-- GET_SETTING: the form byte must agree with the length (R190). -/
def getSetting (tag : Byte) (p : List Byte) : Decoded :=
  if p.length = 4 ∧ at' p 1 = 0 then .ok (.getSetting tag (at' p 0) (.scalar (at' p 2) (at' p 3)))
  else if p.length = 5 ∧ at' p 1 = 1 then
    .ok (.getSetting tag (at' p 0) (.table (at' p 2) (at' p 3) (at' p 4)))
  else .error .badParameter

/-- The request of a KIND (11.2). -/
def request (kind : Nat) (tag : Byte) (p : List Byte) : Decoded :=
  match kind with
  | 0x01 =>
    sized 21 p (.seatAxle tag (p.take 10) (at' p 10) ((p.drop 11).take 8) (at' p 19) ((p.getD 20 0#8).getLsbD 0))
  | 0x02 => sized 0 p (.releaseAxle tag)
  | 0x03 => sized 1 p (.bridges tag (at' p 0))
  | 0x04 => sized 2 p (.source tag (at' p 0) (at' p 1))
  | 0x05 => sized 4 p (.setStamp tag (BitVec.ofNat 32 (field p 0 4)))
  | 0x10 => sized 4 p (.lift tag (field p 0 4))
  | 0x11 => sized 0 p (.takeLoad tag)
  | 0x12 => sized 4 p (.lower tag (field p 0 4))
  | 0x13 => sized 0 p (.haltLift tag)
  | 0x14 => sized 0 p (.clampClose tag)
  | 0x15 => sized 0 p (.clampOpen tag)
  | 0x20 => sized 2 p (.clearFault tag (BitVec.ofNat 16 (field p 0 2)))
  | 0x21 => sized 0 p (.readFaults tag)
  | 0x28 => sized 1 p (.sweep tag (at' p 0))
  | 0x29 => sized 0 p (.haltSweep tag)
  | 0x2A => sized 1 p (.referenceSweep tag (at' p 0))
  | 0x2B => sized 1 p (.readProfile tag (at' p 0))
  | 0x30 => sized 0 p (.plan tag)
  | 0x31 => sized 0 p (.readPlan tag)
  | 0x38 => sized 0 p (.turn tag)
  | 0x39 => sized 0 p (.pause tag)
  | 0x3A => sized 0 p (.resume tag)
  | 0x3B => sized 0 p (.abort tag)
  | 0x3C => sized 1 p (.home tag (at' p 0))
  | 0x3D => sized 1 p (.indexEdge tag (at' p 0))
  | 0x3E => sized 1 p (.toolChanged tag (at' p 0))
  | 0x40 => sized 11 p (.readHistory tag (p.take 10) (at' p 10))
  | 0x41 => sized 8 p (.listBogie tag p)
  | 0x42 => sized 10 p (.retireAxle tag p)
  | 0x43 => sized 16 p (.correctHistory tag (p.take 10) (diameter p 10) (diameter p 13))
  | 0x44 => sized 0 p (.commit tag)
  | 0x48 => sized 0 p (.status tag)
  | 0x49 => sized 0 p (.resumeLink tag)
  | 0x4A => sized 0 p (.reset tag)
  | 0x50 => setSetting tag p
  | 0x51 => getSetting tag p
  | 0x52 => sized 1 p (.storeSettings tag (at' p 0))
  | 0x53 => sized 0 p (.loadSettings tag)
  | 0x54 => sized 0 p (.defaultSettings tag)
  | _ => .error .unknownRequest

/-- The request of a frame (R171). -/
def frame (f : Frame) : Decoded := request f.kind.toNat f.tag f.payload

/-! ## From requests to frames (11.2) -/

/-- A diameter of 3 bytes, absent as FFFFFFh (R190). -/
def diameterBytes : Option Nat → List Byte
  | some d => be 3 d
  | none => absentBytes 3

/-- The address of a setting, with its form byte (R190). -/
def addrBytes : SettingAddr → List Byte
  | .scalar id inst => [0x00#8, byte id, byte inst]
  | .table table entry field => [0x01#8, byte table, byte entry, byte field]

/-- The frame that carries a request; none for a command that is no request (11.2). -/
def toFrame (i : Instr) : Option Frame :=
  match i with
  | .seatAxle tag axleId wheelType bogieId position force =>
    some ⟨0x01#8, tag, axleId ++ [byte wheelType] ++ bogieId ++ [byte position, byte (bitIf 1 force)]⟩
  | .releaseAxle tag => some ⟨0x02#8, tag, []⟩
  | .bridges tag direction => some ⟨0x03#8, tag, [byte direction]⟩
  | .source tag group owner => some ⟨0x04#8, tag, [byte group, byte owner]⟩
  | .setStamp tag stamp => some ⟨0x05#8, tag, be 4 stamp.toNat⟩
  | .lift tag height => some ⟨0x10#8, tag, be 4 height⟩
  | .takeLoad tag => some ⟨0x11#8, tag, []⟩
  | .lower tag height => some ⟨0x12#8, tag, be 4 height⟩
  | .haltLift tag => some ⟨0x13#8, tag, []⟩
  | .clampClose tag => some ⟨0x14#8, tag, []⟩
  | .clampOpen tag => some ⟨0x15#8, tag, []⟩
  | .clearFault tag monitors => some ⟨0x20#8, tag, be 2 monitors.toNat⟩
  | .readFaults tag => some ⟨0x21#8, tag, []⟩
  | .sweep tag wheels => some ⟨0x28#8, tag, [byte wheels]⟩
  | .haltSweep tag => some ⟨0x29#8, tag, []⟩
  | .referenceSweep tag head => some ⟨0x2A#8, tag, [byte head]⟩
  | .readProfile tag wheel => some ⟨0x2B#8, tag, [byte wheel]⟩
  | .plan tag => some ⟨0x30#8, tag, []⟩
  | .readPlan tag => some ⟨0x31#8, tag, []⟩
  | .turn tag => some ⟨0x38#8, tag, []⟩
  | .pause tag => some ⟨0x39#8, tag, []⟩
  | .resume tag => some ⟨0x3A#8, tag, []⟩
  | .abort tag => some ⟨0x3B#8, tag, []⟩
  | .home tag head => some ⟨0x3C#8, tag, [byte head]⟩
  | .indexEdge tag head => some ⟨0x3D#8, tag, [byte head]⟩
  | .toolChanged tag head => some ⟨0x3E#8, tag, [byte head]⟩
  | .readHistory tag axleId start => some ⟨0x40#8, tag, axleId ++ [byte start]⟩
  | .listBogie tag bogieId => some ⟨0x41#8, tag, bogieId⟩
  | .retireAxle tag axleId => some ⟨0x42#8, tag, axleId⟩
  | .correctHistory tag axleId diameterL diameterR =>
    some ⟨0x43#8, tag, axleId ++ diameterBytes diameterL ++ diameterBytes diameterR⟩
  | .commit tag => some ⟨0x44#8, tag, []⟩
  | .status tag => some ⟨0x48#8, tag, []⟩
  | .resumeLink tag => some ⟨0x49#8, tag, []⟩
  | .reset tag => some ⟨0x4A#8, tag, []⟩
  | .setSetting tag addr value => some ⟨0x50#8, tag, addrBytes addr ++ be 4 value⟩
  | .getSetting tag from' addr => some ⟨0x51#8, tag, byte from' :: addrBytes addr⟩
  | .storeSettings tag autoload => some ⟨0x52#8, tag, [byte autoload]⟩
  | .loadSettings tag => some ⟨0x53#8, tag, []⟩
  | .defaultSettings tag => some ⟨0x54#8, tag, []⟩
  | .powerOnReset _ => none
  | .pinReset _ => none
  | .linkResetEffect _ => none
  | .goodFrame _ => none
  | .lineError => none
  | .gapTimerExpiry => none
  | .dispatch => none
  | .sendingReply => none
  | .sendingReport => none
  | .frameSent => none
  | .silenceTimerExpiry => none
  | .presenceOn => none
  | .presenceOff => none
  | .tagReadBegin => none
  | .bridgeSwitchMade _ _ => none
  | .bridgeSwitchDropped _ _ => none
  | .bridgeTravelTimerExpiry _ => none
  | .pitStopAsserted => none
  | .pitStopReleased => none
  | .pendantJogUp => none
  | .pendantJogDown => none
  | .pendantJogRelease _ => none
  | .pendantClampsClose => none
  | .pendantClampsOpen => none
  | .pendantBridgesIn => none
  | .pendantBridgesOut => none
  | .pendantHeadsHome => none
  | .liftControlPeriodExpiry _ _ => none
  | .loadChange _ _ _ => none
  | .clampSwitchMade _ _ => none
  | .clampSwitchDropped _ _ => none
  | .clampMoveTimerExpiry _ => none
  | .deglitchTimerExpiry _ => none
  | .gaugeTransactionBegin => none
  | .gaugeTransactionEnd => none
  | .clockHold => none
  | .clockRelease => none
  | .waitTimerExpiry => none
  | .arbitrationLoss => none
  | .unexpectedStartStop _ => none
  | .foreignStart => none
  | .foreignStop => none
  | .quietTimerExpiry => none
  | .resetObservationTimeout => none
  | .profileScanBegin => none
  | .sweepExtractionDone => none
  | .rimTemperatureReading _ _ => none
  | .rimSensorFault _ => none
  | .rimHoldTimerExpiry _ => none
  | .indexEvent _ _ _ => none
  | .rollerSpeedChange _ _ => none
  | .forceReadingChange _ _ => none
  | .stopTimerExpiry => none
  | .headMoveEnd _ _ => none
  | .planComputationEnd => none
  | .recordOpenComplete => none
  | .commitBegin => none
  | .slotWriteDone => none
  | .commitVerifyDone _ => none
  | .startupScanEnd _ => none
  | .settingsProgrammingBegin => none
  | .settingsReadbackDone _ => none
  | .byteReceived _ => none
  | .gaugeBusByte _ _ => none

end Decode

end Sys2Proof
end

