-- ==== Sys2Proof/Machine/Operands.lean ====
section
/-! DEFINITION. Operand forms: the codes of enumerated request fields (R190), the settings with their addresses, ranges
and spans (R181, R182), and the data read on the gauge bus (11.5). -/

namespace Sys2Proof.Machine

/-! ## Enumerated codes of requests (R190) -/

/-- The code of a wheel or a head: L 0, R 1. -/
def sideOf : Nat → Option Side
  | 0 => some .l
  | 1 => some .r
  | _ => none

/-- The code of the wheels of a SWEEP: L 0, R 1, BOTH 2. -/
def wheelsOf : Nat → Option Wheels
  | 0 => some .l
  | 1 => some .r
  | 2 => some .both
  | _ => none

/-- The code of a bridge direction: IN 0, OUT 1. -/
def directionOf : Nat → Option BridgeEnd
  | 0 => some .inLine
  | 1 => some .out
  | _ => none

/-- The code of a motion group: LIFT 0, CLAMPS 1, BRIDGES 2, HEADS 3. -/
def groupOf : Nat → Option Group
  | 0 => some .lift
  | 1 => some .clamps
  | 2 => some .bridges
  | 3 => some .heads
  | _ => none

/-- The code of an owner: LINK 0, PENDANT 1. -/
def ownerOf : Nat → Option Owner
  | 0 => some .link
  | 1 => some .pendant
  | _ => none

/-- The code of GET_SETTING's source: ACTIVE 0, STORED 1 (answered as "is STORED"). -/
def storedOf : Nat → Option Bool
  | 0 => some false
  | 1 => some true
  | _ => none

/-- The code of STORE_SETTINGS's autoload flag: SET 0, CLEAR 1 (answered as "is SET"). -/
def autoloadOf : Nat → Option Bool
  | 0 => some true
  | 1 => some false
  | _ => none

/-! ## Settings by name -/

inductive WheelField where
  | dNew
  | dScrap
  | profileIndex
  | hMax
  | tMin
  | tMax
  | qRMin
  | oorMax
  deriving DecidableEq, Repr

inductive ProfileField where
  | hT
  | tT
  | k
  | lProf
  deriving DecidableEq, Repr

/-- A setting of 10.1 or a field of a table of 10.2. -/
inductive Setting where
  | liftSpeed
  | kpLift
  | liftMode
  | contact
  | bearing
  | overload
  | tiltLimit
  | clearance
  | clampMode
  | clampTime
  | monitorMode (m : MonitorId)
  | deglitch (m : MonitorId)
  | scope (side : Side)
  | slipBlanking
  | toolBlanking (side : Side)
  | forceLimit
  | scanStep
  | zTl
  | gauge
  | qOff
  | rRef
  | axleTol
  | probeOffset (side : Side)
  | cMin
  | finishDepth
  | depthLimit
  | bogieTol
  | ta
  | tb
  | tc
  | aMax (band : Band)
  | bandSpeed (band : Band)
  | bandForce (band : Band)
  | feedMode
  | kpFeed
  | fStart
  | fMin
  | fMax
  | edgeLife
  | edgesPerInsert
  | silenceTimeout
  | silenceMode
  | wheel (entry : Nat) (field : WheelField)
  | profile (entry : Nat) (field : ProfileField)
  deriving DecidableEq, Repr

/-- The monitor of an instance number 1..13. -/
def monitorOf : Nat → Option MonitorId
  | 1 => some .m1
  | 2 => some .m2
  | 3 => some .m3
  | 4 => some .m4
  | 5 => some .m5
  | 6 => some .m6
  | 7 => some .m7
  | 8 => some .m8
  | 9 => some .m9
  | 10 => some .m10
  | 11 => some .m11
  | 12 => some .m12
  | 13 => some .m13
  | _ => none

/-- The band of an instance number 1..4. -/
def bandOf : Nat → Option Band
  | 1 => some .a
  | 2 => some .b
  | 3 => some .c
  | 4 => some .d
  | _ => none

def wheelFieldOf : Nat → Option WheelField
  | 0 => some .dNew
  | 1 => some .dScrap
  | 2 => some .profileIndex
  | 3 => some .hMax
  | 4 => some .tMin
  | 5 => some .tMax
  | 6 => some .qRMin
  | 7 => some .oorMax
  | _ => none

def profileFieldOf : Nat → Option ProfileField
  | 0 => some .hT
  | 1 => some .tT
  | 2 => some .k
  | 3 => some .lProf
  | _ => none

/-- The settings that exist once: the short IDs whose instance is 0 (10.1). -/
def singleOf : Nat → Option Setting
  | 0 => some .liftSpeed
  | 1 => some .kpLift
  | 2 => some .liftMode
  | 3 => some .contact
  | 4 => some .bearing
  | 5 => some .overload
  | 6 => some .tiltLimit
  | 7 => some .clearance
  | 8 => some .clampMode
  | 9 => some .clampTime
  | 20 => some .forceLimit
  | 24 => some .scanStep
  | 25 => some .zTl
  | 26 => some .gauge
  | 27 => some .qOff
  | 28 => some .rRef
  | 29 => some .axleTol
  | 32 => some .cMin
  | 33 => some .finishDepth
  | 34 => some .depthLimit
  | 35 => some .bogieTol
  | 36 => some .ta
  | 37 => some .tb
  | 38 => some .tc
  | 48 => some .feedMode
  | 49 => some .kpFeed
  | 50 => some .fStart
  | 51 => some .fMin
  | 52 => some .fMax
  | 53 => some .edgeLife
  | 54 => some .edgesPerInsert
  | 56 => some .silenceTimeout
  | 57 => some .silenceMode
  | _ => none

/-- The setting a short ID and an instance name (10.1). -/
def scalarOf (id inst : Nat) : Option Setting :=
  match id with
  | 16 => (monitorOf inst).map .monitorMode
  | 17 => (monitorOf inst).map .deglitch
  | 18 => match inst with | 9 => some (.scope .l) | 10 => some (.scope .r) | _ => none
  | 19 =>
    match inst with
    | 8 => some .slipBlanking
    | 9 => some (.toolBlanking .l)
    | 10 => some (.toolBlanking .r)
    | _ => none
  | 30 => match inst with | 1 => some (.probeOffset .l) | 2 => some (.probeOffset .r) | _ => none
  | 39 => (bandOf inst).map .aMax
  | 40 => (bandOf inst).map .bandSpeed
  | 41 => (bandOf inst).map .bandForce
  | n => if inst = 0 then singleOf n else none

/-- The setting an address names, none where R181 answers BAD_PARAMETER. -/
def settingOf : SettingAddr → Option Setting
  | .scalar id inst => scalarOf id inst
  | .table t entry field =>
    match t with
    | 0 => if entry < 8 then (wheelFieldOf field).map (.wheel entry) else none
    | 1 => if entry < 4 then (profileFieldOf field).map (.profile entry) else none
    | _ => none

/-! ## Values of settings -/

def ErrorMode.code : ErrorMode → Int
  | .full => 0
  | .oneStep => 1

def ErrorMode.ofCode (v : Int) : ErrorMode := if v = 1 then .oneStep else .full

def ClampMode.code : ClampMode → Int
  | .sensor => 0
  | .timed => 1

def ClampMode.ofCode (v : Int) : ClampMode := if v = 1 then .timed else .sensor

def SilenceMode.code : SilenceMode → Int
  | .hold => 0
  | .report => 1

def SilenceMode.ofCode (v : Int) : SilenceMode := if v = 1 then .report else .hold

def Scope.code : Scope → Int
  | .side => 0
  | .pit => 1

def Scope.ofCode (v : Int) : Scope := if v = 1 then .pit else .side

def MonitorMode.code : MonitorMode → Int
  | .latched => 0
  | .perStroke => 1
  | .warnOnly => 2
  | .off => 3

def MonitorMode.ofCode (v : Int) : MonitorMode :=
  if v = 1 then .perStroke else if v = 2 then .warnOnly else if v = 3 then .off else .latched

/-- The entry of a wheel type 0..7. -/
def Settings.wheelType (st : Settings) (i : Nat) : WheelType := st.wheelTypes.getD i .undefined

/-- The profile entry 0..3. -/
def Settings.profile (st : Settings) (i : Nat) : Profile := st.profiles.getD i .first

def WheelType.read (w : WheelType) : WheelField → Nat
  | .dNew => w.dNew
  | .dScrap => w.dScrap
  | .profileIndex => w.profileIndex
  | .hMax => w.hMax
  | .tMin => w.tMin
  | .tMax => w.tMax
  | .qRMin => w.qRMin
  | .oorMax => w.oorMax

def WheelType.write (w : WheelType) (v : Nat) : WheelField → WheelType
  | .dNew => { w with dNew := v }
  | .dScrap => { w with dScrap := v }
  | .profileIndex => { w with profileIndex := v }
  | .hMax => { w with hMax := v }
  | .tMin => { w with tMin := v }
  | .tMax => { w with tMax := v }
  | .qRMin => { w with qRMin := v }
  | .oorMax => { w with oorMax := v }

def Profile.read (p : Profile) : ProfileField → Nat
  | .hT => p.hT
  | .tT => p.tT
  | .k => p.k
  | .lProf => p.lProf

def Profile.write (p : Profile) (v : Nat) : ProfileField → Profile
  | .hT => { p with hT := v }
  | .tT => { p with tT := v }
  | .k => { p with k := v }
  | .lProf => { p with lProf := v }

/-- The value of a setting as requests and replies carry it (11.2, R190): a deglitch time as its ms, another
enumerated setting as its position in its list. -/
def readSetting (st : Settings) : Setting → Int
  | .liftSpeed => st.liftSpeed
  | .kpLift => st.kpLift
  | .liftMode => st.liftMode.code
  | .contact => st.contact
  | .bearing => st.bearing
  | .overload => st.overload
  | .tiltLimit => st.tiltLimit
  | .clearance => st.clearance
  | .clampMode => st.clampMode.code
  | .clampTime => st.clampTime
  | .monitorMode m => (st.monitorMode.get m).code
  | .deglitch m => st.deglitch.get m
  | .scope side => (st.scope.get side).code
  | .slipBlanking => st.slipBlanking
  | .toolBlanking side => st.toolBlanking.get side
  | .forceLimit => st.forceLimit
  | .scanStep => st.scanStep
  | .zTl => st.zTl
  | .gauge => st.gauge
  | .qOff => st.qOff
  | .rRef => st.rRef
  | .axleTol => st.axleTol
  | .probeOffset side => st.probeOffset.get side
  | .cMin => st.cMin
  | .finishDepth => st.finishDepth
  | .depthLimit => st.depthLimit
  | .bogieTol => st.bogieTol
  | .ta => st.ta
  | .tb => st.tb
  | .tc => st.tc
  | .aMax band => st.aMax.get band
  | .bandSpeed band => st.bandSpeed.get band
  | .bandForce band => st.bandForce.get band
  | .feedMode => st.feedMode.code
  | .kpFeed => st.kpFeed
  | .fStart => st.fStart
  | .fMin => st.fMin
  | .fMax => st.fMax
  | .edgeLife => st.edgeLife
  | .edgesPerInsert => st.edgesPerInsert
  | .silenceTimeout => st.silenceTimeout
  | .silenceMode => st.silenceMode.code
  | .wheel i f => (st.wheelType i).read f
  | .profile i f => (st.profile i).read f

/-- The settings with one value replaced. -/
def writeSetting (st : Settings) (v : Int) : Setting → Settings
  | .liftSpeed => { st with liftSpeed := v.toNat }
  | .kpLift => { st with kpLift := v.toNat }
  | .liftMode => { st with liftMode := .ofCode v }
  | .contact => { st with contact := v.toNat }
  | .bearing => { st with bearing := v.toNat }
  | .overload => { st with overload := v.toNat }
  | .tiltLimit => { st with tiltLimit := v.toNat }
  | .clearance => { st with clearance := v.toNat }
  | .clampMode => { st with clampMode := .ofCode v }
  | .clampTime => { st with clampTime := v.toNat }
  | .monitorMode m => { st with monitorMode := st.monitorMode.set (.ofCode v) m }
  | .deglitch m => { st with deglitch := st.deglitch.set v.toNat m }
  | .scope side => { st with scope := st.scope.set (.ofCode v) side }
  | .slipBlanking => { st with slipBlanking := v.toNat }
  | .toolBlanking side => { st with toolBlanking := st.toolBlanking.set v.toNat side }
  | .forceLimit => { st with forceLimit := v.toNat }
  | .scanStep => { st with scanStep := v.toNat }
  | .zTl => { st with zTl := v.toNat }
  | .gauge => { st with gauge := v.toNat }
  | .qOff => { st with qOff := v.toNat }
  | .rRef => { st with rRef := v.toNat }
  | .axleTol => { st with axleTol := v.toNat }
  | .probeOffset side => { st with probeOffset := st.probeOffset.set v side }
  | .cMin => { st with cMin := v.toNat }
  | .finishDepth => { st with finishDepth := v.toNat }
  | .depthLimit => { st with depthLimit := v.toNat }
  | .bogieTol => { st with bogieTol := v.toNat }
  | .ta => { st with ta := v }
  | .tb => { st with tb := v }
  | .tc => { st with tc := v }
  | .aMax band => { st with aMax := st.aMax.set v.toNat band }
  | .bandSpeed band => { st with bandSpeed := st.bandSpeed.set v.toNat band }
  | .bandForce band => { st with bandForce := st.bandForce.set v.toNat band }
  | .feedMode => { st with feedMode := .ofCode v }
  | .kpFeed => { st with kpFeed := v.toNat }
  | .fStart => { st with fStart := v.toNat }
  | .fMin => { st with fMin := v.toNat }
  | .fMax => { st with fMax := v.toNat }
  | .edgeLife => { st with edgeLife := v.toNat }
  | .edgesPerInsert => { st with edgesPerInsert := v.toNat }
  | .silenceTimeout => { st with silenceTimeout := v.toNat }
  | .silenceMode => { st with silenceMode := .ofCode v }
  | .wheel i f => { st with wheelTypes := st.wheelTypes.set i ((st.wheelType i).write v.toNat f) }
  | .profile i f => { st with profiles := st.profiles.set i ((st.profile i).write v.toNat f) }

/-- The values an enumerated setting allows; none for a numeric setting (10.1). -/
def enumValues : Setting → Option (List Int)
  | .liftMode => some [0, 1]
  | .clampMode => some [0, 1]
  | .monitorMode _ => some [0, 1, 2, 3]
  | .deglitch _ => some [10, 20, 50, 100]
  | .scope _ => some [0, 1]
  | .feedMode => some [0, 1]
  | .silenceMode => some [0, 1]
  | _ => none

/-- The range of a table 0 field (10.2). -/
def wheelRange : WheelField → Int × Int
  | .dNew => (0, 1200000)
  | .dScrap => (0, 1200000)
  | .profileIndex => (0, 3)
  | .hMax => (10000, 50000)
  | .tMin => (10000, 40000)
  | .tMax => (10000, 40000)
  | .qRMin => (0, 20000)
  | .oorMax => (0, 5000)

/-- The range of a table 1 field (10.2). -/
def profileRange : ProfileField → Int × Int
  | .hT => (10000, 50000)
  | .tT => (10000, 40000)
  | .k => (256, 4096)
  | .lProf => (50000, 140000)

/-- The range of a setting (10.1, 10.2); for an enumerated setting the ends of its codes. -/
def settingRange : Setting → Int × Int
  | .liftSpeed => (1, 20)
  | .kpLift => (1, 4)
  | .liftMode => (0, 1)
  | .contact => (100, 1000)
  | .bearing => (500, 10000)
  | .overload => (5000, 25000)
  | .tiltLimit => (500, 10000)
  | .clearance => (10000, 80000)
  | .clampMode => (0, 1)
  | .clampTime => (500, 8000)
  | .monitorMode _ => (0, 3)
  | .deglitch _ => (10, 100)
  | .scope _ => (0, 1)
  | .slipBlanking => (0, 8)
  | .toolBlanking _ => (0, 3)
  | .forceLimit => (1000, 5000)
  | .scanStep => (550, 2000)
  | .zTl => (60000, 80000)
  | .gauge => (5000, 15000)
  | .qOff => (1000, 4000)
  | .rRef => (300000, 500000)
  | .axleTol => (100, 1000)
  | .probeOffset _ => (-255, 255)
  | .cMin => (0, 2000)
  | .finishDepth => (100, 1000)
  | .depthLimit => (1000, 15000)
  | .bogieTol => (500, 10000)
  | .ta => (-300, 600)
  | .tb => (-300, 600)
  | .tc => (-300, 600)
  | .aMax _ => (1000, 5000)
  | .bandSpeed _ => (20, 120)
  | .bandForce _ => (300, 2500)
  | .feedMode => (0, 1)
  | .kpFeed => (1, 4)
  | .fStart => (100, 2000)
  | .fMin => (100, 1000)
  | .fMax => (100, 2000)
  | .edgeLife => (50, 4000)
  | .edgesPerInsert => (1, 8)
  | .silenceTimeout => (0, 60)
  | .silenceMode => (0, 1)
  | .wheel _ f => wheelRange f
  | .profile _ f => profileRange f

/-- The span that the other members of an ordered group allow (R182), as a clamp of the value. -/
def clampSpan (st : Settings) (v : Int) : Setting → Int
  | .contact => min v (st.bearing - 1)
  | .bearing => clampInt (st.contact + 1) (st.overload - 1) v
  | .overload => max v (st.bearing + 1)
  | .ta => min v st.tb
  | .tb => clampInt st.ta st.tc v
  | .tc => max v st.tb
  | .fMin => min v st.fStart
  | .fStart => clampInt st.fMin st.fMax v
  | .fMax => max v st.fStart
  | .wheel i .tMin => min v (st.wheelType i).tMax
  | .wheel i .tMax => max v (st.wheelType i).tMin
  | _ => v

/-- The value R182 takes for a value sent: an enumerated value as it is, a numeric one brought into its range and then
into the span of its group. -/
def takenValue (st : Settings) (x : Setting) (v : Int) : Int :=
  match enumValues x with
  | some _ => v
  | none => clampSpan st (clampInt (settingRange x).1 (settingRange x).2 v) x

/-- A value R181 refuses: one outside an enumerated setting's set. -/
def badValue (x : Setting) (v : Int) : Bool :=
  match enumValues x with
  | some vs => !vs.contains v
  | none => false

/-! ## Gauge bus data (11.5) -/

/-- The samples of a block read; of an angle index only the low byte of the position counts. -/
def samplesOf (angle : Bool) : List Byte → List Sample
  | a :: b :: c :: d :: e :: f :: rest =>
    ⟨if angle then c.toNat else fromBe [a, b, c], fromBe [d, e, f]⟩ :: samplesOf angle rest
  | _ => []

/-- The tag data of a good attempt: axle ID, bogie ID, wheel type, position; none where a check of R3 fails. -/
def tagData (bytes : List Byte) : Option (AxleId × BogieId × Nat × Nat) :=
  let axleId := bytes.take 10
  let bogieId := (bytes.drop 10).take 8
  let wheelType := (bytes.getD 18 0#8).toNat
  let position := (bytes.getD 19 0#8).toNat
  if bytes.length = 22 ∧ (crc16 (bytes.take 20)).toNat = fromBe (bytes.drop 20) ∧
      idValid 10 axleId ∧ idValid 8 bogieId ∧ wheelType ≤ 7 ∧ 1 ≤ position ∧ position ≤ 3 then
    some (axleId, bogieId, wheelType, position)
  else
    none

end Sys2Proof.Machine
end

