-- ==== Sys2Proof/Machine/Flags.lean ====
section
/-! DEFINITION. Every flag the part computes: load zones (R21, R22), the wheel surface speed (R121), the monitor
conditions (R7, R22, R33, R42, R49), blanking (R59), what a monitor sees, the standing transitions of the monitor state
machine (R50, R51) and the clear-to-move line (R16). -/

namespace Sys2Proof.Machine

/-! ## Load zones -/

/-- The zone of a load without regard to the zone before: the highest whose threshold the load has reached (R22). -/
def zoneAfresh (st : Settings) (load : Nat) : Zone :=
  if st.overload ≤ load then .overload
  else if st.bearing ≤ load then .bearing
  else if st.contact ≤ load then .taking
  else .free

def Zone.rank : Zone → Nat
  | .free => 0
  | .taking => 1
  | .bearing => 2
  | .overload => 3

/-- A fall out of TAKING (R21). -/
def fallFromTaking (st : Settings) (load : Nat) : Zone :=
  if load + Config.zoneBand < st.contact then .free else .taking

/-- A fall out of BEARING, as far as the load calls for (R21). -/
def fallFromBearing (st : Settings) (load : Nat) : Zone :=
  if load + Config.zoneBand < st.bearing then fallFromTaking st load else .bearing

/-- A fall out of OVERLOAD, as far as the load calls for (R21). -/
def fallFromOverload (st : Settings) (load : Nat) : Zone :=
  if load + Config.zoneBand < st.overload then fallFromBearing st load else .overload

/-- The zone after a change of load (R21): it rises to every threshold reached, and falls below a threshold only by
more than the band of 50 daN. -/
def zoneAfter (st : Settings) (zone : Zone) (load : Nat) : Zone :=
  if zone.rank < (zoneAfresh st load).rank then zoneAfresh st load
  else
    match zone with
    | .free => .free
    | .taking => fallFromTaking st load
    | .bearing => fallFromBearing st load
    | .overload => fallFromOverload st load

/-- A load as the post record holds it, saturating at 30,000 daN (R20). -/
def postLoad (cell : Nat) : Nat := saturate Config.loadMax cell

/-! ## The wheel surface speed (R121) -/

/-- The sum of the depths of the passes that have a status, for one wheel. -/
def depthWith (status : PassStatus) : List Pass → List PassStatus → Nat
  | p :: ps, q :: qs => (if q = status then p.depth else 0) + depthWith status ps qs
  | _, _ => 0

/-- The passes of the turning's plan, for one wheel. -/
def planPasses (side : Side) (s : State) : List Pass :=
  match s.tpe.plan.cut with
  | some c => c.passes.get side
  | none => []

/-- The statuses of the turning's passes, for one wheel. -/
def passStatuses (side : Side) (s : State) : List PassStatus :=
  match s.tcu.progress with
  | some p => p.status.get side
  | none => []

/-- The sum of the depths of the COMPLETE passes of a wheel. -/
def depthCut (side : Side) (s : State) : Nat :=
  depthWith .complete (planPasses side s) (passStatuses side s)

/-- A wheel's current diameter during a turning: its plan D20 minus twice the depth cut (R121). -/
def currentDiameter (side : Side) (s : State) : Int :=
  match s.tpe.plan.figures with
  | some f => f.d20.get side - 2 * (depthCut side s : Int)
  | none => 0

/-- The tread diameter the speed is found with, by the run (R121); none where no run is in progress. -/
def runDiameter (s : State) : Option Int :=
  match s.tcu.state with
  | .measureRun _ =>
    match s.pmu.head.l.diameter, s.pmu.head.r.diameter with
    | some a, some b => some (divTrunc (a + b) 2)
    | some a, none => some a
    | none, some b => some b
    | none, none => none
  | _ =>
    if turningInProgress s then some (divTrunc (currentDiameter .l s + currentDiameter .r s) 2) else none

/-- The wheel surface speed in mm/min; none until two index events of the run have been taken (R121). The speed for an
interval of 0 ms is a free value (log entry 5). DEDUCED, log 57: after the end of a run the last interval stands, and M8,
absent then, does not look at it. -/
def wheelSpeed (s : State) : Option Nat :=
  match runDiameter s with
  | none => none
  | some d =>
    if s.tcu.runEvents < 2 then none
    else if s.tcu.interval = 0 then some (Config.wheelSpeedAtZeroInterval d)
    else some (divTrunc (d * 188496) (1000 * s.tcu.interval)).toNat

/-! ## Monitor conditions -/

/-- Both rail bridges IN and the lift LOWERED (R7). -/
def visitEndConditions (s : State) : Bool := bothBridges .inLine s && s.blu.lift == .lowered

/-- The condition of M13: SEATED, the sensor off, the end-of-visit conditions not holding (R7). -/
def presenceLost (s : State) : Bool :=
  s.pil.seatState == .seated && !s.pil.presence && !visitEndConditions s

/-- The condition of M6 or M7 in SENSOR mode; absent in TIMED mode (R42). -/
def clampCondition (side : Side) (s : State) : Bool :=
  let c := s.blu.clamp.get side
  s.sst.active.clampMode == .sensor &&
    ((c.state == .closed && !c.switches.closedMade) ||
     (c.state == .opened && !c.switches.openMade) ||
     ((c.state == .closed || c.state == .opened || c.moving) &&
        c.switches.closedMade && c.switches.openMade) ||
     (c.moving && c.timeout))

/-- The condition of M8: the roller and wheel surface speeds disagree by more than 3 % of the target (R49). -/
def slipCondition (s : State) : Bool :=
  match spindleTarget s, wheelSpeed s with
  | some target, some wheel =>
    3 * (target * 1000) < ((s.tcu.rollerSpeed : Int) - wheel).natAbs * 100
  | _, _ => false

/-- The condition of M9 or M10: the head is IN_CUT and its force exceeds the force limit (R49). -/
def forceCondition (side : Side) (s : State) : Bool :=
  let h := s.tcu.head.get side
  h.position == .inCut && s.sst.active.forceLimit < h.force

/-- The condition of a monitor as its owner hands it. M5 is handed at the control period and M11 and M12 at a head
state read or at the park station, so they keep the condition last handed. -/
def ownerCondition (s : State) : MonitorId → Bool
  | .m1 => s.blu.posts.p1.zone == .overload
  | .m2 => s.blu.posts.p2.zone == .overload
  | .m3 => s.blu.posts.p3.zone == .overload
  | .m4 => s.blu.posts.p4.zone == .overload
  | .m5 => s.fmu.monitors.m5.condition
  | .m6 => clampCondition .l s
  | .m7 => clampCondition .r s
  | .m8 => slipCondition s
  | .m9 => forceCondition .l s
  | .m10 => forceCondition .r s
  | .m11 => s.fmu.monitors.m11.condition
  | .m12 => s.fmu.monitors.m12.condition
  | .m13 => presenceLost s

/-- The monitor is blanked (R59). -/
def blanked (s : State) : MonitorId → Bool
  | .m8 => s.fmu.slipBlanked
  | .m9 => 0 < s.tcu.head.l.blankLeft
  | .m10 => 0 < s.tcu.head.r.blankLeft
  | _ => false

/-- The monitor sees its condition present: handed present, mode not OFF, not blanked (R49). -/
def sees (s : State) (m : MonitorId) (condition : Bool) : Bool :=
  condition && s.sst.active.monitorMode.get m != .off && !blanked s m

/-! ## The monitor state machine without expiries (R50, R51) -/

/-- What a monitor becomes when it comes to see its condition present or absent. `time` is the deglitch time in
force. -/
def settleMonitor (time : Nat) (seen : Bool) (m : Monitor) : Monitor :=
  match m.state, seen with
  | .quiet, true => { m with state := .deglitch, timer := some time }
  | .deglitch, false => { m with state := .quiet, timer := none }
  | .warned, false => { m with state := .quiet, timer := none }
  | .latched, seen => recur m seen
  | .tripped, seen => recur m seen
  | _, _ => m
where
  /-- The recurrence of a LATCHED or TRIPPED monitor (R51). -/
  recur (m : Monitor) (seen : Bool) : Monitor :=
    match m.recurrence, seen with
    | .none, false => { m with recurrence := .armed }
    | .armed, true => { m with recurrence := .timing, timer := some time }
    | .timing, false => { m with recurrence := .armed, timer := none }
    | _, _ => m

/-- A monitor after its owner has handed its condition and the state machine has acted on it. -/
def reviewed (s : State) (m : MonitorId) : Monitor :=
  let condition := ownerCondition s m
  settleMonitor (s.sst.active.deglitch.get m) (sees s m condition)
    { s.fmu.monitors.get m with condition := condition }

/-- Every owner hands its conditions and every monitor acts on what it sees (R49). -/
def handConditions (s : State) : State :=
  s.modFmu fun u => { u with monitors := .ofFn (reviewed s) }

/-- One owner hands one condition, which the record keeps; the monitor acts on it with the rest (R49). -/
def handCondition (m : MonitorId) (present : Bool) (s : State) : State :=
  modMonitor m (fun r => { r with condition := present }) s

/-! ## The clear-to-move line (R16) -/

/-- The five states that assert the line. -/
def clearInputs (s : State) : Bool :=
  bothBridges .inLine s && s.blu.lift == .lowered && bothClamps .opened s &&
    s.tcu.spindle == .stopped && s.tcu.head.all fun h => h.position == .parked

/-- The line follows the five states. -/
def followClear (s : State) : State := s.modPil fun p => { p with clearToMove := clearInputs s }

end Sys2Proof.Machine
end

