-- ==== Sys2Proof/Machine/HistoryOps.lean ====
section
/-! DEFINITION. Shared operations of the Axle History Store: slots and index (8.3), records and entries (8.1, 8.2), the
open record cache (8.5), seating (8.4) and the commit queue (8.6). -/

namespace Sys2Proof.Machine

/-! ## The slot array (R147) -/

/-- The slot of a number; none is a FREE slot. -/
def slotAt (n : Nat) : List (Nat × Slot) → Option Slot
  | [] => none
  | (k, x) :: rest => if n = k then some x else slotAt n rest

/-- The slot array with one slot replaced; none makes it FREE. Slots stay in rising order. -/
def putSlot (n : Nat) (v : Option Slot) : List (Nat × Slot) → List (Nat × Slot)
  | [] =>
    match v with
    | some x => [(n, x)]
    | none => []
  | (k, x) :: rest =>
    if n < k then
      match v with
      | some y => (n, y) :: (k, x) :: rest
      | none => (k, x) :: rest
    else if n = k then
      match v with
      | some y => (n, y) :: rest
      | none => rest
    else (k, x) :: putSlot n v rest

/-- The slot numbers rise strictly from `lo` on and lie in the array. -/
def slotsFrom (lo : Nat) : List (Nat × Slot) → Bool
  | [] => true
  | (k, _) :: rest => decide (lo ≤ k) && decide (k < Config.slotCount) && slotsFrom (k + 1) rest

/-- The canonical form of the slot array: numbers strictly rising, each below 544. -/
def slotsWf (slots : List (Nat × Slot)) : Bool := slotsFrom 0 slots

/-- The lowest number, from `n` on, that is not listed. -/
def lowestUnlisted (n : Nat) : List (Nat × Slot) → Nat
  | [] => n
  | (k, _) :: rest => if n < k then n else lowestUnlisted (k + 1) rest

/-- The free good slot of lowest number (R154). -/
def lowestFree (slots : List (Nat × Slot)) : Option Nat :=
  let n := lowestUnlisted 0 slots
  if n < Config.slotCount then some n else none

/-- The free good slots: those whose marker is FREE (R147). -/
def freeGood (s : State) : Nat := Config.slotCount - s.ahs.slots.length

/-- The slots marked BAD. -/
def badSlots (s : State) : Nat := (s.ahs.slots.filter fun p => p.2 == .bad).length

/-! ## The record index (R147) -/

def indexFind (id : AxleId) (index : List IndexEntry) : Option IndexEntry :=
  index.find? fun e => e.axleId == id

/-- The index with an entry added in ascending order of axle ID. -/
def indexInsert (e : IndexEntry) : List IndexEntry → List IndexEntry
  | [] => [e]
  | x :: rest => if idBefore e.axleId x.axleId then e :: x :: rest else x :: indexInsert e rest

def indexRemove (id : AxleId) (index : List IndexEntry) : List IndexEntry :=
  index.filter fun e => e.axleId != id

def indexSetSlot (id : AxleId) (n : Nat) (index : List IndexEntry) : List IndexEntry :=
  index.map fun e => if e.axleId == id then { e with slot := some n } else e

/-- The spare slots: the free good slots less the index entries with no slot (R147); below 0 where such entries are
more. -/
def spareSlots (s : State) : Int :=
  (freeGood s : Int) - (s.ahs.index.filter fun e => e.slot.isNone).length

/-! ## Records and entries (R144 to R146) -/

/-- The smaller of two optional diameters, or the one present (R145, R111). -/
def leastDiameter (d : Sides (Option Int)) : Option Int :=
  match d.l, d.r with
  | some a, some b => some (min a b)
  | some a, none => some a
  | none, b => b

/-- The last diameters after a measurement entry (R145). -/
def measuredDiameters (before : Sides (Option Int)) (part : Sides (Option WheelPart)) : Sides (Option Int) :=
  ⟨(part.l.map (·.d20)).orElse fun _ => before.l, (part.r.map (·.d20)).orElse fun _ => before.r⟩

/-- The loss a CHECKED entry adds: only after a TURNED entry, and only where a diameter was known before (R145). -/
def checkedLoss (r : Record) (now : Sides (Option Int)) : Nat :=
  match r.lastWork, leastDiameter r.lastD, leastDiameter now with
  | some .turned, some old, some new => (max 0 (old - new)).toNat
  | _, _, _ => 0

/-- The state after a CHECKED entry: a due mark whose limit both diameters have met is removed (R145). -/
def checkedState (st : RecordState) (now : Sides (Option Int)) : RecordState :=
  match st, now.l, now.r with
  | .turnDue limit source, some a, some b => if max a b ≤ limit then .inService else .turnDue limit source
  | st, _, _ => st

/-- What an entry changes in its record besides the entry list (R145, R146). -/
def entryEffect (r : Record) : EntryBody → Record
  | .found part _ => { r with lastD := measuredDiameters r.lastD part }
  | .checked part _ =>
    let now := measuredDiameters r.lastD part
    { r with
      lastD := now
      loss := saturate Config.maxLoss (r.loss + checkedLoss r now)
      state := checkedState r.state now
      lastWork := some .checked }
  | .turned _ _ _ _ _ =>
    { r with turnings := saturate Config.max16 (r.turnings + 1), lastWork := some .turned }
  | .marked limit source => { r with state := .turnDue limit source }
  | .condemned _ => { r with state := .condemned }
  | .entered d =>
    { r with lastD := ⟨d.l.orElse fun _ => r.lastD.l, d.r.orElse fun _ => r.lastD.r⟩ }

/-- The entry list with an entry added at its end, the oldest removed where it held 24 (R144). -/
def pushEntry (e : Entry) (entries : List Entry) : List Entry :=
  entries.drop (entries.length + 1 - Config.maxEntries) ++ [e]

/-- A record with an entry appended (R144): its serial, its place in the list and its effect. -/
def appendEntry (body : EntryBody) (stamp : Stamp) (r : Record) : Record :=
  let r' := entryEffect r body
  { r' with
    entries := pushEntry ⟨body, stamp, r.nextSerial⟩ r.entries
    nextSerial := (r.nextSerial + 1) % 65536 }

/-- A new record (R149). -/
def newRecord (id : AxleId) (wheelType : Nat) (bogieId : BogieId) (position : Nat) : Record :=
  ⟨id, wheelType, bogieId, position, .inService, .both none, none, 0, 0, 0, 0, []⟩

/-! ## The open record cache (R151, R152) -/

def openFind (id : AxleId) (s : State) : Option OpenRecord :=
  s.ahs.cache.find? fun o => o.record.axleId == id

def isOpen (id : AxleId) (s : State) : Bool := (openFind id s).isSome

/-- Change the open record of an axle ID. -/
def modOpen (id : AxleId) (f : OpenRecord → OpenRecord) (s : State) : State :=
  s.modAhs fun a => { a with cache := a.cache.map fun o => if o.record.axleId == id then f o else o }

/-- What an append does to the cache state (R151). -/
def touch (o : OpenRecord) : OpenRecord :=
  match o.state with
  | .clean => { o with state := .dirty }
  | .dirty => o
  | .committing => { o with changed := true }

/-- A commit is queued for an open record; not a second time (R153). -/
def queueCommit (id : AxleId) (s : State) : State :=
  if s.ahs.queue.contains id then s
  else
    match openFind id s with
    | none => s
    | some o =>
      if o.state = .committing then s else s.modAhs fun a => { a with queue := a.queue ++ [id] }

/-- Append an entry, with the depot stamp of the moment, to the open record of an axle ID (R17, R144, R151). An entry
appended while a link RESET drains the commit queue queues its record again (R166). -/
def appendTo (id : AxleId) (body : EntryBody) (s : State) : State :=
  let s := modOpen id (fun o => touch { o with record := appendEntry body s.pil.stamp o.record }) s
  if s.slp.resetPending then queueCommit id s else s

/-- The axle ID of the seated record, while the link is OPEN. -/
def seatedRecord (s : State) : Option AxleId :=
  match s.ahs.link with
  | .opened id => some id
  | .waiting _ => none
  | .none => none

/-- Hand an entry to the seated record; where the seat has no record nothing is appended (R100, R131). -/
def handEntry (body : EntryBody) (s : State) : State :=
  match seatedRecord s with
  | some id => appendTo id body s
  | none => s

/-- The record of an axle ID as readers see it: the open copy, the record waiting to be created, or the VALID slot
(R111, R160). -/
def readRecord (id : AxleId) (s : State) : Option Record :=
  match openFind id s with
  | some o => some o.record
  | none =>
    match indexFind id s.ahs.index with
    | none => none
    | some e =>
      match e.slot with
      | some n =>
        match slotAt n s.ahs.slots with
        | some (.valid r) => some r
        | some (.written r) => some r
        | some .bad => none
        | none => none
      | none =>
        match s.ahs.opening with
        | some o => if o.axleId = id then o.created else none
        | none => none

/-- A record that can be closed to make a place: CLEAN and not the seated record (R152). -/
def closable (s : State) (o : OpenRecord) : Bool :=
  o.state == .clean && seatedRecord s != some o.record.axleId

/-- Places taken: the open records, and the place found for an opening whose slot is being read. -/
def placesTaken (s : State) : Nat :=
  s.ahs.cache.length +
    (match s.ahs.opening with | some o => if o.placed then 1 else 0 | none => 0)

/-- A place of the cache is available (R152). -/
def placeAvailable (s : State) : Bool :=
  placesTaken s < Config.cachePlaces || s.ahs.cache.any (closable s)

/-- Remove the first element that satisfies a test. -/
def removeFirst {α : Type} (p : α → Bool) : List α → List α
  | [] => []
  | x :: rest => if p x then rest else x :: removeFirst p rest

/-- Make a place: where the cache is full, the earliest opened closable record leaves it (R152). -/
def makePlace (s : State) : State :=
  if placesTaken s < Config.cachePlaces then s
  else s.modAhs fun a => { a with cache := removeFirst (closable s) a.cache }

/-- Put a record into the place made for it, at the end of the cache. -/
def openRecord (r : Record) (st : CacheState) (s : State) : State :=
  s.modAhs fun a => { a with cache := a.cache ++ [⟨r, st, false⟩] }

/-! ## Seating (R148 to R150) -/

/-- The record of an axle ID becomes the seated record, and its wheel type, bogie ID and position are put in the seat
record (R4, R148). -/
def linkRecord (id : AxleId) (s : State) : State :=
  let s := s.modAhs fun a => { a with link := .opened id }
  match openFind id s with
  | none => s
  | some o =>
    s.modPil fun p =>
      { p with identity := p.identity.map fun i =>
          { i with wheelType := o.record.wheelType, bogieId := o.record.bogieId, position := o.record.position } }

/-- The record that an opening waits for is not in the index any more: it has been retired and is to be opened no more
(R158, R162). A record that a seating waits for is never retired (R162). -/
def Opening.retired (o : Opening) (s : State) : Bool := (indexFind o.axleId s.ahs.index).isNone

/-- Test for a place for the opening that waits, and serve it there (R152). A record being created opens at once; a
record with a slot is then being read, and RECORD_OPEN_COMPLETE ends that. For a record that has been retired no
place is made (R158). -/
def serveOpening (s : State) : State :=
  match s.ahs.opening with
  | none => s
  | some o =>
    if o.placed || !placeAvailable s || o.retired s then s
    else
      let s := makePlace s
      match o.created with
      | some r =>
        let s := openRecord r .dirty (s.modAhs fun a => { a with opening := none })
        if o.seating then linkRecord o.axleId s else s
      | none => s.modAhs fun a => { a with opening := some { o with placed := true } }

/-- Begin to open a record (R152). -/
def beginOpening (o : Opening) (s : State) : State :=
  serveOpening (s.modAhs fun a => { a with opening := some o })

/-- Creation at seating: in the index with no slot, its opening as any other; or STORE_FULL (R149). -/
def createRecord (id : AxleId) (s : State) : State :=
  if s.ahs.index.length < Config.maxRecords ∧ 2 ≤ spareSlots s then
    let r :=
      match s.pil.identity with
      | some i => newRecord id i.wheelType i.bogieId i.position
      | none => newRecord id 0 [] 1
    beginOpening ⟨id, true, some r, false⟩
      (s.modAhs fun a => { a with index := indexInsert ⟨id, none⟩ a.index, link := .waiting id })
  else
    s.modAhs fun a => { a with storeFull := true, link := .none }

/-- The Pit Interlock hands an axle ID for seating (R148). -/
def seatRecord (id : AxleId) (s : State) : State :=
  if isOpen id s then linkRecord id s
  else
    match indexFind id s.ahs.index with
    | some _ => beginOpening ⟨id, true, none, false⟩ (s.modAhs fun a => { a with link := .waiting id })
    | none => createRecord id s

/-- Drop the opening of a seating that has not been served; a record created at it and never opened leaves the index
with it (R148). DESIGN CHOICE, log 68: an opening that has its place, the slot being read, is dropped too, and its record
never joins the cache; R148 speaks of a waiting opening. -/
def dropSeating (id : AxleId) (s : State) : State :=
  match s.ahs.opening with
  | none => s
  | some o =>
    if o.seating && o.axleId == id then
      s.modAhs fun a =>
        { a with opening := none, index := if o.created.isSome then indexRemove id a.index else a.index }
    else s

/-- The seating of the seated record ends: at an end of visit with a visit counted, at a forced replacement without
(R150). The STORE_FULL flag is cleared (R149). -/
def endSeating (visit : Bool) (s : State) : State :=
  let s :=
    match s.ahs.link with
    | .none => s
    | .waiting id => dropSeating id s
    | .opened id =>
      if visit then
        queueCommit id (modOpen id (fun o =>
          touch { o with record := { o.record with visits := saturate Config.max16 (o.record.visits + 1) } }) s)
      else
        match openFind id s with
        | some o => if o.state = CacheState.dirty then queueCommit id s else s
        | none => s
  s.modAhs fun a => { a with link := .none, storeFull := false }

/-- Queue the commit of every DIRTY open record (R164, R166). DESIGN CHOICE, log 58: in the order in which they were
opened. -/
def queueDirty (s : State) : State :=
  (s.ahs.cache.filter fun o => o.state == CacheState.dirty).foldl (fun t o => queueCommit o.record.axleId t) s

/-! ## Commits (R153 to R156) -/

/-- A commit ends COMMIT_FAILED (R156). -/
def failCommit (id : AxleId) (bads : Nat) (s : State) : State :=
  (modOpen id (fun o => { o with state := .dirty, changed := false }) s).modAhs fun a =>
    { a with commit := none, lastCommit := .failed id bads }

/-- The write of a commit begins in a slot: the slot becomes WRITTEN with the open copy as it stands (R154, R155). -/
def beginWrite (o : OpenRecord) (n : Nat) (retry : Bool) (bads : Nat) (s : State) : State :=
  s.modAhs fun a =>
    { a with
      slots := putSlot n (some (.written o.record)) a.slots
      commit := some ⟨o.record.axleId, n, .write, retry, bads⟩ }

/-- The commit of the record at the front of the queue begins (R153, R154). -/
def commitFront (s : State) : State :=
  match s.ahs.queue with
  | [] => s
  | id :: rest =>
    let dequeued := s.modAhs fun a => { a with queue := rest }
    match openFind id s with
    | none => dequeued
    | some o =>
      if o.state = .clean then dequeued
      else
        match lowestFree s.ahs.slots with
        | none => failCommit id 0 dequeued
        | some n =>
          beginWrite o n false 0
            (modOpen id (fun o => { o with state := .committing, changed := false }) dequeued)

/-- The index switch: the new slot VALID, the old one FREE, the index entry to the new slot, in one write (R147). -/
def switchIndex (c : Commit) (a : Ahs) : Ahs :=
  let slots :=
    match slotAt c.slot a.slots with
    | some (.written r) => putSlot c.slot (some (.valid r)) a.slots
    | _ => a.slots
  let slots :=
    match (indexFind c.axleId a.index).bind (·.slot) with
    | some old => if old = c.slot then slots else putSlot old none slots
    | none => slots
  { a with slots := slots, index := indexSetSlot c.axleId c.slot a.index }

/-- The record after the switch: CLEAN, or DIRTY and queued again where it was changed meanwhile (R154). -/
def afterSwitch (id : AxleId) (s : State) : State :=
  match openFind id s with
  | none => s
  | some o =>
    if o.changed then queueCommit id (modOpen id (fun o => { o with state := .dirty, changed := false }) s)
    else serveOpening (modOpen id (fun o => { o with state := .clean }) s)

/-- The verify agrees (R154). -/
def verifyAgrees (c : Commit) (s : State) : State :=
  afterSwitch c.axleId (s.modAhs fun a =>
    { switchIndex c a with commit := none, lastCommit := .committed c.axleId c.bads })

/-- The verify disagrees: the slot becomes BAD, and the commit is tried once more or fails (R155). -/
def verifyDisagrees (c : Commit) (s : State) : State :=
  let s := s.modAhs fun a => { a with slots := putSlot c.slot (some .bad) a.slots }
  let bads := c.bads + 1
  if c.retry then failCommit c.axleId bads s
  else
    match lowestFree s.ahs.slots, openFind c.axleId s with
    | some n, some o => beginWrite o n true bads s
    | _, _ => failCommit c.axleId bads s

/-- The start-up scan's effect on one slot (R165): what stays of it, an index entry, a loss. -/
def scanSlot (bads : List Nat) (n : Nat) : Slot → Option Slot × Option IndexEntry × Nat
  | .written _ => (none, none, 0)
  | .valid r => if bads.contains n then (some .bad, none, 1) else (some (.valid r), some ⟨r.axleId, some n⟩, 0)
  | .bad => (some .bad, none, 0)

/-- The start-up scan of every slot (R165). -/
def scanSlots (bads : List Nat) : List (Nat × Slot) → List (Nat × Slot) × List IndexEntry × Nat
  | [] => ([], [], 0)
  | (n, x) :: rest =>
    let (slots, index, losses) := scanSlots bads rest
    let (keep, entry, loss) := scanSlot bads n x
    ((match keep with | some y => (n, y) :: slots | none => slots),
     (match entry with | some e => indexInsert e index | none => index),
     loss + losses)

end Sys2Proof.Machine
end

