-- ==== Sys2Proof/Machine/GaugeOps.lean ====
section
/-! DEFINITION. Shared operations of the Gauge Bus Controller (04): placing transactions within the quotas, the
transactions of the PMU and the PIL (11.5), and beginning the oldest one. -/

namespace Sys2Proof.Machine

/-! ## Quotas and the queue (R67) -/

def quota : Requester → Nat
  | .pmu _ => 2
  | .pilTag => 1

/-- The records a requester holds in the queue. -/
def heldBy (q : Requester) (s : State) : Nat := (s.gbc.queue.filter fun t => t.requester == q).length

/-- The transactions a requester keeps back. The PIL never keeps one back: its reading waits instead (R2). -/
def keptBack (q : Requester) (s : State) : List Txn :=
  match q with
  | .pmu side => s.gbc.held.get side
  | .pilTag => []

/-- Place a transaction at the back of the queue, or keep it back while its requester is at its quota (R67). -/
def place (t : Txn) (s : State) : State :=
  if heldBy t.requester s < quota t.requester ∧ keptBack t.requester s = [] then
    s.modGbc fun g => { g with queue := g.queue ++ [t] }
  else
    match t.requester with
    | .pmu side => s.modGbc fun g => { g with held := g.held.set (g.held.get side ++ [t]) side }
    | .pilTag => s

/-- A requester that kept transactions back places the oldest of them once it is below its quota (R67). -/
def placeKept (q : Requester) (s : State) : State :=
  match q with
  | .pilTag => s
  | .pmu side =>
    match s.gbc.held.get side with
    | [] => s
    | t :: rest =>
      if heldBy q s < quota q then
        s.modGbc fun g => { g with queue := g.queue ++ [t], held := g.held.set rest side }
      else s

/-! ## The transactions of the PMU and the PIL (R3, R82, R83, 11.5) -/

/-- The device address of a requester (R64). -/
def addressOf : Requester → Nat
  | .pmu .l => 0x31
  | .pmu .r => 0x32
  | .pilTag => 0x40

def writeTxn (q : Requester) (bytes : List Byte) (p : Purpose) : Txn :=
  ⟨q, addressOf q, .write, bytes, 0, 0, p⟩

def readTxn (q : Requester) (select : List Byte) (length : Nat) (p : Purpose) : Txn :=
  ⟨q, addressOf q, .read, select, length, 0, p⟩

/-- The tag attempt (R3). -/
def tagTxn : Txn := readTxn .pilTag [] 22 .tagAttempt

/-- The modes of a probe head (R82). -/
inductive ProbeMode where
  | scan
  | ring
  | reference
  | park
  deriving DecidableEq, Repr

def ProbeMode.code : ProbeMode → Byte
  | .scan => 0#8
  | .ring => 1#8
  | .reference => 2#8
  | .park => 3#8

def modeTxn (side : Side) (m : ProbeMode) (p : Purpose) : Txn :=
  writeTxn (.pmu side) [0x01#8, m.code] p

/-- SCAN_START with z from 0, z to 140,000 µm and the scan step in force; the positions in units of 10 µm (R88). -/
def scanStartTxn (side : Side) (step : Nat) : Txn :=
  writeTxn (.pmu side) ([0x02#8] ++ be 2 0 ++ be 2 ((Config.scanEnd / 10 : Nat) : Int) ++ be 2 (step : Int))
    (.command .sweep)

/-- RING_START with 128 samples per revolution (R82). -/
def ringStartTxn (side : Side) (w : Work) : Txn :=
  writeTxn (.pmu side) [0x03#8, byte Config.ringCapacity] (.command w)

/-- A head state read (R83, 11.5). -/
def stateReadTxn (side : Side) (w : Work) : Txn := readTxn (.pmu side) [0x10#8] 2 (.stateRead w)

/-- A block read of `n` samples (R83, 11.5). -/
def blockReadTxn (side : Side) (n : Nat) (w : Work) : Txn :=
  readTxn (.pmu side) [0x11#8, byte n] (6 * n) (.blockRead w)

/-- The work of a requester has ended: the records it has placed are run and their results discarded (R93); those it
kept back are not placed, but for a MODE PARK (log entry 10). -/
def abandon (q : Requester) (s : State) : State :=
  let s := s.modGbc fun g =>
    { g with queue := g.queue.map fun t => if t.requester == q then { t with purpose := .discarded } else t }
  match q with
  | .pilTag => s
  | .pmu side =>
    s.modGbc fun g => { g with held := g.held.set ((g.held.get side).filter fun t => t.purpose == .discarded) side }

/-! ## Running (R68) -/

/-- The GBC begins the oldest transaction in the queue when the bus is IDLE: it sends a START (R68). -/
def beginOldest (s : State) : State :=
  if s.gbc.bus = .idle ∧ s.gbc.queue ≠ [] then
    s.modGbc fun g => { g with bus := .running, run := some ⟨.address, 0, [], none, [.start]⟩ }
  else s

/-- The address byte of a transaction: seven bits of address and the direction bit (R65). -/
def addressByte (address : Nat) (d : Direction) : Byte :=
  byte (2 * address + (match d with | .write => 0 | .read => 1))

/-- A transaction's first address byte: a READ with no select part opens with direction 1 (R66). -/
def firstAddressByte (t : Txn) : Byte :=
  match t.direction, t.writeBytes with
  | .read, [] => addressByte t.address .read
  | _, _ => addressByte t.address .write

/-- An address byte of a foreign transaction sets the head it names addressed (R77). -/
def noteAddress (address : Nat) (o : Observation) : Observation :=
  if address = 0x31 then { o with addressed := { o.addressed with l := true } }
  else if address = 0x32 then { o with addressed := { o.addressed with r := true } }
  else o

/-- The bus becomes OBSERVING with an observation record: the flag is set and the quiet timer stops (R77, R78). -/
def observe (o : Observation) (s : State) : State :=
  s.modGbc fun g =>
    { g with
      bus := .observing
      run := none
      waitTimer := none
      observation := some o
      foreignFlag := true
      quietTimer := none }

/-- The record at the front of the queue leaves it. -/
def dropFront (s : State) : State := s.modGbc fun g => { g with queue := g.queue.drop 1 }

end Sys2Proof.Machine
end

