-- ==== Sys2Proof/Machine/PlanOps.lean ====
section
/-! DEFINITION. Shared operations of the Turning Plan Engine (06): the six stages, the sibling marks and the discard of a
plan. -/

namespace Sys2Proof.Machine

/-! ## Stages 1 to 3 (R107 to R109) -/

/-- The correction of a diameter to a rim temperature of 20 °C (R99, R107). -/
def correction (d temp : Int) : Int := divHalfAway (d * 115 * (temp - 200)) 100000000

/-- The diameter corrected to 20 °C. -/
def d20Of (d temp : Int) : Int := d - correction d temp

/-- R_thick: diameter to remove so that the flange regains its thickness (R108). -/
def thickReduction (p : PlanInputs) (w : WheelInput) : Int := divCeil (p.k * max 0 (p.tT - w.t)) 256

/-- R_defect: diameter to remove to clear the out-of-round depth (R108). -/
def defectReduction (p : PlanInputs) (w : WheelInput) : Int := 2 * (w.oor + p.cMin)

/-- R_height: diameter to remove so that the flange regains its height (R108). -/
def heightReduction (p : PlanInputs) (w : WheelInput) : Int := 2 * max 0 (p.hT - w.h)

/-- The required reduction of a wheel: the largest of the three (R108). -/
def requiredReduction (p : PlanInputs) (w : WheelInput) : Int :=
  max (thickReduction p w) (max (defectReduction p w) (heightReduction p w))

/-- A figure rounded down to a multiple of 10, toward negative infinity (R109). -/
def roundDown10 (x : Int) : Int := 10 * divFloor x 10

/-- The axle target (R109). -/
def targetOf (d20 required : Sides Int) : Int := roundDown10 (min (d20.l - required.l) (d20.r - required.r))

/-- The depth of a wheel (R109). -/
def depthOf (d20 target : Int) : Int := divCeil (d20 - target) 2

/-- The figures of stages 1 to 3. -/
def planFigures (p : PlanInputs) : PlanFigures :=
  let d20 : Sides Int := p.wheel.map fun w => d20Of w.d w.temp
  let required : Sides Int := p.wheel.map (requiredReduction p)
  let target := targetOf d20 required
  { axleId := p.axleId
    wheelType := p.wheelType
    profileIndex := p.profileIndex
    d20 := d20
    required := required
    target := target
    depth := d20.map fun d => depthOf d target
    siblingDue := false
    tempHeld := p.wheel.any WheelInput.tempHeld }

/-! ## Stage 5 (R111) -/

/-- The siblings due, in ascending order of axle ID, at most eight. -/
def marksDue (p : PlanInputs) (target : Int) : List Mark :=
  ((p.siblings.filter fun x => p.bogieTol < x.least - target).map fun x =>
    (⟨x.axleId, target + p.bogieTol, p.axleId⟩ : Mark)).take Config.maxMarks

/-! ## Stage 6 (R113 to R115) -/

/-- The rim temperature band (R113). -/
def bandOfTemp (p : PlanInputs) (temp : Int) : Band :=
  if temp < p.ta then .a else if temp < p.tb then .b else if temp < p.tc then .c else .d

/-- The rough passes: `n` of them, the first `extra` 1 µm deeper (R114). -/
def roughPasses : (n extra base : Nat) → List Nat
  | 0, _, _ => []
  | n + 1, 0, base => base :: roughPasses n 0 base
  | n + 1, extra + 1, base => (base + 1) :: roughPasses n extra base

/-- The depths of a pass list: the rough passes and then the finish pass; none for a depth of 0 (R114). -/
def passDepths (depth finishDepth aMax : Nat) : List Nat :=
  if depth = 0 then []
  else
    let finish := min depth finishDepth
    let rough := depth - finish
    let n := natDivCeil rough aMax
    roughPasses n (rough % n) (rough / n) ++ [finish]

/-- Pass depths with their steps, the first in step `k` (R115). -/
def stepped (k : Nat) : List Nat → List Pass
  | [] => []
  | d :: rest => ⟨d, k⟩ :: stepped (k + 1) rest

/-- The cut figures of a plan (R113 to R115). -/
def planCut (p : PlanInputs) (f : PlanFigures) : PlanCut :=
  let band : Sides Band := p.wheel.map fun w => bandOfTemp p w.temp
  let depths : Sides (List Nat) :=
    ⟨passDepths f.depth.l.toNat p.finishDepth (p.aMax.get band.l),
     passDepths f.depth.r.toNat p.finishDepth (p.aMax.get band.r)⟩
  let steps := max depths.l.length depths.r.length
  let speedL := p.speed.get band.l
  let speedR := p.speed.get band.r
  { band := band
    speed := if depths.l = [] then speedR else if depths.r = [] then speedL else min speedL speedR
    force := ⟨if depths.l = [] then none else some (p.force.get band.l),
              if depths.r = [] then none else some (p.force.get band.r)⟩
    steps := steps
    passes := depths.map fun ds => stepped (steps - ds.length + 1) ds }

/-! ## Discarding a plan (R117) -/

/-- Drop the opening that a sibling mark waits for (R158). DEDUCED, log 54: also where its place has been found and its
slot is being read; the record then never joins the cache. -/
def dropMarkOpening (s : State) : State :=
  match s.ahs.opening with
  | none => s
  | some o => if o.seating then s else s.modAhs fun a => { a with opening := none }

/-- Plan work in progress is cancelled: the marks not yet placed are dropped with the list (R112, R117). -/
def cancelWork (reason : PlanReason) (s : State) : State :=
  if s.tpe.work = .idle then s
  else
    dropMarkOpening (s.modTpe fun t =>
      { t with work := .idle, inputs := none, computed := none, marks := [], lastPlan := .cancelled reason })

/-- Discard the plan, in any state but IN_USE, and cancel plan work in progress (R117). -/
def discardPlan (reason : PlanReason) (s : State) : State :=
  let s := cancelWork reason s
  if s.tpe.plan.state = .inUse then s
  else s.modTpe fun t => { t with plan := .empty (some reason) }

/-- A change of a plan input: discards a READY plan and cancels plan work; any other plan stays (R118). -/
def planInputChanged (s : State) : State :=
  if s.tpe.plan.state = .ready ∨ s.tpe.work ≠ .idle then discardPlan .settings s else s

/-! ## Marks (R112, R158) -/

/-- The plan becomes READY and the plan work ends (R112). -/
def planReady (s : State) : State :=
  match s.tpe.computed with
  | none => s
  | some (f, c) =>
    s.modTpe fun t =>
      { t with
        plan := ⟨.ready, none, some f, some c⟩
        work := .idle
        inputs := none
        computed := none
        marks := []
        lastPlan := .ready }

/-- Place a mark: a MARKED entry, the state TURN_DUE with the mark, the commit queued (R158). -/
def placeMark (m : Mark) (s : State) : State :=
  queueCommit m.axleId (appendTo m.axleId (.marked m.limit m.source) s)

/-- Judge a mark against its open record (R112). -/
def judgeMark (m : Mark) (s : State) : State :=
  match openFind m.axleId s with
  | none => s
  | some o =>
    match o.record.state with
    | .inService => placeMark m s
    | .turnDue limit _ => if m.limit < limit then placeMark m s else s
    | .condemned => s

/-- During the drain of a link RESET, with the commit queue empty and no commit running, an opening that finds no place
is not waited for (R166). -/
def drainStuck (s : State) : Bool :=
  s.slp.resetPending && s.ahs.queue.isEmpty && s.ahs.commit.isNone && !placeAvailable s

/-- Hand the marks to the store one at a time, until one waits for its record to be opened or none is left (R112,
R158). -/
def processMarks : List Mark → State → State
  | [], s => planReady s
  | m :: rest, s =>
    if (indexFind m.axleId s.ahs.index).isNone then processMarks rest s
    else if isOpen m.axleId s then processMarks rest (judgeMark m s)
    else if drainStuck s then processMarks rest s
    else beginOpening ⟨m.axleId, false, none, false⟩ (s.modTpe fun t => { t with marks := m :: rest })

/-- A sibling mark whose opening waits for a place while a link RESET drains an empty queue is skipped, and the plan
work goes on (R166). -/
def drainMarks (s : State) : State :=
  match s.ahs.opening with
  | none => s
  | some o =>
    if !o.seating && !o.placed && drainStuck s then
      processMarks (s.tpe.marks.drop 1) (s.modAhs fun a => { a with opening := none })
    else s

/-- The mark of a record that has been retired while its opening waited is skipped when its place comes, and the plan
work goes on (R158). -/
def skipRetired (s : State) : State :=
  match s.ahs.opening with
  | none => s
  | some o =>
    if !o.seating && !o.placed && placeAvailable s && o.retired s then
      processMarks (s.tpe.marks.drop 1) (s.modAhs fun a => { a with opening := none })
    else s

/-! ## The end of the computation (R110, R112) -/

/-- The computation ends without a plan to cut: REFUSED with its reason, or NOT_NEEDED (R110). -/
def planStopped (state : PlanState) (reason : Option PlanReason) (outcome : PlanOutcome) (f : PlanFigures)
    (s : State) : State :=
  s.modTpe fun t =>
    { t with plan := ⟨state, reason, some f, none⟩, work := .idle, inputs := none, lastPlan := outcome }

/-- Stages 1 to 6 on the inputs taken (R107 to R115). -/
def computePlan (p : PlanInputs) (s : State) : State :=
  let f := planFigures p
  if ((readRecord p.axleId s).map fun r => r.state) = some .condemned then
    planStopped .refused (some .condemned) (.refused .condemned) f s
  else if f.target < p.dScrap then
    handEntry (.condemned f.target) (planStopped .refused (some .condemn) (.refused .condemn) f s)
  else if p.depthLimit < f.depth.l ∨ p.depthLimit < f.depth.r then
    planStopped .refused (some .tooDeep) (.refused .tooDeep) f s
  else if f.depth.l = 0 ∧ f.depth.r = 0 then
    planStopped .notNeeded none .notNeeded f s
  else
    let marks := marksDue p f.target
    let f' := { f with siblingDue := !marks.isEmpty }
    let s := s.modTpe fun t =>
      { t with work := .marking, inputs := none, computed := some (f', planCut p f'), marks := marks }
    processMarks marks s

end Sys2Proof.Machine
end

