-- ==== Sys2Proof/Machine/TurningOps.lean ====
section
/-! DEFINITION. Shared operations of the Turning Control Unit (07): the spindle, the heads, pauses and the end of a
turning. -/

namespace Sys2Proof.Machine

/-! ## The spindle (R120, R140) -/

/-- A cause of rundown: the drive is removed, the target is absent and the stop timer starts (R120). -/
def rundown (s : State) : State :=
  if spindleRunning s then
    s.modTcu fun t => { t with spindle := .rundown, stopTimer := some Config.stopTime }
  else s

def LeftState.state : LeftState → TcuState
  | .idle => .idle
  | .done => .done
  | .aborted => .aborted

/-- With the spindle STOPPED and no run asked for, a MEASURE_RUN returns to the state it left (R140). -/
def leaveMeasureRun (s : State) : State :=
  match s.tcu.state with
  | .measureRun left =>
    if s.tcu.spindle = .stopped ∧ s.tcu.measuring = false then s.modTcu fun t => { t with state := left.state }
    else s
  | _ => s

/-- The measuring run is finished, withdrawn or ended (R91, R93, R140). -/
def finishRun (s : State) : State :=
  if s.tcu.measuring then leaveMeasureRun (rundown (s.modTcu fun t => { t with measuring := false })) else s

/-! ## Heads (R122, R132) -/

/-- The head is approaching the start of a pass, or stands there waiting for the index event (R126). -/
def Head.approaching (h : Head) : Bool :=
  h.position == .moving && (h.dest == some .passStart || h.dest == some .awaitIndex)

/-- The head's slides begin to move. -/
def Head.moveTo (h : Head) (d : HeadDest) : Head :=
  { h with position := .moving, dest := some d, passStart := none, zDone := none, remaining := none }

/-- The head's slides stop where they stand (R15, R56, R57). -/
def Head.halt (h : Head) : Head :=
  { h with position := .halted, dest := none, passStart := none, zDone := none, remaining := none }

/-- Change the status of the pass a head is at. -/
def setPass (side : Side) (status : PassStatus) (s : State) : State :=
  match (s.tcu.head.get side).passIndex with
  | none => s
  | some i =>
    s.modTcu fun t =>
      { t with progress := t.progress.map fun p =>
          { p with status := p.status.set ((p.status.get side).set (i - 1) status) side } }

/-- The status of the pass a head is at. -/
def passStatus (side : Side) (s : State) : Option PassStatus :=
  match (s.tcu.head.get side).passIndex with
  | none => none
  | some i => (passStatuses side s)[i - 1]?

/-- An ACTIVE pass becomes INCOMPLETE. -/
def breakPass (side : Side) (s : State) : State :=
  if passStatus side s = some .active then setPass side .incomplete s else s

/-- A head that is approaching or IN_CUT withdraws to RETRACTED, its pass INCOMPLETE (R132). -/
def withdrawHead (side : Side) (s : State) : State :=
  let h := s.tcu.head.get side
  if h.approaching || h.position == .inCut then
    modHead side (·.moveTo .retracted) (breakPass side s)
  else s

/-- A pause with a cause whose heads are withdrawn, from RUNUP, CUTTING or PAUSED (R132). -/
def pauseTurning (cause : PauseCause) (s : State) : State :=
  if turningLive s then
    forSides withdrawHead (s.modTcu fun t => { t with state := .paused cause })
  else s

/-- A head that is MOVING, IN_CUT or PROBING becomes HALTED where it stands (R15, R57). -/
def haltActiveHead (side : Side) (s : State) : State :=
  if (s.tcu.head.get side).position.active then modHead side Head.halt s else s

/-! ## The end of a turning (R130, R131) -/

/-- The number of passes that have a status. -/
def passesWith (status : PassStatus) (statuses : List PassStatus) : Nat :=
  (statuses.filter fun q => q == status).length

/-- The TURNED entry (R131). -/
def turnedEntry (interrupted : Bool) (s : State) : EntryBody :=
  let f := s.tpe.plan.figures
  .turned
    (match f with | some f => f.target | none => 0)
    (match f with | some f => f.depth | none => .both 0)
    ⟨depthCut .l s, depthCut .r s⟩
    ⟨passesWith .complete (passStatuses .l s), passesWith .complete (passStatuses .r s)⟩
    interrupted

/-- With the spindle STOPPED and each head PARKED or HALTED the turning leaves ENDING (R130). DEDUCED, log 53: the
turned-since-sweep flag is set also where the visit of the turning has ended meanwhile. -/
def leaveEnding (s : State) : State :=
  match s.tcu.state with
  | .ending ab =>
    if s.tcu.spindle = .stopped ∧ s.tcu.head.all (fun h => h.position == .parked || h.position == .halted) then
      let s := s.modTcu fun t =>
        { t with
          state := if ab then .aborted else .done
          head := t.head.map fun h => { h with owner := .none, passIndex := none } }
      let s := s.modPmu fun p => { p with turnedSince := true }
      if ab then s
      else s.modTpe fun t => { t with plan := { t.plan with state := .spent } }
    else s
  | _ => s

/-- A head that is neither PARKED nor HALTED goes to park (R130, R135, log entry 14). -/
def sendToPark (side : Side) (s : State) : State :=
  let h := s.tcu.head.get side
  if h.position == .parked || h.position == .halted then s else modHead side (·.moveTo .park) s

/-- A head of the turning that is not PARKED is left HALTED where it stands (R136). -/
def haltTurningHead (side : Side) (s : State) : State :=
  if (s.tcu.head.get side).position = .parked then s else modHead side Head.halt s

/-- The turning enters ENDING(DONE) (R130). -/
def endDone (s : State) : State :=
  let s := handEntry (turnedEntry false s) s
  let s := s.modTcu fun t => { t with state := .ending false, lastTurn := .complete }
  leaveEnding (forSides sendToPark (rundown s))

/-- The turning enters ENDING(ABORTED): ACTIVE passes INCOMPLETE, the TURNED entry, the plan BROKEN, the spindle down,
and the heads as the cause gives (R130, R135, R136). -/
def endAborted (cause : TurnCause) (s : State) : State :=
  let s := forSides breakPass s
  let s := handEntry (turnedEntry true s) s
  let s := s.modTcu fun t => { t with state := .ending true, lastTurn := .interrupted cause }
  let s := s.modTpe fun t => { t with plan := { t.plan with state := .broken } }
  let s := rundown s
  leaveEnding (forSides (match cause with | .abort => sendToPark | _ => haltTurningHead) s)

/-! ## Steps (R126, R129) -/

/-- The place, from 1, of the pass that a list has in step `k`. -/
def passInStep (k : Nat) (passes : List Pass) : Option Nat :=
  (passes.findIdx? fun p => p.step == k).map (· + 1)

/-- The start of the pass at place `i` of a wheel's list: axial position 0, at the depth of the pass below the surface as
the COMPLETE passes have left it (R126). DEDUCED, log 62. -/
def startOf (i : Nat) (side : Side) (s : State) : Option PassStart :=
  (planPasses side s)[i - 1]?.map fun p => ⟨0, depthCut side s, p.depth⟩

/-- A head begins its pass of step `k`: ACTIVE, and MOVING toward its start (R126). A head whose tool is not USABLE
begins no pass (R137, 7.8). DEDUCED, log 44: it stays as it is, its pass unbegun, and the turning goes on without a
pause. -/
def beginPass (k : Nat) (side : Side) (s : State) : State :=
  match passInStep k (planPasses side s) with
  | none => s
  | some i =>
    if (s.tcu.head.get side).tool = .usable then
      let start := startOf i side s
      setPass side .active
        (modHead side (fun h => { h.moveTo .passStart with passIndex := some i, passStart := start }) s)
    else s

/-- Step `k` begins (R126). -/
def beginStep (k : Nat) (s : State) : State :=
  forSides (beginPass k)
    (s.modTcu fun t => { t with progress := t.progress.map fun p => { p with step := k } })

/-- The pass a wheel has in step `k` is COMPLETE and its head AT_WORK, or the wheel has none in the step (R129). -/
def sideStepDone (k : Nat) (s : State) (side : Side) : Bool :=
  match passInStep k (planPasses side s) with
  | none => true
  | some i =>
    (passStatuses side s)[i - 1]? == some .complete && (s.tcu.head.get side).position == .atWork

/-- A head whose wheel has a pass after step `k` and whose tool is not USABLE (R129). -/
def wornForLater (k : Nat) (s : State) (side : Side) : Bool :=
  (planPasses side s).any (fun p => k < p.step) && (s.tcu.head.get side).tool != .usable

/-- The step-end test (R129): the turning ends, pauses with cause EDGE, or goes on with the next step. DEDUCED, log 55:
taken while the TCU is PAUSED it does nothing, whatever the tools: RESUME makes it afresh. DEDUCED, log 66: taken while
the TCU is RUNUP after a RESUME it does nothing either: it is made when the spindle is AT_SPEED (`continueCutting`). -/
def stepEnd (s : State) : State :=
  match s.tcu.state, s.tcu.progress, s.tpe.plan.cut with
  | .cutting, some p, some c =>
    if sideStepDone p.step s .l && sideStepDone p.step s .r then
      if p.step = c.steps then endDone s
      else if wornForLater p.step s .l || wornForLater p.step s .r then
        rundown (s.modTcu fun t => { t with state := .paused .edge })
      else beginStep (p.step + 1) s
    else s
  | _, _, _ => s

/-- An INCOMPLETE pass of the current step is re-cut from its start (R126, R134), where its tool lets it begin (R137).
DEDUCED, log 56: a pass of the step that its tool held back, still PENDING, begins here too. -/
def recutPass (k : Nat) (side : Side) (s : State) : State :=
  match passInStep k (planPasses side s) with
  | none => s
  | some i =>
    let q := (passStatuses side s)[i - 1]?
    if q = some .incomplete ∨ q = some .pending then beginPass k side s else s

/-- The TCU becomes CUTTING and the step continues (R125, R134); a step whose end fell in the RUNUP ends now (log 66). -/
def continueCutting (s : State) : State :=
  let s := s.modTcu fun t => { t with state := .cutting }
  match s.tcu.progress with
  | none => s
  | some p => stepEnd (forSides (recutPass p.step) s)

end Sys2Proof.Machine
end

