-- ==== Sys2Proof/Machine/MeasureOps.lean ====
section
/-! DEFINITION. Shared operations of the Profile Measurement Unit (05): releasing heads, the end of a sweep and of a
reference sweep, head notices, the list checks, the extraction, the verdict and the history entry. -/

namespace Sys2Proof.Machine

/-! ## Heads lent to the PMU (R86, R122) -/

/-- A head's move to park has ended with the park switch made: PARKED, and the overtravel condition absent (R49,
R122). -/
def headParked (side : Side) (s : State) : State :=
  handCondition (overtravelOf side) false
    (modHead side (fun h => { h with position := .parked, dest := none }) s)

/-- A measuring head whose work has ended is released once it is PARKED, with no way left to go, or HALTED (R86). -/
def releaseHead (side : Side) (s : State) : State :=
  let h := s.tcu.head.get side
  if h.owner = .measure ∧ headInSweep side s = false ∧ referenceRunning side s = false ∧
      (h.position = .halted ∨ (h.position = .parked ∧ h.dest = none)) then
    modHead side (fun h => { h with owner := .none }) s
  else s

/-- A head that is MOVING, IN_CUT or PROBING stops where it stands, and one whose measuring has ended is released
(R15, R57, R86). -/
def stopHead (side : Side) (s : State) : State := releaseHead side (haltActiveHead side s)

/-- A probing head receives MODE PARK and is moved back to PARKED (R91, R93). DEDUCED, log 64: the result of this write is
discarded also where it comes while the sweep is still COMPUTING. -/
def sendProbeHome (side : Side) (s : State) : State :=
  place (modeTxn side .park .discarded) (modHead side (·.moveTo .park) s)

/-! ## The end of a sweep (R93) -/

/-- The wheel of a side is selected by the sweep record. -/
def swept (side : Side) (s : State) : Bool :=
  match s.pmu.selected with
  | some w => w.has side
  | none => false

/-- What the end of a sweep does with one head of it: its work in the gauge queue is abandoned. -/
def abandonSwept (side : Side) (s : State) : State :=
  if swept side s then abandon (.pmu side) s else s

/-- A claimed head that is not HALTED goes home at the end of a sweep that had not sent it (R93). -/
def parkSwept (wheels : Option Wheels) (side : Side) (s : State) : State :=
  match wheels with
  | none => s
  | some w =>
    if w.has side && (s.tcu.head.get side).position != .halted then sendProbeHome side s else s

/-- The common part of both ends of a sweep, the records apart (R93). -/
def closeSweep (outcome : SweepOutcome) (s : State) : State :=
  let computing := s.pmu.phase == .computing
  let wheels := s.pmu.selected
  let s := forSides abandonSwept s
  let s := s.modPmu fun p =>
    { p with phase := .idle, selected := none, lastSweep := outcome, entrySkipped := false, taken := .both none }
  let s := finishRun (discardPlan .sweep s)
  let s := if computing then s else forSides (parkSwept wheels) s
  forSides releaseHead s

/-- The record of a wheel whose sweep has failed (R98). -/
def failRecord (reason : Reason) (side : Side) (s : State) : State :=
  if swept side s then
    s.modPmu fun p =>
      let h := p.head.get side
      { p with record := p.record.set (.failed reason h.staleDuring h.profile.length) side }
  else s

/-- A running sweep ends FAILED with a reason; with no sweep running nothing happens (R92, R93). -/
def sweepFail (reason : Reason) (s : State) : State :=
  if sweepRunning s then closeSweep (.failed reason) (forSides (failRecord reason) s) else s

/-- A support of the sweep is lost (R92). -/
def supportLost (s : State) : State := sweepFail .support s

/-! ## The end of a reference sweep (R101, log entry 13) -/

/-- A head that is not HALTED receives MODE PARK and stands PARKED, the probe being withdrawn. -/
def stowHead (side : Side) (s : State) : State :=
  if (s.tcu.head.get side).position = .halted then s
  else
    place (modeTxn side .park .discarded)
      (handCondition (overtravelOf side) false
        (modHead side (fun h => { h with position := .parked, dest := some .stow }) s))

/-- A reference sweep ends with an outcome. -/
def endReference (side : Side) (outcome : ReferenceOutcome) (s : State) : State :=
  if referenceRunning side s then
    let s := abandon (.pmu side) s
    let s := modPmuHead side (fun h => { h with reference := .idle, lastReference := outcome }) s
    releaseHead side (stowHead side s)
  else s

/-- A running reference sweep ends FAILED with a reason. -/
def referenceFailed (reason : Reason) (side : Side) (s : State) : State := endReference side (.failed reason) s

/-- The head becomes STALE, and a sweep that claims it is marked (R85). -/
def makeStale (side : Side) (s : State) : State :=
  let running := headInSweep side s
  modPmuHead side (fun h =>
    { h with calibration := .stale, staleDuring := h.staleDuring || running && h.calibration == .verified }) s

/-- A head notice of the GBC: the head becomes STALE (R79, R85), and a reference sweep of it ends FAILED(STALE) (R101).
A head already STALE keeps its calibration and its flag. DEDUCED, log 59: its running reference sweep ends all the same,
of which R101's table makes no exception. -/
def headNotice (side : Side) (s : State) : State := referenceFailed .stale side (makeStale side s)

/-- The notices of an observation that ends: those addressed, or both where its start was not seen (R79). -/
def handNotices (o : Observation) (s : State) : State :=
  forSides (fun side s => if !o.seen || o.addressed.get side then headNotice side s else s) s

/-! ## Checks of a list (R89, R90) -/

/-- The positions rise strictly. -/
def rising : List Sample → Bool
  | a :: b :: rest => decide (a.pos < b.pos) && rising (b :: rest)
  | _ => true

/-- The first check of R89 that a profile list fails. -/
def profileCheck (zTl : Nat) (list : List Sample) : Option Reason :=
  if list.length < 16 then some .short
  else if !rising list then some .order
  else
    match list.head?, list.getLast? with
    | some a, some b => if a.pos ≤ zTl ∧ zTl ≤ b.pos then none else some .range
    | _, _ => some .short

/-- The angle index of each sample is its place, counted from `k`. -/
def inOrder (k : Nat) : List Sample → Bool
  | [] => true
  | a :: rest => a.pos == k && inOrder (k + 1) rest

/-- The first check of R90 that a ring list fails. -/
def ringCheck (list : List Sample) : Option Reason :=
  if list.length ≠ Config.ringCapacity then some .short
  else if !inOrder 0 list then some .order
  else none

/-- The first reason found, L before R. -/
def firstReason (l r : Option Reason) : Option Reason := l.orElse fun _ => r

/-! ## Extraction (R94 to R96) -/

/-- The probe offset of a head in µm (R94). -/
def offsetOf (side : Side) (s : State) : Int := 2 * s.sst.active.probeOffset.get side

/-- A list as (z, offset radius). -/
def offsetList (offset : Int) (list : List Sample) : List (Int × Int) :=
  list.map fun x => ((x.pos : Int), (x.r : Int) + offset)

/-- The taping line radius (R94). DEDUCED, log 18: the quotient is what is rounded (00_scope.md 5.2: every division
names its rounding). -/
def tapingRadius (zTl : Int) : List (Int × Int) → Option Int
  | [] => none
  | [(z, r)] => if z = zTl then some r else none
  | (za, ra) :: (zb, rb) :: rest =>
    if za = zTl then some ra
    else if za < zTl ∧ zTl < zb then some (ra + divHalfAway ((rb - ra) * (zTl - za)) (zb - za))
    else tapingRadius zTl ((zb, rb) :: rest)

/-- The flange tip: the largest radius, at the lowest z at which it occurs (R95). -/
def flangeTip : List (Int × Int) → Option (Int × Int)
  | [] => none
  | x :: rest =>
    match flangeTip rest with
    | none => some x
    | some best => if best.2 ≤ x.2 then some x else some best

/-- The first pair from the tip on that falls through a level, both samples at or below the taping line, and the z
found in it (R95, log 19). -/
def crossing (level zTl : Int) : List (Int × Int) → Option Int
  | (za, ra) :: (zb, rb) :: rest =>
    if zTl < zb then none
    else if level ≤ ra ∧ rb < level then some (za + divHalfAway ((zb - za) * (ra - level)) (ra - rb))
    else crossing level zTl ((zb, rb) :: rest)
  | _ => none

/-- The four figures of R95. -/
structure Extract where
  d : Int
  h : Int
  t : Int
  qR : Int
  deriving DecidableEq, Repr

/-- The extraction of one wheel's profile, or the reason it fails (R95). -/
def extract (zTl gauge qOff : Int) (list : List (Int × Int)) : Except Reason Extract :=
  match tapingRadius zTl list, flangeTip list with
  | some rTl, some (zTip, rTip) =>
    if zTl ≤ zTip then .error .noFlange
    else
      let rT := rTl + gauge
      let rQ := rTip - qOff
      let fromTip := list.dropWhile fun x => x.1 < zTip
      match crossing rT zTl fromTip with
      | none => .error .noFlank
      | some zThk =>
        if rQ ≤ rT then .error .noFlank
        else
          match crossing rQ zTl fromTip with
          | none => .error .noFlank
          | some zQ => .ok ⟨2 * rTl, rTip - rTl, zThk, zThk - zQ⟩
  | _, _ => .error .range

/-- The extraction of a head's profile list with the settings in force. -/
def extractSide (side : Side) (s : State) : Except Reason Extract :=
  let st := s.sst.active
  extract st.zTl st.gauge st.qOff (offsetList (offsetOf side s) (s.pmu.head.get side).profile)

/-- The tread diameter handed to the TCU at the end of PROFILE_SCAN (R89, R94). -/
def handedDiameter (side : Side) (s : State) : Option Int :=
  (tapingRadius s.sst.active.zTl (offsetList (offsetOf side s) (s.pmu.head.get side).profile)).map (2 * ·)

/-- The out-of-round depth of a ring list: the largest radius minus the smallest (R96). -/
def outOfRound : List Sample → Int
  | [] => 0
  | a :: rest => (rest.foldl (fun m x => max m x.r) a.r : Nat) - (rest.foldl (fun m x => min m x.r) a.r : Nat)

/-! ## The record and the entry (R98 to R100) -/

/-- The verdict against a wheel type entry; none where it is undefined (R99). -/
def verdictOf (w : WheelType) (d20 : Int) (x : Extract) (oor : Int) : Option Verdict :=
  if w.dScrap = 0 then none
  else if d20 < w.dScrap then some .condemn
  else if (w.hMax : Int) < x.h ∨ x.t < w.tMin ∨ (w.tMax : Int) < x.t ∨ x.qR < w.qRMin ∨ (w.oorMax : Int) < oor then
    some .turn
  else some .serviceable

/-- The wheel type entry of the seated axle; the undefined entry where no axle is seated. -/
def seatedType (s : State) : WheelType :=
  match s.pil.identity with
  | some i => s.sst.active.wheelType i.wheelType
  | none => .undefined

/-- The figures of a wheel whose extraction succeeded, its MISMATCH flag clear (R98, R99). -/
def figuresOf (side : Side) (x : Extract) (s : State) : ProfileFigures :=
  let head := s.pmu.head.get side
  let (temp, tempHeld) := (s.pmu.taken.get side).getD (Config.rimDefault, true)
  let oor := outOfRound head.ring
  let d20 := d20Of x.d temp
  { kind := if s.pmu.turnedSince then .asTurned else .asFound
    d := x.d
    d20 := d20
    h := x.h
    t := x.t
    qR := x.qR
    oor := oor
    temp := temp
    tempHeld := tempHeld
    mismatch := false
    calStale := head.staleDuring
    verdict := verdictOf (seatedType s) d20 x oor
    samples := head.profile.length }

/-- A verdict after a mismatch: SERVICEABLE becomes TURN (R99). -/
def mismatchVerdict : Option Verdict → Option Verdict
  | some .serviceable => some .turn
  | v => v

/-- The axle match check of an AS_TURNED sweep of both wheels (R99). -/
def matchCheck (tol : Int) (f : Sides (Option ProfileFigures)) : Sides (Option ProfileFigures) :=
  match f.l, f.r with
  | some a, some b =>
    if a.kind = .asTurned ∧ tol < ((a.d20 - b.d20).natAbs : Int) then
      ⟨some { a with mismatch := true, verdict := mismatchVerdict a.verdict },
       some { b with mismatch := true, verdict := mismatchVerdict b.verdict }⟩
    else f
  | _, _ => f

/-- The wheel part of an entry: of a record VALID without CAL_STALE_DURING (R100). -/
def partOf (f : ProfileFigures) : Option WheelPart :=
  if f.calStale then none else some ⟨f.d20, f.h, f.t, f.qR, f.oor, f.verdict⟩

/-- The history entry of a sweep that ends DONE, where it has a wheel part (R100). -/
def sweepEntry (asTurned : Bool) (f : Sides (Option ProfileFigures)) : Option EntryBody :=
  let part : Sides (Option WheelPart) := f.map fun x => x.bind partOf
  let mismatch := f.any fun x => (x.map ProfileFigures.mismatch).getD false
  if part.l.isNone && part.r.isNone then none
  else some (if asTurned then .checked part mismatch else .found part mismatch)

/-- The record of a wheel swept DONE (R98). -/
def setValid (f : Sides (Option ProfileFigures)) (side : Side) (s : State) : State :=
  match f.get side with
  | some x => s.modPmu fun p => { p with record := p.record.set (.valid x) side }
  | none => s

/-- The sweep ends DONE with the figures of each swept wheel (R93, R98, R100). -/
def sweepDone (f : Sides (Option ProfileFigures)) (s : State) : State :=
  let entry := sweepEntry s.pmu.turnedSince f
  let s := closeSweep .done (forSides (setValid f) s)
  match entry with
  | none => s
  | some body =>
    let skipped := (seatedRecord s).isNone
    handEntry body (s.modPmu fun p => { p with turnedSince := false, entrySkipped := skipped })

/-- The extraction of one wheel of the sweep; none for a wheel not selected. -/
def sideExtraction (side : Side) (s : State) : Except Reason (Option Extract) :=
  if swept side s then (extractSide side s).map some else .ok none

/-- The extraction of the swept wheels, L first, and the end of the sweep (R91). -/
def finishExtraction (s : State) : State :=
  match sideExtraction .l s with
  | .error reason => sweepFail reason s
  | .ok l =>
    match sideExtraction .r s with
    | .error reason => sweepFail reason s
    | .ok r =>
      sweepDone
        (matchCheck s.sst.active.axleTol ⟨l.map fun x => figuresOf .l x s, r.map fun x => figuresOf .r x s⟩) s

/-! ## The outcome of a reference sweep (R102) -/

/-- The mean of the offset radii of a ring list of 128 samples. -/
def ringMean (offset : Int) (list : List Sample) : Int :=
  divHalfAway (list.foldl (fun (acc : Int) x => acc + x.r + offset) 0) 128

/-- A completing read whose list passes its checks fixes the outcome and the new offset (R102). -/
def referenceOutcome (side : Side) (reach : Nat) (s : State) : State :=
  let offset := offsetOf side s
  let error := ringMean offset (s.pmu.head.get side).ring - s.sst.active.rRef
  if reach = 0 ∨ reach = 2 ∨ 510 < error.natAbs then
    endReference side .referenceFail (makeStale side s)
  else
    let steps := clampInt (-255) 255 (divHalfAway (offset - error) 2)
    let s := s.modSst fun t =>
      { t with active := { t.active with probeOffset := t.active.probeOffset.set steps side } }
    endReference side .verified (modPmuHead side (fun h => { h with calibration := .verified }) s)

/-- The completing read of a reference sweep: the list is checked as a ring list, and then the outcome fixed (R101,
R102). -/
def completeReference (side : Side) (reach : Nat) (s : State) : State :=
  match ringCheck (s.pmu.head.get side).ring with
  | some reason => referenceFailed reason side s
  | none => referenceOutcome side reach s

end Sys2Proof.Machine
end

