-- ==== Sys2Proof/Machine/LiftOps.lean ====
section
/-! DEFINITION. Shared operations of the seat, the bridges, the lift and the clamps (01, 02): the end of a visit, a lift
that comes to rest or is HALTED, the effects of load zones, a clamp that completes, fails or is halted, and a bridge that
completes, is lost or is halted. -/

namespace Sys2Proof.Machine

/-! ## The end of a visit (R7, R8) -/

/-- Both current profile records become NONE, and the turned-since-sweep flag is cleared (R8, R98). -/
def clearProfiles (s : State) : State :=
  s.modPmu fun p => { p with record := .both .none, turnedSince := false }

/-- The seat leaves SEATED: DONE or ABORTED becomes IDLE (R130). -/
def turningForgotten (s : State) : State :=
  match s.tcu.state with
  | .done => s.modTcu fun t => { t with state := .idle }
  | .aborted => s.modTcu fun t => { t with state := .idle }
  | _ => s

/-- The end of visit (R8). -/
def endVisit (s : State) : State :=
  let s := s.modPil fun p =>
    { p with seatState := .vacant, identity := none, tagState := .none, tagAttempts := 0, tagId := none }
  let s := discardPlan .seat (clearProfiles (abandon .pilTag s))
  turningForgotten (endSeating true s)

/-- The end-of-visit conditions have come to hold while the sensor is off and the seat is SEATED (R7). -/
def visitEndIfDue (s : State) : State :=
  if s.pil.seatState = .seated ∧ s.pil.presence = false ∧ visitEndConditions s = true then endVisit s else s

/-! ## The lift (R23, R34, R37) -/

/-- All four commanded steps become 0 (R20). -/
def stopSteps (posts : Four PostRecord) : Four PostRecord := posts.map fun p => { p with step := 0 }

/-- The lift comes to rest: LOWERED or HOLDING by the posts, the target the mean, no move kind, no steps (R23). -/
def restAt (s : State) : State :=
  s.modBlu fun b =>
    { b with
      lift := if allHome s then .lowered else .holding
      kind := none
      target := mean s
      posts := stopSteps b.posts }

/-- A move of the lift ends at rest with an outcome (R23, R47). -/
def restLift (outcome : LiftOutcome) (s : State) : State :=
  visitEndIfDue (restAt (s.modBlu fun b => { b with lastLift := outcome }))

/-- A bridge that is moving is halted from outside (R12). -/
def haltBridge (outcome : BridgeOutcome) (side : Side) (s : State) : State :=
  if (s.pil.bridge.get side).moving then
    modBridge side (fun b => { b with state := .halted, travelTimer := none, lastOutcome := outcome }) s
  else s

/-- A support of the turning spindle is lost: with the spindle running it goes to RUNDOWN and a turning is paused with
the cause (R37, R45). The sweep's own loss of support is beside it (R92). -/
def spindleUnsupported (cause : PauseCause) (s : State) : State :=
  if spindleRunning s then finishRun (rundown (pauseTurning cause s)) else s

/-- The lift enters HALTED with the outcome a moving lift records; a lift already HALTED is not changed (R34). -/
def haltLift (outcome : LiftOutcome) (s : State) : State :=
  if s.blu.lift = .halted then s
  else
    let s := s.modBlu fun b =>
      { b with
        lift := .halted
        kind := none
        posts := stopSteps b.posts
        lastLift := if liftMoving s then outcome else b.lastLift }
    let s := forSides (haltBridge .liftHalted) s
    spindleUnsupported .lift (supportLost s)

/-! ## Load zones (R21, R22, R37) -/

/-- Some post that was BEARING is BEARING no longer. -/
def leavesBearing (before after : Four Zone) : Bool :=
  (Four.zipWith (fun x y => x == Zone.bearing && y != Zone.bearing) before after).any id

/-- A post has left BEARING: a running sweep ends FAILED(SUPPORT) in any phase, with its measuring run (R92), and a
spindle that is RUNUP or AT_SPEED goes to RUNDOWN, a turning PAUSED(LOAD) (R37). DEDUCED, log 63: the sweep ends also
with the spindle STOPPED or in RUNDOWN, where R37 gives the post no effect beyond its zone. -/
def bearingLost (s : State) : State := spindleUnsupported .load (supportLost s)

/-- The posts take zones, and a post leaving BEARING and a LOAD move that has all four have their effects (R22, R27,
R37). -/
def takeZones (zones : Four Zone) (s : State) : State :=
  let before := s.blu.posts.map PostRecord.zone
  let s := s.modBlu fun b => { b with posts := b.posts.zipWith (fun p z => { p with zone := z }) zones }
  let s := if leavesBearing before zones then bearingLost s else s
  if s.blu.kind = some .load ∧ allBearing s = true then restLift .loaded s else s

/-- The zones of all posts found afresh from their loads (R22). -/
def zonesAfresh (s : State) : State :=
  takeZones (s.blu.posts.map fun p => zoneAfresh s.sst.active p.load) s

/-- The mean has fallen below the clearance height: a moving bridge is halted (R12). -/
def guardClearance (s : State) : State :=
  if mean s < s.sst.active.clearance then forSides (haltBridge .clearance) s else s

/-- The positions as read. -/
def takePositions (positions : Four Nat) (s : State) : State :=
  s.modBlu fun b => { b with posts := b.posts.zipWith (fun p x => { p with position := x }) positions }

/-- The loads as read, and the zones they give (R20, R21). -/
def takeLoads (loads : Four Nat) (s : State) : State :=
  let s := s.modBlu fun b => { b with posts := b.posts.zipWith (fun p x => { p with load := postLoad x }) loads }
  takeZones (s.blu.posts.map fun p => zoneAfter s.sst.active p.zone p.load) s

/-! ## The lift control period (R31 to R33) -/

/-- Arrival of the move in progress, with its outcome (R30, R31). -/
def arrival (s : State) : Option LiftOutcome :=
  let m := mean s
  let top := Config.postTravel - Config.arrivalWindow
  match s.blu.kind, s.blu.lift with
  | some .target, .rising => if s.blu.target ≤ m + Config.arrivalWindow then some .arrived else none
  | some .target, .lowering => if m ≤ s.blu.target + Config.arrivalWindow then some .arrived else none
  | some .home, .lowering => if allHome s then some .arrived else none
  | some .load, .rising => if allBearing s then some .loaded else if top ≤ m then some .noLoad else none
  | some .jog, .rising => if top ≤ m then some .jogEnded else none
  | some .jog, .lowering => if allHome s then some .jogEnded else none
  | _, _ => none

/-- The correction of a post at position `p` (R32). -/
def correctionOf (st : Settings) (mean p : Int) : Int :=
  let half := divTrunc ((st.liftSpeed : Int) * 20) 2
  match st.liftMode with
  | .full => clampInt (-half) half (divTrunc (st.kpLift * (mean - p)) 4)
  | .oneStep => if p < mean then 20 else if mean < p then -20 else 0

/-- The commanded step of a post (R32). -/
def stepOf (st : Settings) (rising load : Bool) (mean : Int) (p : PostRecord) : Nat :=
  if load && (p.zone == .bearing || p.zone == .overload) then 0
  else
    let nominal : Int := (st.liftSpeed : Int) * 20
    let c := correctionOf st mean p.position
    let x := max 0 (if rising then nominal + c else nominal - c)
    (min x (if rising then (Config.postTravel : Int) - p.position else p.position)).toNat

/-- The levelling loop sets every commanded step (R32). -/
def levelling (s : State) : State :=
  s.modBlu fun b =>
    { b with posts := b.posts.map fun p =>
        { p with step := stepOf s.sst.active (b.lift == .rising) (b.kind == some .load) (mean s) p } }

/-- A lift at rest changes between LOWERED and HOLDING with the posts (R23). -/
def retest (s : State) : State :=
  let s := s.modBlu fun b => { b with lift := if allHome s then .lowered else .holding }
  visitEndIfDue (if s.blu.lift = .lowered then supportLost s else s)

/-- The arrival test and the levelling steps of a control period, or the re-test of a lift at rest (R23, R31). -/
def liftPeriod (s : State) : State :=
  match s.blu.lift with
  | .halted => s
  | .lowered => retest s
  | .holding => retest s
  | _ =>
    match arrival s with
    | some outcome => restLift outcome s
    | none => levelling s

/-- The tilt condition (R33). -/
def tilted (s : State) : Bool := s.sst.active.tiltLimit < spread s

/-! ## The clamps (R38 to R44) -/

/-- Whether a clamp is being closed, or otherwise opened. -/
def Clamp.goal (c : Clamp) : ClampEnd := if c.state == .closing then .closed else .opened

/-- The state of a clamp at an end. -/
def clampAt : ClampEnd → ClampState
  | .closed => .closed
  | .opened => .opened

/-- The state of a clamp moving toward an end. -/
def clampToward : ClampEnd → ClampState
  | .closed => .closing
  | .opened => .opening

/-- The move of a clamp completes with an outcome (R41, R42). -/
def completeClamp (outcome : ClampOutcome) (side : Side) (s : State) : State :=
  modClamp side (fun c =>
    { c with state := clampAt c.goal, moveTimer := none, timeout := false, lastOutcome := outcome }) s

/-- A clamp whose timeout condition is present completes UNCONFIRMED while its monitor takes no action (R41). -/
def completeUnconfirmed (side : Side) (s : State) : State :=
  let mode := s.sst.active.monitorMode.get (clampMonitor side)
  let c := s.blu.clamp.get side
  if c.moving && c.timeout && (mode == .off || mode == .warnOnly) then completeClamp .unconfirmed side s else s

/-- A moving clamp is halted from outside (R44). -/
def haltClamp (outcome : ClampOutcome) (side : Side) (s : State) : State :=
  if (s.blu.clamp.get side).moving then
    modClamp side (fun c => { c with state := .halted, moveTimer := none, timeout := false, lastOutcome := outcome }) s
  else s

/-- A trip makes the clamp FAILED, unless it is HALTED or FAILED (R43, R53). -/
def failClamp (side : Side) (s : State) : State :=
  let c := s.blu.clamp.get side
  if c.state = .halted ∨ c.state = .failed then s
  else
    let s := modClamp side (fun c =>
      { c with state := .failed, moveTimer := none, timeout := false, lastOutcome := .failed }) s
    finishRun (rundown (pauseTurning .clamp (if c.state = .closed then supportLost s else s)))

/-- The move timer of a clamp that begins to move, ms (R38, R41). -/
def clampTimer (st : Settings) : Nat :=
  match st.clampMode with
  | .sensor => Config.clampConfirmTime
  | .timed => st.clampTime

/-- A clamp that is not at an end begins to move there (R38, R39). -/
def beginClamp (aim : ClampEnd) (side : Side) (s : State) : State :=
  let c := s.blu.clamp.get side
  if c.state = clampAt aim then s
  else
    let s := modClamp side (fun c =>
      { c with state := clampToward aim, moveTimer := some (clampTimer s.sst.active), timeout := false }) s
    if c.state = .closed then supportLost s else s

/-! ## The bridges (R9 to R12) -/

/-- The state of a bridge at an end. -/
def bridgeAt : BridgeEnd → BridgeState
  | .inLine => .inLine
  | .out => .out

/-- The state of a bridge moving toward an end. -/
def bridgeToward : BridgeEnd → BridgeState
  | .inLine => .movingIn
  | .out => .movingOut

/-- A bridge at an end loses its switch: HALTED with its fault flag set (R9); leaving OUT it takes the support of the
spindle and of a sweep with it (R45, R92). -/
def bridgeLost (side : Side) (s : State) : State :=
  let wasOut := (s.pil.bridge.get side).state == .out
  let s := modBridge side (fun b => { b with state := .halted, fault := true, lastOutcome := .switchLost }) s
  if wasOut then spindleUnsupported .lift (supportLost s) else s

/-- A bridge that is not at the requested end begins to move there (R9, R10). -/
def beginBridge (aim : BridgeEnd) (side : Side) (s : State) : State :=
  let b := s.pil.bridge.get side
  if b.state = bridgeAt aim then s
  else
    let s := modBridge side (fun b =>
      { b with state := bridgeToward aim, fault := false, travelTimer := some Config.bridgeTravelTime }) s
    if b.state = .out then supportLost s else s

end Sys2Proof.Machine
end

