-- ==== Sys2Proof/Machine/MonitorOps.lean ====
section
/-! DEFINITION. Shared operations of the Fault Monitor Unit (03): a trip and its action, stroke starts, changes of mode,
and the starts of spindle runs and cuts that are strokes. -/

namespace Sys2Proof.Machine

/-! ## The actions of a trip (R52 to R57) -/

/-- A trip of M1 to M5 (R52). -/
def liftTrip (s : State) : State :=
  finishRun (rundown (pauseTurning .lift (supportLost (haltLift .tripped s))))

/-- A trip of M8 (R54). -/
def slipTrip (s : State) : State :=
  let s := pauseTurning .slip s
  let s := if s.tcu.measuring then sweepFail .slip s else s
  finishRun (rundown s)

/-- A trip of M9 or M10 (R55). -/
def forceTrip (side : Side) (s : State) : State :=
  let s := withdrawHead side s
  let s :=
    match s.sst.active.scope.get side with
    | .side => s
    | .pit => withdrawHead side.other s
  if s.tcu.state = .cutting then s.modTcu fun t => { t with state := .paused .force } else s

/-- A trip of M11 or M12 (R56). -/
def overtravelTrip (side : Side) (s : State) : State :=
  let h := s.tcu.head.get side
  let claimed := headInSweep side s
  let s := if h.position = .moving ∨ h.position = .probing then modHead side Head.halt s else s
  let s := if claimed then sweepFail .overtravel s else s
  leaveEnding (releaseHead side (referenceFailed .overtravel side s))

/-- Everything that moves stops where it stands, and a turning ends, with the cause, the outcomes and the reasons that
the pit stop (R15) or a trip of M13 (R57) gives. The lift is not in it. -/
def haltWorks (cause : TurnCause) (reason : Reason) (clamp : ClampOutcome) (s : State) : State :=
  let s := forSides haltActiveHead s
  let s := forSides (referenceFailed reason) (sweepFail reason s)
  let s := if turningLive s then endAborted cause s else s
  let s := forSides (haltClamp clamp) s
  leaveEnding (forSides releaseHead (finishRun (rundown s)))

/-- A trip of M13 (R57). -/
def presenceTrip (s : State) : State :=
  haltLift .presenceLost (haltWorks .presenceLost .support .presenceLost s)

/-- The action of a trip, owner by owner (3.4). -/
def tripAction : MonitorId → State → State
  | .m1 => liftTrip
  | .m2 => liftTrip
  | .m3 => liftTrip
  | .m4 => liftTrip
  | .m5 => liftTrip
  | .m6 => failClamp .l
  | .m7 => failClamp .r
  | .m8 => slipTrip
  | .m9 => forceTrip .l
  | .m10 => forceTrip .r
  | .m11 => overtravelTrip .l
  | .m12 => overtravelTrip .r
  | .m13 => presenceTrip

/-- The record of a monitor after a trip, in the state given (R50, R51). -/
def Monitor.tripped (m : Monitor) (state : MonitorState) : Monitor :=
  { m with state := state, count := saturate Config.maxTrips (m.count + 1), timer := none, recurrence := .none }

/-- A monitor trips under the mode in force (R50, R51, R58). A monitor that is OFF never comes to it (R61). -/
def trip (m : MonitorId) (s : State) : State :=
  match s.sst.active.monitorMode.get m with
  | .latched => tripAction m (modMonitor m (·.tripped .latched) s)
  | .perStroke => tripAction m (modMonitor m (·.tripped .tripped) s)
  | .warnOnly => modMonitor m (·.tripped .warned) s
  | .off => s

/-- The monitor's record with nothing to report (R58, R60, R61). -/
def Monitor.cleared (m : Monitor) : Monitor := { m with state := .quiet, timer := none, recurrence := .none }

/-- The start of a monitor's next stroke (R58): a TRIPPED monitor is tested against the condition as its owner hands it
at that moment, without blanking. -/
def strokeStart (m : MonitorId) (s : State) : State :=
  if (s.fmu.monitors.get m).state = .tripped then
    if ownerCondition s m then trip m (handCondition m true s)
    else modMonitor m Monitor.cleared (handCondition m false s)
  else s

/-- The stroke starts of M1 to M5: a lift move taken (R58). -/
def liftStroke (s : State) : State :=
  strokeStart .m5 (strokeStart .m4 (strokeStart .m3 (strokeStart .m2 (strokeStart .m1 s))))

/-! ## Changes of mode (R61) -/

/-- What a change of mode does to a monitor's record; evaluation after OFF is the state machine's (R50). -/
def remode (time : Nat) (mode : MonitorMode) (m : Monitor) : Monitor :=
  match mode, m.state with
  | .off, _ => m.cleared
  | .latched, .warned => { m with state := .deglitch, timer := some time }
  | .perStroke, .warned => { m with state := .deglitch, timer := some time }
  | _, _ => m

/-- The mode of a monitor has changed from `before` to what the settings now hold (R41, R61). -/
def modeChanged (before : MonitorMode) (m : MonitorId) (s : State) : State :=
  let mode := s.sst.active.monitorMode.get m
  if mode = before then s
  else forSides completeUnconfirmed (modMonitor m (remode (s.sst.active.deglitch.get m) mode) s)

/-! ## Starts of spindle runs and of cuts (R58, R59, R120, R126) -/

/-- The spindle enters RUNUP toward a target in m/min: the blanking of M8 begins and its next stroke starts (R58, R59,
R120). DEDUCED, log 52: rollers that already turn at their share of the target, at blank 8 at the target itself, end the
blanking at the entry. -/
def spindleUp (target : Nat) (s : State) : State :=
  let s := s.modTcu fun t => { t with spindle := .runup target, stopTimer := none, runEvents := 0, interval := 0 }
  let eighths := s.sst.active.slipBlanking
  let s := s.modFmu fun u =>
    { u with
      slipEighths := eighths
      slipBlanked := decide (s.tcu.rollerSpeed * 8 < eighths * target * 1000) }
  strokeStart .m8 s

/-- The spindle is given to a measuring run, or the run is refused (R45, R140). -/
def runForMeasure (s : State) : State :=
  if bothClamps .closed s && bothBridges .out s then
    if s.tcu.spindle = .stopped then spindleUp Config.measuringSpeed s else s
  else supportLost s

/-- The state a measuring run records as left (R140). -/
def leftState : TcuState → LeftState
  | .measureRun left => left
  | .done => .done
  | .aborted => .aborted
  | _ => .idle

/-- The PMU's request for a measuring run (R140). -/
def requestRun (s : State) : State :=
  if bothClamps .closed s && bothBridges .out s then
    runForMeasure (s.modTcu fun t => { t with state := .measureRun (leftState t.state), measuring := true })
  else supportLost s

/-- The feed of a head at the start of a pass: f_start clamped into f_min to f_max (R126). -/
def startFeed (st : Settings) : Nat := (clampInt st.fMin st.fMax st.fStart).toNat

/-- The revolutions remaining of a pass (R126, R127). -/
def revolutionsLeft (lProf zDone feed : Nat) : Nat := saturate Config.max16 (natDivCeil (lProf - zDone) feed)

/-- The travel of a pass of the turning (R125). -/
def passTravel (s : State) : Nat :=
  match s.tcu.progress with
  | some p => p.lProf
  | none => 0

/-- A head that waits at the start of its pass goes IN_CUT at an index event: the blanking of M9 or M10 begins and its
next stroke starts (R58, R59, R126). -/
def beginCut (side : Side) (s : State) : State :=
  let feed := startFeed s.sst.active
  strokeStart (forceOf side)
    (modHead side (fun h =>
      { h with
        position := .inCut
        dest := none
        feed := feed
        zDone := some 0
        remaining := some (revolutionsLeft (passTravel s) 0 feed)
        blankLeft := s.sst.active.toolBlanking.get side }) s)

end Sys2Proof.Machine
end

