-- ==== Sys2Proof/Machine/Reports.lean ====
section
/-! DEFINITION. The bytes the part sends (11): the pit status report, the replies and their frames; and the end of every
step, at which the monitors see their conditions, the clear-to-move line follows and the report-due flag is raised
(R16, R49, R174). An enumerated field's code is the place of its value in its list, which is the order of the
constructors in State.lean (R190). -/

namespace Sys2Proof.Machine

/-! ## Fields -/

/-- An unsigned field of `n` bytes. A figure it cannot hold is a free value (log entry 7). -/
def field (n : Nat) (x : Int) : List Byte :=
  if 0 ≤ x ∧ x < 256 ^ n then be n x else be n (Config.oversizedField n x)

/-- An unsigned field of `n` bytes that may be absent. -/
def fieldOpt (n : Nat) : Option Int → List Byte
  | some x => field n x
  | none => absentBytes n

/-- A field of one byte, an enumerated one or a count. -/
def one (n : Nat) : List Byte := [byte n]

/-- A field of one byte that may be absent. -/
def oneOpt (n : Option Nat) : List Byte := [byteOpt n]

/-- A pair of fields, L first. -/
def pair {α : Type} (f : α → List Byte) (v : Sides α) : List Byte := f v.l ++ f v.r

/-- Four fields, P1 first. -/
def fourOf {α : Type} (f : α → List Byte) (v : Four α) : List Byte := f v.p1 ++ f v.p2 ++ f v.p3 ++ f v.p4

/-! ## The pit status report (11.3) -/

/-- Offsets 0 to 34: the Pit Interlock (R19), with the flags of its neighbours. -/
def pilReport (s : State) : List Byte :=
  let p := s.pil
  one p.seatState.ctorIdx ++ oneOpt (p.identity.map fun i => i.source.ctorIdx) ++
  charField 10 (p.identity.map Identity.axleId) ++
  one p.tagState.ctorIdx ++ one p.tagAttempts ++ charField 10 p.tagId ++
  pair (fun b => one b.state.ctorIdx) p.bridge ++ be 4 p.stamp.toNat ++
  one p.lastTag.ctorIdx ++ pair (fun b => one b.lastOutcome.ctorIdx) p.bridge ++
  one (bitIf 128 p.presence + bitIf 64 p.pitStop + bitIf 32 p.clearToMove + bitIf 16 p.bridge.l.fault +
    bitIf 8 p.bridge.r.fault + bitIf 4 s.gbc.foreignFlag + bitIf 2 s.ahs.storeFull + bitIf 1 s.pmu.entrySkipped) ++
  one (bitIf 128 s.slp.silenceFlag + bitIf 64 s.slp.silenceHold + bitIf 32 s.slp.resetPending +
    bitIf 8 (pendantLamp s .lift) + bitIf 4 (pendantLamp s .clamps) + bitIf 2 (pendantLamp s .bridges) +
    bitIf 1 (pendantLamp s .heads))

/-- Offsets 35 to 45: the Bogie Lift Unit (R47). -/
def bluReport (s : State) : List Byte :=
  let b := s.blu
  one b.lift.ctorIdx ++ oneOpt (b.kind.map MoveKind.ctorIdx) ++ field 3 b.target ++
  one (64 * b.posts.p1.zone.rank + 16 * b.posts.p2.zone.rank + 4 * b.posts.p3.zone.rank + b.posts.p4.zone.rank) ++
  pair (fun c => one c.state.ctorIdx) b.clamp ++ one b.lastLift.ctorIdx ++
  pair (fun c => one c.lastOutcome.ctorIdx) b.clamp

/-- Offsets 46 to 52: the state of each monitor, 4 bits (R63). -/
def fmuReport (s : State) : List Byte :=
  let c := fun m => (s.fmu.monitors.get m).state.ctorIdx
  one (16 * c .m1 + c .m2) ++ one (16 * c .m3 + c .m4) ++ one (16 * c .m5 + c .m6) ++ one (16 * c .m7 + c .m8) ++
  one (16 * c .m9 + c .m10) ++ one (16 * c .m11 + c .m12) ++ one (16 * c .m13)

def SweepOutcome.reason : SweepOutcome → Option Reason
  | .failed r => some r
  | _ => .none

def ReferenceOutcome.reason : ReferenceOutcome → Option Reason
  | .failed r => some r
  | _ => .none

def ProfileRecord.figures : ProfileRecord → Option ProfileFigures
  | .valid f => some f
  | .superseded f => some f
  | _ => .none

/-- Offsets 53 to 65: the Profile Measurement Unit (R104). -/
def pmuReport (s : State) : List Byte :=
  let p := s.pmu
  one p.phase.ctorIdx ++ oneOpt (p.selected.map Wheels.ctorIdx) ++ one p.lastSweep.ctorIdx ++
  oneOpt (p.lastSweep.reason.map Reason.ctorIdx) ++
  one (bitIf 1 (p.head.l.calibration == .stale) + bitIf 2 (p.head.r.calibration == .stale) +
    bitIf 4 (referenceRunning .l s) + bitIf 8 (referenceRunning .r s)) ++
  pair (fun h => one h.lastReference.ctorIdx) p.head ++
  pair (fun h => oneOpt (h.lastReference.reason.map Reason.ctorIdx)) p.head ++
  pair (fun r => one r.ctorIdx) p.record ++
  pair (fun r => oneOpt (r.figures.bind fun f => f.verdict.map Verdict.ctorIdx)) p.record

/-- The flags of a plan: bit 0 SIBLING_DUE, bit 1 TEMP_HELD. -/
def PlanFigures.flags (f : PlanFigures) : Nat := bitIf 1 f.siblingDue + bitIf 2 f.tempHeld

/-- The figures whose flags the report carries: the plan's, or, while MARKING, those of the plan to come (6.10). -/
def shownFigures (t : Tpe) : Option PlanFigures := t.plan.figures.orElse fun _ => t.computed.map Prod.fst

def PlanOutcome.reason : PlanOutcome → Option PlanReason
  | .refused r => some r
  | .cancelled r => some r
  | _ => .none

/-- Offsets 66 to 72: the Turning Plan Engine (R119). -/
def tpeReport (s : State) : List Byte :=
  let t := s.tpe
  one t.plan.state.ctorIdx ++ oneOpt (t.plan.reason.map PlanReason.ctorIdx) ++
  oneOpt ((shownFigures t).map PlanFigures.flags) ++ one t.work.ctorIdx ++
  oneOpt (if t.work = .marking then some t.marks.length else none) ++
  one t.lastPlan.ctorIdx ++ oneOpt (t.lastPlan.reason.map PlanReason.ctorIdx)

/-- The cause of PAUSED or the outcome of ENDING. -/
def TcuState.detail : TcuState → Option Nat
  | .paused c => some c.ctorIdx
  | .ending ab => some (bitIf 1 ab)
  | _ => .none

/-- A head in the report: owner, position state, tool state, current pass index. -/
def headReport (h : Head) : List Byte :=
  one h.owner.ctorIdx ++ one h.position.ctorIdx ++ one h.tool.ctorIdx ++ oneOpt h.passIndex

/-- The statuses of passes `i + 1` to `i + 4`, 2 bits each. -/
def statusByte (q : List PassStatus) (i : Nat) : List Byte :=
  let c := fun k => match q[i + k]? with | some x => x.ctorIdx | none => 0
  one (64 * c 0 + 16 * c 1 + 4 * c 2 + c 3)

/-- The statuses of the sixteen places of a pass list. -/
def statusBytes (q : List PassStatus) : List Byte :=
  statusByte q 0 ++ statusByte q 4 ++ statusByte q 8 ++ statusByte q 12

def TurnOutcome.cause : TurnOutcome → Option TurnCause
  | .interrupted c => some c
  | _ => .none

/-- Offsets 73 to 94: the Turning Control Unit (R142). -/
def tcuReport (s : State) : List Byte :=
  let t := s.tcu
  one t.state.ctorIdx ++ oneOpt t.state.detail ++ one t.spindle.ctorIdx ++ oneOpt (t.progress.map Progress.step) ++
  pair headReport t.head ++ statusBytes (passStatuses .l s) ++ statusBytes (passStatuses .r s) ++
  one t.lastTurn.ctorIdx ++ oneOpt (t.lastTurn.cause.map TurnCause.ctorIdx)

def CommitOutcome.axleId : CommitOutcome → Option AxleId
  | .none => .none
  | .committed id _ => some id
  | .failed id _ => some id

def CommitOutcome.bads : CommitOutcome → Option Nat
  | .none => .none
  | .committed _ n => some n
  | .failed _ n => some n

/-- The open records that are DIRTY or COMMITTING (R167). -/
def notClean (s : State) : Nat := (s.ahs.cache.filter fun o => o.state != .clean).length

/-- Offsets 95 to 109: the Axle History Store (R167). -/
def ahsReport (s : State) : List Byte :=
  let a := s.ahs
  one a.store.ctorIdx ++ one a.link.ctorIdx ++ one (notClean s) ++ one a.lastCommit.ctorIdx ++
  charField 10 a.lastCommit.axleId ++ oneOpt a.lastCommit.bads

/-- Offsets 110 and 111: the Settings Store (R189). -/
def sstReport (s : State) : List Byte := one s.sst.store.ctorIdx ++ one s.sst.lastOutcome.ctorIdx

/-- The report body of 112 bytes: every field the report carries (R174, 11.3). -/
def reportBody (s : State) : List Byte :=
  pilReport s ++ bluReport s ++ fmuReport s ++ pmuReport s ++ tpeReport s ++ tcuReport s ++ ahsReport s ++ sstReport s

/-! ## The STATUS reply (R175, 11.3) -/

/-- Offsets 163 to 182: the fields of a head that STATUS carries. -/
def headStatus (h : Head) : List Byte :=
  field 2 h.edgeCount ++ one h.edgesUsed ++ field 2 h.feed ++ fieldOpt 3 (h.zDone.map fun n => n) ++
  fieldOpt 2 (h.remaining.map fun n => n)

/-- Byte 247: silence mode, image check, autoload, start source. DEDUCED, log 71: 11.3 gives the autoload field the code 3
for absent alone; it is sent with the codes that 11.2 gives the byte of STORE_SETTINGS, SET 0 and CLEAR 1. -/
def settingsStatus (s : State) : Nat :=
  bitIf 128 (s.sst.active.silenceMode == .report) + bitIf 64 s.sst.image.isNone +
  16 * (match s.sst.image with | none => 3 | some i => if i.autoload then 0 else 1) +
  bitIf 8 (s.sst.source == .image)

/-- The cache state of a place, 3 where it is empty. -/
def placeCode (s : State) (i : Nat) : Nat :=
  match s.ahs.cache[i]? with
  | some o => o.state.ctorIdx
  | none => 3

/-- The axle ID of a place of the cache. -/
def placeId (s : State) (i : Nat) : List Byte := charField 10 (s.ahs.cache[i]?.map fun o => o.record.axleId)

/-- The fields that STATUS carries after the result code. -/
def statusFields (s : State) : List Byte :=
  let id := s.pil.identity
  reportBody s ++
  oneOpt (id.map Identity.wheelType) ++ charField 8 (id.map Identity.bogieId) ++ oneOpt (id.map Identity.position) ++
  fourOf (fun p => field 3 p.position) s.blu.posts ++ fourOf (fun p => field 2 p.load) s.blu.posts ++
  field 3 (mean s) ++
  one (64 * s.gbc.bus.ctorIdx + s.gbc.queue.length) ++
  one (16 * heldBy (.pmu .l) s + 4 * heldBy (.pmu .r) s + heldBy .pilTag s) ++
  one s.pmu.settle ++ pair (fun h => field 2 h.profile.length ++ one h.ring.length) s.pmu.head ++
  pair (fun h => oneOpt h.lastReach) s.pmu.head ++
  pair (fun r => be 2 r.value) s.pmu.rim ++ pair (fun r => one r.state.ctorIdx) s.pmu.rim ++
  pair headStatus s.tcu.head ++ field 4 s.tcu.revolutions ++
  field 3 s.tcu.rollerSpeed ++ fieldOpt 3 ((wheelSpeed s).map fun n => n) ++
  field 2 s.ahs.index.length ++ field 2 (freeGood s) ++ field 2 (spareSlots s) ++ field 2 (badSlots s) ++
  field 2 s.ahs.scanLosses ++
  one s.ahs.queue.length ++
  one (64 * placeCode s 0 + 16 * placeCode s 1 + 4 * placeCode s 2 + placeCode s 3) ++
  placeId s 0 ++ placeId s 1 ++ placeId s 2 ++ placeId s 3 ++
  one s.slp.queue.length ++ one s.sst.active.silenceTimeout ++ one (settingsStatus s)

/-! ## Record replies (11.4) -/

def ProfileRecord.failure : ProfileRecord → Option Reason
  | .failed r _ _ => some r
  | _ => .none

/-- The flags of a profile record: bit 0 CAL_STALE_DURING, 1 TEMP_HELD, 2 MISMATCH. DESIGN CHOICE, log 72: a FAILED record
has CAL_STALE_DURING alone (5.6), and the bits of the two flags that are absent there are sent as 0. -/
def ProfileRecord.flags : ProfileRecord → Option Nat
  | .none => .none
  | .valid f => some (bitIf 1 f.calStale + bitIf 2 f.tempHeld + bitIf 4 f.mismatch)
  | .failed _ calStale _ => some (bitIf 1 calStale)
  | .superseded f => some (bitIf 1 f.calStale + bitIf 2 f.tempHeld + bitIf 4 f.mismatch)

def ProfileRecord.samples : ProfileRecord → Option Nat
  | .none => .none
  | .valid f => some f.samples
  | .failed _ _ n => some n
  | .superseded f => some f.samples

/-- READ_PROFILE after the result code (R104). -/
def profileFields (side : Side) (s : State) : List Byte :=
  let r := s.pmu.record.get side
  let f := r.figures
  one side.ctorIdx ++ one r.ctorIdx ++ oneOpt (f.map fun f => f.kind.ctorIdx) ++ oneOpt (r.failure.map Reason.ctorIdx) ++
  fieldOpt 4 (f.map (·.d)) ++ fieldOpt 4 (f.map (·.d20)) ++ fieldOpt 4 (f.map (·.h)) ++ fieldOpt 4 (f.map (·.t)) ++
  fieldOpt 4 (f.map (·.qR)) ++ fieldOpt 4 (f.map (·.oor)) ++ beSigned 2 (f.map (·.temp)) ++ oneOpt r.flags ++
  oneOpt (f.bind fun f => f.verdict.map Verdict.ctorIdx) ++ fieldOpt 2 (r.samples.map fun n => n)

/-- A place of a pass list: depth and step, absent beyond the list. -/
def passField (p : Option Pass) : List Byte :=
  fieldOpt 2 (p.map fun p => p.depth) ++ oneOpt (p.map Pass.step)

/-- The sixteen places of a pass list. -/
def passFields (passes : Option (List Pass)) : List Byte :=
  (List.range 16).flatMap fun i => passField (passes.bind fun ps => ps[i]?)

/-- READ_PLAN after the result code (R119). -/
def planFields (s : State) : List Byte :=
  let p := s.tpe.plan
  let f := p.figures
  let c := p.cut
  one p.state.ctorIdx ++ oneOpt (p.reason.map PlanReason.ctorIdx) ++ charField 10 (f.map (·.axleId)) ++
  oneOpt (f.map (·.wheelType)) ++ oneOpt (f.map (·.profileIndex)) ++
  fieldOpt 4 (f.map (·.d20.l)) ++ fieldOpt 4 (f.map (·.d20.r)) ++
  fieldOpt 4 (f.map (·.required.l)) ++ fieldOpt 4 (f.map (·.required.r)) ++
  beSigned 4 (f.map (·.target)) ++ fieldOpt 4 (f.map (·.depth.l)) ++ fieldOpt 4 (f.map (·.depth.r)) ++
  oneOpt (c.map fun c => c.band.l.ctorIdx) ++ oneOpt (c.map fun c => c.band.r.ctorIdx) ++ oneOpt (c.map (·.speed)) ++
  fieldOpt 2 (c.bind fun c => c.force.l.map fun n => n) ++ fieldOpt 2 (c.bind fun c => c.force.r.map fun n => n) ++
  oneOpt (c.map (·.steps)) ++ oneOpt (f.map PlanFigures.flags) ++
  oneOpt (c.map fun c => c.passes.l.length) ++ oneOpt (c.map fun c => c.passes.r.length) ++
  passFields (c.map fun c => c.passes.l) ++ passFields (c.map fun c => c.passes.r)

/-- The blanking of a monitor, where it has one (R59, R63). -/
def blankingOf (st : Settings) : MonitorId → Option Nat
  | .m8 => some st.slipBlanking
  | .m9 => some st.toolBlanking.l
  | .m10 => some st.toolBlanking.r
  | _ => none

/-- The scope of a monitor, where it has one. -/
def scopeOf (st : Settings) : MonitorId → Option Scope
  | .m9 => some st.scope.l
  | .m10 => some st.scope.r
  | _ => none

/-- The record of a monitor in READ_FAULTS (R63). -/
def faultFields (s : State) (m : MonitorId) : List Byte :=
  let r := s.fmu.monitors.get m
  let st := s.sst.active
  one r.state.ctorIdx ++ one (st.monitorMode.get m).ctorIdx ++ one (st.deglitch.get m) ++
  oneOpt ((scopeOf st m).map Scope.ctorIdx) ++ oneOpt (blankingOf st m) ++ one r.count ++ one (bitIf 1 r.condition)

/-- READ_FAULTS after the result code. -/
def faultsFields (s : State) : List Byte := MonitorId.list.flatMap (faultFields s)

/-- The records of the store with a bogie ID, in ascending order of axle ID (R161). -/
def bogieRecords (id : BogieId) (s : State) : List Record :=
  (s.ahs.index.filterMap fun e => readRecord e.axleId s).filter fun r => r.bogieId == id

/-- LIST_BOGIE after the result code: the count, and the first eight with their states (R161). -/
def bogieFields (id : BogieId) (s : State) : List Byte :=
  let rs := bogieRecords id s
  field 2 rs.length ++ (rs.take 8).flatMap fun r => r.axleId ++ one r.state.ctorIdx

/-- A wheel part of a measurement entry. -/
def partFields (p : WheelPart) : List Byte :=
  field 3 p.d20 ++ field 3 p.h ++ field 3 p.t ++ field 3 p.qR ++ field 3 p.oor ++ oneOpt (p.verdict.map Verdict.ctorIdx)

/-- The parts of a measurement entry, with its flags. -/
def measurementFields (part : Sides (Option WheelPart)) (mismatch : Bool) : List Byte :=
  one (bitIf 1 part.l.isSome + bitIf 2 part.r.isSome + bitIf 4 mismatch) ++
  (match part.l with | some p => partFields p | none => []) ++
  (match part.r with | some p => partFields p | none => [])

/-- The body of an entry (11.4). -/
def entryBodyFields : EntryBody → List Byte
  | .found part mismatch => measurementFields part mismatch
  | .checked part mismatch => measurementFields part mismatch
  | .turned target planned cut passes interrupted =>
    be 4 target ++ pair (field 3) planned ++ pair (field 3) cut ++ pair one passes ++ one (bitIf 1 interrupted)
  | .marked limit source => field 3 limit ++ charField 10 (some source)
  | .condemned target => be 4 target
  | .entered d => pair (fieldOpt 3) d

/-- An entry: kind, length, stamp, serial, body. -/
def entryFields (e : Entry) : List Byte :=
  let body := entryBodyFields e.body
  one e.body.ctorIdx ++ one (8 + body.length) ++ be 4 e.stamp.toNat ++ field 2 e.serial ++ body

/-- The entries that fit: at most `n`, and whole in `room` bytes (R191). -/
def entriesThatFit : (n room : Nat) → List (List Byte) → List (List Byte)
  | 0, _, _ => []
  | _, _, [] => []
  | n + 1, room, e :: rest => if e.length ≤ room then e :: entriesThatFit n (room - e.length) rest else []

/-- The header of READ_HISTORY after the result code, up to the number of entries in the list. -/
def recordFields (r : Record) : List Byte :=
  let due : Option (Int × AxleId) := match r.state with | .turnDue limit source => some (limit, source) | _ => none
  charField 10 (some r.axleId) ++ one r.wheelType ++ charField 8 (some r.bogieId) ++ one r.position ++
  one r.state.ctorIdx ++ fieldOpt 3 (due.map Prod.fst) ++ charField 10 (due.map Prod.snd) ++
  pair (fieldOpt 3) r.lastD ++ oneOpt (r.lastWork.map WorkKind.ctorIdx) ++ field 3 r.loss ++
  field 2 r.turnings ++ field 2 r.visits ++ field 2 r.nextSerial ++ one r.entries.length

/-- READ_HISTORY after the result code (R160, R191). DESIGN CHOICE, log 20: of a record that has left the store since
the dispatch every field is absent but bytes 51 and 52, the entries in the list and in this reply, which are both sent
as 0. -/
def historyFields (id : AxleId) (start : Nat) (s : State) : List Byte :=
  match readRecord id s with
  | some r =>
    let es := entriesThatFit 8 195 ((r.entries.drop start).map entryFields)
    recordFields r ++ one es.length ++ es.flatten
  | none =>
    charField 10 none ++ absentBytes 1 ++ charField 8 none ++ absentBytes 5 ++ charField 10 none ++ absentBytes 16 ++
    one 0 ++ one 0

/-- The value GET_SETTING reads (R183); absent where the image has gone since the dispatch. -/
def settingValue (stored : Bool) (addr : SettingAddr) (s : State) : Option Int :=
  (settingOf addr).bind fun x =>
    if stored then s.sst.image.map fun i => readSetting i.settings x else some (readSetting s.sst.active x)

/-! ## Replies and frames (R172, 9.1) -/

/-- The fields of a late reply, taken as its sending begins (R172). -/
def lateFields (s : State) : LateRead → List Byte
  | .status => statusFields s
  | .readFaults => faultsFields s
  | .readProfile side => profileFields side s
  | .readPlan => planFields s
  | .readHistory id start => historyFields id start s
  | .listBogie id => bogieFields id s
  | .getSetting stored addr => beSigned 4 (settingValue stored addr s)

/-- The payload of a reply. -/
def replyPayload (s : State) : ReplyBody → List Byte
  | .fixed code fields => one code.ctorIdx ++ fields
  | .late read => one Code.ok.ctorIdx ++ lateFields s read

/-- A frame: SYNC, LEN, KIND, TAG, PAYLOAD, CRC (9.1). -/
def frameBytes (kind tag : Byte) (payload : List Byte) : List Byte :=
  let inner := byte payload.length :: kind :: tag :: payload
  0xA5#8 :: inner ++ be 2 (crc16 inner).toNat

/-- The frame of a reply. -/
def replyFrame (s : State) (r : Reply) : List Byte := frameBytes r.kind r.tag (replyPayload s r.body)

/-- The frame of the pit status report: KIND 7Fh, TAG 0 (R174). -/
def reportFrame (s : State) : List Byte := frameBytes 0x7F#8 0#8 (reportBody s)

/-! ## The end of a step -/

/-- What stands at the end of every step: the monitors have acted on the conditions their owners hand (R49, R50), the
clear-to-move line follows its five states (R16), and the report-due flag is set if a field of the report has changed
since the step's beginning (R174). -/
def close (before s : State) : State :=
  let s := followClear (handConditions s)
  if reportBody s = reportBody before then s else s.modSlp fun p => { p with reportDue := true }

/-- The outcome of a command: the state after its effect, closed. -/
def closed (effect : State → State) (s : State) : Host.Outcome State Fault Refusal := .next (close s (effect s))

end Sys2Proof.Machine
end

