-- ==== Sys2Proof/Machine/Answers.lean ====
section
/-! DEFINITION. How a request is answered (R18, R171, R172): a handler gives the reply and the state, the reply goes to
the reply slot, and a pendant press takes a handler's effect without a reply (R14). -/

namespace Sys2Proof.Machine

/-- What the owner of a request answers in one action: the reply, and the state it leaves. -/
abbrev Answer := ReplyBody × State

/-- A reply of a result code alone. -/
def say (code : Code) (s : State) : Answer := (.fixed code [], s)

/-- OK, or CLAMPED where a value was brought into its range. -/
def okOr (clamped : Bool) : Code := if clamped then .clamped else .ok

/-- ACCEPTED, or CLAMPED in its place. -/
def acceptedOr (clamped : Bool) : Code := if clamped then .clamped else .accepted

/-- ACCEPTED where something moves, otherwise OK. -/
def movedOr (moves : Bool) : Code := if moves then .accepted else .ok

/-- The reply is put in the reply slot (R171, R172). -/
def reply (kind tag : Byte) (a : Answer) : State :=
  a.2.modSlp fun p => { p with replySlot := some ⟨kind, tag, a.1⟩ }

/-- A request may be dispatched: the reply slot is empty and reset pending is clear (R171). -/
def canDispatch (s : State) : Bool := s.slp.replySlot.isNone && !s.slp.resetPending

/-- A request handed to its owner, with the KIND of the request; nothing where it may not be dispatched (log entry
1). DESIGN CHOICE, log 60: given while frames wait in the receive queue it is served ahead of them. -/
def answer (kind tag : Byte) (handler : State → Answer) (s : State) : State :=
  if canDispatch s then reply (kind + 0x80#8) tag (handler s) else s

/-- A pendant press: the function as its request would be served, and no reply; ignored while reset is pending (R14,
R179). -/
def press (handler : State → Answer) (s : State) : State :=
  if s.slp.resetPending then s else (handler s).2

end Sys2Proof.Machine
end

