-- ==== Sys2Proof/Machine/Interlock.lean ====
section
/-! DEFINITION. The commands of the Pit Interlock (01): the seat, the bridges, the group owners, the stamp, the presence
sensor and the pit stop line. -/

namespace Sys2Proof.Machine

/-! ## The seat (R2, R4 to R8) -/

/-- A tag read is held back: the store is in its start-up scan, or a transaction of an abandoned read is still in the
gauge queue (R2). -/
def readHeldBack (s : State) : Bool := s.ahs.store == .loading || 0 < heldBy .pilTag s

/-- The tag read begins for a PRESENT seat with tag state NONE, unless it is held back (R2). -/
def beginTagRead (s : State) : State :=
  if s.pil.seatState = .present ∧ s.pil.tagState = .none ∧ readHeldBack s = false then
    place tagTxn (s.modPil fun p => { p with tagState := .reading, tagAttempts := 1 })
  else s

/-- The seat becomes SEATED, the next stroke of M13, and its axle ID goes to the history store (R4, R5, R58). -/
def seatAs (i : Identity) (s : State) : State :=
  let s := s.modPil fun p => { p with seatState := .seated, identity := some i }
  strokeStart .m13 (seatRecord i.axleId s)

/-- The replacement of the seated identity (R6). -/
def replaceIdentity (i : Identity) (s : State) : State :=
  let s := endSeating false (discardPlan .seat (clearProfiles s))
  seatRecord i.axleId (s.modPil fun p => { p with identity := some i })

/-- SEAT_AXLE by the seat state (R5). -/
def seatValid (i : Identity) (force : Bool) (s : State) : Answer :=
  match s.pil.seatState with
  | .vacant => say .notAvailable s
  | .present =>
    if s.pil.tagState = .reading then say .busy s
    else if s.pil.tagState = .none ∧ readHeldBack s then say .busy s
    else say .ok (seatAs i s)
  | .seated =>
    if (s.pil.identity.map Identity.axleId) = some i.axleId then say .ok s
    else if !force then say .idConflict s
    else if sweepRunning s || turningInProgress s then say .busy s
    else say .ok (replaceIdentity i s)

/-- SEAT_AXLE (R5). -/
def seatAxleRequest (axleId : AxleId) (wheelType : Nat) (bogieId : BogieId) (position : Nat) (force : Bool)
    (s : State) : Answer :=
  if idValid 10 axleId && idValid 8 bogieId && decide (wheelType ≤ 7) && decide (1 ≤ position) &&
      decide (position ≤ 3) then
    seatValid ⟨axleId, wheelType, bogieId, position, .entered⟩ force s
  else say .badParameter s

/-- RELEASE_AXLE (R8). -/
def releaseAxleRequest (s : State) : Answer :=
  if s.pil.seatState = .vacant ∨ s.pil.presence then say .notAvailable s
  else if sweepRunning s || turningInProgress s then say .busy s
  else say .ok (endVisit s)

/-! ## The bridges (R9 to R11) -/

/-- BRIDGES asked for by the link or by the pendant (R10). -/
def bridgesTo (by' : Owner) (aim : BridgeEnd) (s : State) : Answer :=
  if s.pil.pitStop then say .stopped s
  else if s.pil.owners.bridges ≠ by' then say .notOwner s
  else if bridgesMoving s then say .busy s
  else if s.blu.lift = .holding ∧ s.sst.active.clearance ≤ mean s ∧ bothClamps .opened s = true ∧
      s.tcu.spindle = .stopped then
    say (movedOr (!bothBridges (bridgeAt aim) s)) (forSides (beginBridge aim) s)
  else say .notAvailable s

/-- BRIDGES (R10). -/
def bridgesRequest (direction : Nat) (s : State) : Answer :=
  match directionOf direction with
  | none => say .badParameter s
  | some aim => bridgesTo .link aim s

/-- The end switch of a bridge at an end. -/
def putBridgeSwitch (w : BridgeSwitches) (made : Bool) : BridgeEnd → BridgeSwitches
  | .inLine => { w with inMade := made }
  | .out => { w with outMade := made }

/-- The level of an end switch of a bridge changes. -/
def setBridgeSwitch (side : Side) (at' : BridgeEnd) (made : Bool) (s : State) : State :=
  modBridge side (fun b => { b with switches := putBridgeSwitch b.switches made at' }) s

/-- The other end of a bridge's travel. -/
def otherBridgeEnd : BridgeEnd → BridgeEnd
  | .inLine => .out
  | .out => .inLine

/-- An end switch of a bridge is made: a move to that end completes, and a bridge at the other end is lost (R9, R11). -/
def bridgeSwitchMade (side : Side) (at' : BridgeEnd) (s : State) : State :=
  let s := setBridgeSwitch side at' true s
  let b := s.pil.bridge.get side
  if b.state = bridgeToward at' then
    visitEndIfDue (modBridge side (fun b =>
      { b with state := bridgeAt at', travelTimer := none, lastOutcome := .complete }) s)
  else if b.state = bridgeAt (otherBridgeEnd at') then bridgeLost side s
  else s

/-- An end switch of a bridge drops: a bridge at that end is lost (R9). -/
def bridgeSwitchDropped (side : Side) (at' : BridgeEnd) (s : State) : State :=
  let s := setBridgeSwitch side at' false s
  if (s.pil.bridge.get side).state = bridgeAt at' then bridgeLost side s else s

/-- The travel timer of a moving bridge expires (R11). -/
def bridgeTimeout (side : Side) (s : State) : State :=
  let b := s.pil.bridge.get side
  if b.moving && b.travelTimer.isSome then
    modBridge side (fun b =>
      { b with state := .halted, fault := true, travelTimer := none, lastOutcome := .timeout }) s
  else s

/-! ## Owners and stamp (R13, R17) -/

/-- Something of a group is moving, or a head is owned (R13). -/
def groupBusy (s : State) : Group → Bool
  | .lift => liftMoving s
  | .clamps => clampsMoving s
  | .bridges => bridgesMoving s
  | .heads => headsActive s || s.tcu.head.any fun h => h.owner != .none

/-- SOURCE (R13). -/
def sourceRequest (group owner : Nat) (s : State) : Answer :=
  match groupOf group, ownerOf owner with
  | some g, some o =>
    if groupBusy s g then say .busy s
    else say .ok (s.modPil fun p => { p with owners := p.owners.set o g })
  | _, _ => say .badParameter s

/-- SET_STAMP (R17). -/
def setStampRequest (stamp : Stamp) (s : State) : Answer :=
  say .ok (s.modPil fun p => { p with stamp := stamp })

/-! ## The presence sensor and the pit stop line (R2, R7, R15) -/

/-- The presence sensor turns on (R2). -/
def presenceOn (s : State) : State :=
  let s := s.modPil fun p => { p with presence := true }
  if s.pil.seatState = .vacant then beginTagRead (s.modPil fun p => { p with seatState := .present }) else s

/-- The presence sensor turns off (R7). -/
def presenceOff (s : State) : State :=
  let s := s.modPil fun p => { p with presence := false }
  if s.pil.seatState = .present then
    abandon .pilTag (s.modPil fun p =>
      { p with seatState := .vacant, tagState := .none, tagAttempts := 0, tagId := none })
  else visitEndIfDue s

/-- The pit stop state becomes ASSERTED (R15). -/
def pitStopAsserted (s : State) : State :=
  if s.pil.pitStop then s
  else
    let s := haltWorks .pitStop .pitStop .pitStop (s.modPil fun p => { p with pitStop := true })
    let s := forSides (haltBridge .pitStop) s
    if liftMoving s then haltLift .pitStop s else s

/-! ## The commands -/

/-- SEAT_AXLE (R5, R6). -/
def execSeatAxle (tag : Byte) (axleId : AxleId) (wheelType : Nat) (bogieId : BogieId) (position : Nat) (force : Bool)
    (s : State) : Host.Outcome State Fault Refusal :=
  closed (answer 0x01#8 tag (seatAxleRequest axleId wheelType bogieId position force)) s

/-- RELEASE_AXLE (R8). -/
def execReleaseAxle (tag : Byte) (s : State) : Host.Outcome State Fault Refusal :=
  closed (answer 0x02#8 tag releaseAxleRequest) s

/-- BRIDGES (R10). -/
def execBridges (tag : Byte) (direction : Nat) (s : State) : Host.Outcome State Fault Refusal :=
  closed (answer 0x03#8 tag (bridgesRequest direction)) s

/-- SOURCE (R13). -/
def execSource (tag : Byte) (group owner : Nat) (s : State) : Host.Outcome State Fault Refusal :=
  closed (answer 0x04#8 tag (sourceRequest group owner)) s

/-- SET_STAMP (R17). -/
def execSetStamp (tag : Byte) (stamp : Stamp) (s : State) : Host.Outcome State Fault Refusal :=
  closed (answer 0x05#8 tag (setStampRequest stamp)) s

/-- PRESENCE_ON (R2). -/
def execPresenceOn (s : State) : Host.Outcome State Fault Refusal := closed presenceOn s

/-- PRESENCE_OFF (R7). -/
def execPresenceOff (s : State) : Host.Outcome State Fault Refusal := closed presenceOff s

/-- TAG_READ_BEGIN (R2). -/
def execTagReadBegin (s : State) : Host.Outcome State Fault Refusal := closed beginTagRead s

/-- BRIDGE_SWITCH_MADE (R9, R11). -/
def execBridgeSwitchMade (side : Side) (bridgeEnd : BridgeEnd) (s : State) : Host.Outcome State Fault Refusal :=
  closed (bridgeSwitchMade side bridgeEnd) s

/-- BRIDGE_SWITCH_DROPPED (R9). -/
def execBridgeSwitchDropped (side : Side) (bridgeEnd : BridgeEnd) (s : State) : Host.Outcome State Fault Refusal :=
  closed (bridgeSwitchDropped side bridgeEnd) s

/-- BRIDGE_TRAVEL_TIMER_EXPIRY (R11). -/
def execBridgeTravelTimerExpiry (side : Side) (s : State) : Host.Outcome State Fault Refusal :=
  closed (bridgeTimeout side) s

/-- PIT_STOP_ASSERTED (R15). -/
def execPitStopAsserted (s : State) : Host.Outcome State Fault Refusal := closed pitStopAsserted s

/-- PIT_STOP_RELEASED (R15). -/
def execPitStopReleased (s : State) : Host.Outcome State Fault Refusal :=
  closed (fun s => s.modPil fun p => { p with pitStop := false }) s

/-- PENDANT_BRIDGES_IN (R14). -/
def execPendantBridgesIn (s : State) : Host.Outcome State Fault Refusal :=
  closed (press (bridgesTo .pendant .inLine)) s

/-- PENDANT_BRIDGES_OUT (R14). -/
def execPendantBridgesOut (s : State) : Host.Outcome State Fault Refusal :=
  closed (press (bridgesTo .pendant .out)) s

end Sys2Proof.Machine
end

