-- ==== Sys2Proof/Machine/Lift.lean ====
section
/-! DEFINITION. The commands of the Bogie Lift Unit (02): lift moves, clamp moves, the pendant's jog, the control period,
load cells and clamp switches. -/

namespace Sys2Proof.Machine

/-! ## Lift moves (R24 to R30) -/

/-- The lift's own refusals, for the link or for the pendant (R24). -/
def liftRefusal (by' : Owner) (s : State) : Option Code :=
  if s.pil.pitStop then some .stopped
  else if s.pil.owners.lift ≠ by' then some .notOwner
  else if s.blu.lift = .halted then some .faulted
  else if (s.blu.clamp.any fun c => c.state == .closed || c.moving) || bridgesMoving s ||
      s.tcu.spindle != .stopped then some .notAvailable
  else none

/-- A lift move begins from rest, the next stroke of M1 to M5 (R58), or the move in progress is redirected (R28). -/
def moveLift (lift : LiftState) (kind : MoveKind) (target : Nat) (s : State) : State :=
  let moving := liftMoving s
  let s := s.modBlu fun b => { b with lift := lift, kind := some kind, target := target }
  if moving then s else liftStroke (supportLost s)

/-- The lift is at the height asked for: at rest it stays, in motion it comes to rest as an arrival (R25). -/
def liftThere (height : Nat) (s : State) : State :=
  if liftMoving s then restLift .arrived s else s.modBlu fun b => { b with target := height }

/-- LIFT and LOWER to a height, against the mean (R25). -/
def liftTo (height : Nat) (clamped : Bool) (s : State) : Answer :=
  if mean s + Config.arrivalWindow < height then say (acceptedOr clamped) (moveLift .rising .target height s)
  else if height + Config.arrivalWindow < mean s then say (acceptedOr clamped) (moveLift .lowering .target height s)
  else say (okOr clamped) (liftThere height s)

/-- LIFT (R25). -/
def liftRequest (height : Nat) (s : State) : Answer :=
  match liftRefusal .link s with
  | some code => say code s
  | none => liftTo (min height Config.postTravel) (decide (Config.postTravel < height)) s

/-- LOWER with height 0 (R26). -/
def lowerHome (s : State) : Answer :=
  if allHome s && !liftMoving s then say .ok (s.modBlu fun b => { b with target := 0 })
  else say .accepted (moveLift .lowering .home 0 s)

/-- LOWER (R26). -/
def lowerRequest (height : Nat) (s : State) : Answer :=
  match liftRefusal .link s with
  | some code => say code s
  | none =>
    if height = 0 then lowerHome s
    else if mean s + Config.arrivalWindow < min height Config.postTravel then say .notAvailable s
    else liftTo (min height Config.postTravel) (decide (Config.postTravel < height)) s

/-- TAKE_LOAD (R27). -/
def takeLoadRequest (s : State) : Answer :=
  match liftRefusal .link s with
  | some code => say code s
  | none =>
    if allBearing s then say .ok (if liftMoving s then restLift .loaded s else s)
    else say .accepted (moveLift .rising .load Config.postTravel s)

/-- HALT_LIFT (R29). -/
def haltLiftRequest (s : State) : Answer :=
  if s.blu.lift = .halted then say .faulted s
  else say .ok (if liftMoving s then restLift .haltRequest s else s)

/-- A jog is in progress (R30). -/
def jogging (s : State) : Bool := s.blu.kind == some .jog

/-- A press of a jog button (R30). -/
def jog (button : JogButton) (s : State) : Answer :=
  match liftRefusal .pendant s with
  | some code => say code s
  | none =>
    if jogging s then say .ok s
    else
      match button with
      | .up => say .accepted (moveLift .rising .jog Config.postTravel s)
      | .down => say .accepted (moveLift .lowering .jog 0 s)

/-- The release of a jog button ends the jog it holds (R30). -/
def jogRelease (button : JogButton) (s : State) : State :=
  let held : LiftState := match button with | .up => .rising | .down => .lowering
  if jogging s && s.blu.lift == held then restLift .jogEnded s else s

/-! ## Clamp moves (R38, R39) -/

/-- The next stroke of the monitor of a clamp that moves (R58). -/
def clampStroke (before : Sides Clamp) (aim : ClampEnd) (side : Side) (s : State) : State :=
  if (before.get side).state = clampAt aim then s else strokeStart (clampMonitor side) s

/-- Both clamps begin to move to an end (R38, R39). -/
def moveClamps (aim : ClampEnd) (s : State) : State :=
  let before := s.blu.clamp
  forSides (clampStroke before aim) (forSides (beginClamp aim) s)

/-- CLAMP_CLOSE asked for by the link or by the pendant (R38). -/
def clampsClose (by' : Owner) (s : State) : Answer :=
  if s.pil.pitStop then say .stopped s
  else if s.pil.owners.clamps ≠ by' then say .notOwner s
  else if clampsMoving s then say .busy s
  else if s.blu.lift = .holding ∧ bothBridges .out s = true ∧ s.pil.seatState = .seated then
    say (movedOr (!bothClamps .closed s)) (moveClamps .closed s)
  else say .notAvailable s

/-- CLAMP_OPEN asked for by the link or by the pendant: a lift in motion first comes to rest (R39). -/
def clampsOpen (by' : Owner) (s : State) : Answer :=
  if s.pil.pitStop then say .stopped s
  else if s.pil.owners.clamps ≠ by' then say .notOwner s
  else if clampsMoving s then say .busy s
  else if s.tcu.spindle = .stopped ∧
      (s.tcu.head.any fun h => h.position == .inCut || h.position == .probing) = false then
    let moves := !bothClamps .opened s
    say (movedOr moves) (moveClamps .opened (if moves && liftMoving s then restLift .handshake s else s))
  else say .notAvailable s

/-! ## Sensors (R20 to R23, R31 to R33) -/

/-- The lift control period expires (R31 to R33). -/
def controlPeriod (positions loads : Four Nat) (s : State) : State :=
  let s := liftPeriod (takeLoads loads (guardClearance (takePositions positions s)))
  handCondition .m5 (tilted s) s

/-- A load cell reading changes; the positions are read with it (R20, R21). -/
def loadChanged (post : Post) (load : Nat) (positions : Four Nat) (s : State) : State :=
  let s := guardClearance (takePositions positions s)
  takeLoads ((s.blu.posts.map PostRecord.load).set load post) s

/-! ## Clamp switches and timers (R41, R42) -/

def putClampSwitch (w : ClampSwitches) (made : Bool) : ClampEnd → ClampSwitches
  | .closed => { w with closedMade := made }
  | .opened => { w with openMade := made }

/-- The level of an end switch of a clamp changes. -/
def setClampSwitch (side : Side) (at' : ClampEnd) (made : Bool) (s : State) : State :=
  modClamp side (fun c => { c with switches := putClampSwitch c.switches made at' }) s

/-- An end switch of a clamp is made: in SENSOR mode a move to that end completes (R41). -/
def clampSwitchMade (side : Side) (at' : ClampEnd) (s : State) : State :=
  let s := setClampSwitch side at' true s
  if s.sst.active.clampMode = .sensor ∧ (s.blu.clamp.get side).state = clampToward at' then
    completeClamp .complete side s
  else s

/-- The move timer of a moving clamp expires (R41, R42). -/
def clampTimeout (side : Side) (s : State) : State :=
  let c := s.blu.clamp.get side
  if c.moving && c.moveTimer.isSome then
    match s.sst.active.clampMode with
    | .sensor => completeUnconfirmed side (modClamp side (fun c => { c with moveTimer := none, timeout := true }) s)
    | .timed => completeClamp .complete side s
  else s

/-! ## The commands -/

/-- LIFT (R25). -/
def execLift (tag : Byte) (height : Nat) (s : State) : Host.Outcome State Fault Refusal :=
  closed (answer 0x10#8 tag (liftRequest height)) s

/-- LOWER (R26). -/
def execLower (tag : Byte) (height : Nat) (s : State) : Host.Outcome State Fault Refusal :=
  closed (answer 0x12#8 tag (lowerRequest height)) s

/-- TAKE_LOAD (R27). -/
def execTakeLoad (tag : Byte) (s : State) : Host.Outcome State Fault Refusal :=
  closed (answer 0x11#8 tag takeLoadRequest) s

/-- HALT_LIFT (R29). -/
def execHaltLift (tag : Byte) (s : State) : Host.Outcome State Fault Refusal :=
  closed (answer 0x13#8 tag haltLiftRequest) s

/-- CLAMP_CLOSE (R38). -/
def execClampClose (tag : Byte) (s : State) : Host.Outcome State Fault Refusal :=
  closed (answer 0x14#8 tag (clampsClose .link)) s

/-- CLAMP_OPEN (R39). -/
def execClampOpen (tag : Byte) (s : State) : Host.Outcome State Fault Refusal :=
  closed (answer 0x15#8 tag (clampsOpen .link)) s

/-- PENDANT_JOG_UP (R30). -/
def execPendantJogUp (s : State) : Host.Outcome State Fault Refusal := closed (press (jog .up)) s

/-- PENDANT_JOG_DOWN (R30). -/
def execPendantJogDown (s : State) : Host.Outcome State Fault Refusal := closed (press (jog .down)) s

/-- PENDANT_JOG_RELEASE (R30). -/
def execPendantJogRelease (button : JogButton) (s : State) : Host.Outcome State Fault Refusal :=
  closed (jogRelease button) s

/-- PENDANT_CLAMPS_CLOSE (R14). -/
def execPendantClampsClose (s : State) : Host.Outcome State Fault Refusal := closed (press (clampsClose .pendant)) s

/-- PENDANT_CLAMPS_OPEN (R14). -/
def execPendantClampsOpen (s : State) : Host.Outcome State Fault Refusal := closed (press (clampsOpen .pendant)) s

/-- LIFT_CONTROL_PERIOD_EXPIRY (R31 to R33). -/
def execLiftControlPeriodExpiry (positions loads : Four Nat) (s : State) : Host.Outcome State Fault Refusal :=
  closed (controlPeriod positions loads) s

/-- LOAD_CHANGE (R21). -/
def execLoadChange (post : Post) (load : Nat) (positions : Four Nat) (s : State) : Host.Outcome State Fault Refusal :=
  closed (loadChanged post load positions) s

/-- CLAMP_SWITCH_MADE (R41). -/
def execClampSwitchMade (side : Side) (clampEnd : ClampEnd) (s : State) : Host.Outcome State Fault Refusal :=
  closed (clampSwitchMade side clampEnd) s

/-- CLAMP_SWITCH_DROPPED (R42). -/
def execClampSwitchDropped (side : Side) (clampEnd : ClampEnd) (s : State) : Host.Outcome State Fault Refusal :=
  closed (setClampSwitch side clampEnd false) s

/-- CLAMP_MOVE_TIMER_EXPIRY (R41). -/
def execClampMoveTimerExpiry (side : Side) (s : State) : Host.Outcome State Fault Refusal :=
  closed (clampTimeout side) s

end Sys2Proof.Machine
end

