-- ==== Sys2Proof/Machine/Monitors.lean ====
section
/-! DEFINITION. The commands of the Fault Monitor Unit (03): CLEAR_FAULT, READ_FAULTS and the expiry of a deglitch
timer. -/

namespace Sys2Proof.Machine

/-- The bit of a monitor in a monitor set: bit n - 1 for Mn (11.2). -/
def named (set : BitVec 16) (m : MonitorId) : Bool := set.getLsbD (m.number - 1)

/-- The monitor has tripped and not been cleared: LATCHED or TRIPPED. -/
def Monitor.hasTripped (m : Monitor) : Bool := m.state == .latched || m.state == .tripped

/-- A named monitor that has tripped has its condition handed as present (R60). -/
def conditionStands (set : BitVec 16) (s : State) (m : MonitorId) : Bool :=
  let r := s.fmu.monitors.get m
  named set m && r.hasTripped && r.condition

/-- A named monitor that has tripped becomes QUIET (R60). -/
def clearNamed (set : BitVec 16) (s : State) (m : MonitorId) : Monitor :=
  let r := s.fmu.monitors.get m
  if named set m && r.hasTripped then r.cleared else r

/-- The test by which the lift leaves HALTED after a CLEAR_FAULT (R35). -/
def leaveHalted (s : State) : State :=
  if s.blu.lift = .halted ∧ s.pil.pitStop = false ∧
      ([MonitorId.m1, .m2, .m3, .m4, .m5, .m13].any fun m => latched m s) = false then
    visitEndIfDue (restAt s)
  else s

/-- CLEAR_FAULT (R60). -/
def clearFaultRequest (set : BitVec 16) (s : State) : Answer :=
  if 8192 ≤ set.toNat then say .badParameter s
  else if MonitorId.list.any (conditionStands set s) then say .conditionPresent s
  else say .ok (leaveHalted (s.modFmu fun u => { u with monitors := .ofFn (clearNamed set s) }))

/-- READ_FAULTS (R63): the fields are taken when the reply's sending begins. -/
def readFaultsRequest (s : State) : Answer := (.late .readFaults, s)

/-- The deglitch timer of a monitor expires (R50, R51). -/
def deglitchExpiry (m : MonitorId) (s : State) : State :=
  let r := s.fmu.monitors.get m
  if r.timer.isSome && (r.state == .deglitch || r.recurrence == .timing) then trip m s else s

/-- CLEAR_FAULT (R35, R60). -/
def execClearFault (tag : Byte) (monitors : BitVec 16) (s : State) : Host.Outcome State Fault Refusal :=
  closed (answer 0x20#8 tag (clearFaultRequest monitors)) s

/-- READ_FAULTS (R63). -/
def execReadFaults (tag : Byte) (s : State) : Host.Outcome State Fault Refusal :=
  closed (answer 0x21#8 tag readFaultsRequest) s

/-- DEGLITCH_TIMER_EXPIRY (R50, R51). -/
def execDeglitchTimerExpiry (monitor : MonitorId) (s : State) : Host.Outcome State Fault Refusal :=
  closed (deglitchExpiry monitor) s

end Sys2Proof.Machine
end

