-- ==== Sys2Proof/Machine/ResultOps.lean ====
section
/-! DEFINITION. What a requester of the gauge bus does with a result (R3, R4, R83, R84), and the ends of the scans of a
sweep that follow from it (R89 to R91). -/

namespace Sys2Proof.Machine

/-! ## The tag read (R3, R4) -/

/-- A good attempt seats the axle from its tag (R4). -/
def seatFromTag (axleId : AxleId) (bogieId : BogieId) (wheelType position : Nat) (s : State) : State :=
  let s := s.modPil fun p => { p with tagState := .read, tagId := some axleId, lastTag := .read }
  seatAs ⟨axleId, wheelType, bogieId, position, .tag⟩ s

/-- A failed attempt: the next is offered at once, or the third has failed (R3). -/
def tagAttemptFailed (s : State) : State :=
  if s.pil.tagAttempts < Config.maxTagAttempts then
    place tagTxn (s.modPil fun p => { p with tagAttempts := p.tagAttempts + 1 })
  else s.modPil fun p => { p with tagState := .failed, lastTag := .failed }

/-- The result of a tag attempt; one that arrives for no read in progress is discarded (R3, R4). -/
def tagResult (result : TxnResult) (data : List Byte) (s : State) : State :=
  if s.pil.seatState = .present ∧ s.pil.tagState = .reading then
    match result, tagData data with
    | .ok, some (axleId, bogieId, wheelType, position) => seatFromTag axleId bogieId wheelType position s
    | _, _ => tagAttemptFailed s
  else s

/-! ## The ends of the scans (R89 to R91) -/

/-- Every swept head satisfies a test. -/
def eachSwept (p : Side → Bool) (s : State) : Bool := (!swept .l s || p .l) && (!swept .r s || p .r)

/-- The first failed check of the swept wheels, L first. -/
def sweptCheck (f : Side → Option Reason) (s : State) : Option Reason :=
  firstReason (if swept .l s then f .l else none) (if swept .r s then f .r else none)

/-- A head goes from the end of its scan to the taping line, and receives MODE RING; its diameter is handed to the TCU
(R89, R90). -/
def toTapingLine (side : Side) (s : State) : State :=
  if swept side s then
    let d := handedDiameter side s
    let s := modPmuHead side (fun h => { h with listDone := false, modeOk := false, diameter := d }) s
    place (modeTxn side .ring (.mode .sweep)) (modHead side (·.moveTo .tapingLine) s)
  else s

/-- PROFILE_SCAN has ended and passed its checks: RING_WAIT, and the measuring run is asked for (R89, R90). -/
def enterRingWait (s : State) : State :=
  requestRun (forSides toTapingLine (s.modPmu fun p => { p with phase := .ringWait }))

/-- The rim temperature and TEMP_HELD of a swept wheel (R91, R97). -/
def takeRim (side : Side) (s : State) : State :=
  if swept side s then
    s.modPmu fun p =>
      let r := p.rim.get side
      { p with taken := p.taken.set (some (r.value, r.state != .live)) side }
  else s

/-- A swept head goes home (R91). -/
def sweptHome (side : Side) (s : State) : State := if swept side s then sendProbeHome side s else s

/-- RING_SCAN has ended and passed its checks: COMPUTING (R91). -/
def enterComputing (s : State) : State :=
  forSides takeRim (forSides sweptHome (finishRun (s.modPmu fun p => { p with phase := .computing })))

/-- The scan in progress ends once the list of every claimed head is complete (R89, R90). -/
def scanEnd (s : State) : State :=
  if eachSwept (fun side => (s.pmu.head.get side).listDone) s then
    match s.pmu.phase with
    | .profileScan =>
      match sweptCheck (fun side => profileCheck s.sst.active.zTl (s.pmu.head.get side).profile) s with
      | some reason => sweepFail reason s
      | none => enterRingWait s
    | .ringScan =>
      match sweptCheck (fun side => ringCheck (s.pmu.head.get side).ring) s with
      | some reason => sweepFail reason s
      | none => enterComputing s
    | _ => s
  else s

/-! ## Polling (R83, R84) -/

/-- The work a transaction of a head served ends FAILED. -/
def workFailed (w : Work) (reason : Reason) (side : Side) (s : State) : State :=
  match w with
  | .sweep => sweepFail reason s
  | .reference => referenceFailed reason side s

/-- A MODE write has returned OK: a reference sweep starts its ring and its polling (R88, R90, R101). -/
def modeDone (w : Work) (side : Side) (s : State) : State :=
  match w with
  | .sweep => modPmuHead side (fun h => { h with modeOk := true }) s
  | .reference => place (stateReadTxn side .reference) (place (ringStartTxn side .reference) s)

/-- A state read that finds nothing available and done set completes the list (R83, R84). -/
def listComplete (w : Work) (reach : Nat) (side : Side) (s : State) : State :=
  match w with
  | .sweep => scanEnd (modPmuHead side (fun h => { h with listDone := true }) s)
  | .reference => completeReference side reach s

/-- A head state read that has returned OK: its two bytes (R83, R84, 11.5). -/
def stateRead (w : Work) (side : Side) (available flags : Byte) (s : State) : State :=
  let reach := flags.toNat % 4
  let s := modPmuHead side (fun h => { h with lastReach := some reach }) s
  let s := handCondition (overtravelOf side) (decide (reach = 3)) s
  if flags.getLsbD 6 then workFailed w .overrun side s
  else if available ≠ 0#8 then place (blockReadTxn side (min 16 available.toNat) w) s
  else if flags.getLsbD 7 then listComplete w reach side s
  else place (stateReadTxn side w) s

/-- The head's list that a block read goes to: the profile list during PROFILE_SCAN, otherwise the ring list. -/
def takesProfile (w : Work) (s : State) : Bool := w == .sweep && s.pmu.phase == .profileScan

/-- The samples of a block read, as far as the list's capacity goes (R83). -/
def appendSamples (profile : Bool) (samples : List Sample) (h : PmuHead) : PmuHead :=
  if profile then { h with profile := (h.profile ++ samples).take Config.profileCapacity }
  else { h with ring := (h.ring ++ samples).take Config.ringCapacity }

/-- The samples do not fit into the list (R83). -/
def overruns (profile : Bool) (samples : List Sample) (h : PmuHead) : Bool :=
  if profile then decide (Config.profileCapacity < h.profile.length + samples.length)
  else decide (Config.ringCapacity < h.ring.length + samples.length)

/-- A block read that has returned OK (R83). -/
def blockRead (w : Work) (side : Side) (data : List Byte) (s : State) : State :=
  let profile := takesProfile w s
  let samples := samplesOf (!profile) data
  let full := overruns profile samples (s.pmu.head.get side)
  let s := modPmuHead side (appendSamples profile samples) s
  if full then workFailed w .overrun side s else place (stateReadTxn side w) s

/-- A result handed to the PMU for a head (R83). -/
def pmuResult (side : Side) (purpose : Purpose) (result : TxnResult) (data : List Byte) (s : State) : State :=
  match purpose, result with
  | .mode w, .ok => modeDone w side s
  | .mode w, _ => workFailed w .bus side s
  | .command _, .ok => s
  | .command w, _ => workFailed w .bus side s
  | .stateRead w, .ok => stateRead w side (data.getD 0 0#8) (data.getD 1 0#8) s
  | .stateRead w, _ => workFailed w .bus side s
  | .blockRead w, .ok => blockRead w side data s
  | .blockRead w, _ => workFailed w .bus side s
  | _, _ => s

/-- A result is handed to its requester (R73); one for work that has ended is discarded. -/
def handResult (t : Txn) (result : TxnResult) (data : List Byte) (s : State) : State :=
  let s :=
    match t.requester with
    | .pilTag => if t.purpose = .tagAttempt then tagResult result data s else s
    | .pmu side => pmuResult side t.purpose result data s
  placeKept t.requester s

end Sys2Proof.Machine
end

