-- ==== Sys2Proof/Machine/Gauge.lean ====
section
/-! DEFINITION. The commands of the Gauge Bus Controller (04): transactions, clock holds, arbitration and foreign
transactions. -/

namespace Sys2Proof.Machine

/-! ## The bytes of a transaction (R69 to R71) -/

/-- The byte that the part sends in a run phase: the first address byte in ADDRESS, the write bytes in the order of the
record in WRITE, and the second address byte, with direction 1, in TURN (R66, R69, R70). -/
def Run.sends (r : Run) (t : Txn) : Option Byte :=
  match r.phase with
  | .address => some (firstAddressByte t)
  | .write => t.writeBytes[r.sent]?
  | .turn => some (addressByte t.address .read)
  | .read => none
  | .closing => none

/-- The acknowledge that the part sends for the read byte under way: ACK after every byte but the last, NACK after the
last (R71). -/
def Run.acknowledges (r : Run) (t : Txn) : Bool := decide (r.received.length + 1 < t.readLength)

/-- What a byte that completes has put on the lines. DESIGN CHOICE, log 69: the value of a byte that the part sends is the
part's own, and the acknowledge of a byte that it receives is the part's own, whatever the event carries. -/
def Run.onLine (r : Run) (t : Txn) (value : Byte) (ack : Bool) : List LineEvent :=
  match r.phase with
  | .read => [.received value (r.acknowledges t)]
  | _ => ((r.sends t).map fun b => LineEvent.sent b ack).toList

/-- The part sends a condition, or a byte completes. -/
def Run.put (r : Run) (events : List LineEvent) : Run := { r with line := r.line ++ events }

/-- The run closes with a result, handed when the STOP that the part now sends has been sent. -/
def Run.close (r : Run) (result : TxnResult) : Run := { r.put [.stop] with phase := .closing, result := some result }

/-- The run after its first address byte has been acknowledged (R69). -/
def Run.addressed (r : Run) (t : Txn) : Run :=
  match t.direction, t.writeBytes with
  | .read, [] => { r with phase := .read }
  | _, _ => { r with phase := .write }

/-- The run after a write byte has been acknowledged: the last one of a READ is followed by a repeated START (R70). -/
def Run.wrote (r : Run) (t : Txn) : Run :=
  let r := { r with sent := r.sent + 1 }
  if r.sent < t.writeBytes.length then r
  else
    match t.direction with
    | .write => r.close .ok
    | .read => { r.put [.start] with phase := .turn }

/-- The run after a read byte (R71). -/
def Run.readByte (r : Run) (t : Txn) (value : Byte) : Run :=
  let r := { r with received := r.received ++ [value] }
  if r.received.length < t.readLength then r else r.close .ok

/-- The run after a byte with its acknowledge (R69 to R71). -/
def Run.step (r : Run) (t : Txn) (value : Byte) (ack : Bool) : Run :=
  let r := r.put (r.onLine t value ack)
  match r.phase with
  | .address => if ack then r.addressed t else r.close .absent
  | .write => if ack then r.wrote t else r.close .rejected
  | .turn => if ack then { r with phase := .read } else r.close .absent
  | .read => r.readByte t value
  | .closing => r

/-- A byte of a foreign transaction: an address byte sets the head it names addressed (R77). -/
def Observation.byte (o : Observation) (value : Byte) : Observation :=
  if o.addressNext then { noteAddress (value.toNat / 2) o with addressNext := false } else o

/-- A byte with its acknowledge completes on the bus (R69 to R71, R77). -/
def busByte (value : Byte) (ack : Bool) (s : State) : State :=
  match s.gbc.bus with
  | .running =>
    match s.gbc.run, s.gbc.queue with
    | some r, t :: _ => if s.gbc.clockHeld then s else s.modGbc fun g => { g with run := some (r.step t value ack) }
    | _, _ => s
  | .observing => s.modGbc fun g => { g with observation := g.observation.map fun o => o.byte value }
  | _ => s

/-! ## The end of a transaction (R72, R73) -/

/-- The record at the front ends with a result: handed, out of the queue, the bus IDLE, the next begun (R73). -/
def endTransaction (result : TxnResult) (data : List Byte) (s : State) : State :=
  match s.gbc.queue with
  | [] => s
  | t :: _ =>
    let s := (dropFront s).modGbc fun g => { g with bus := .idle, run := none, clockHeld := false, waitTimer := none }
    beginOldest (handResult t result data s)

/-- The nine clock pulses of a recovery, the data line released (R72, R80). -/
def recoveryPulses : List LineEvent := List.replicate Config.recoveryPulses .pulse

/-- The part sends on in its recovery (R72). -/
def sendRecovery (events : List LineEvent) (s : State) : State :=
  s.modGbc fun g => { g with recovery := g.recovery ++ events }

/-- The STOP that ends a transaction, or its recovery, has been sent (R71 to R73). -/
def transactionEnd (s : State) : State :=
  if s.gbc.clockHeld then s
  else
    match s.gbc.bus, s.gbc.run with
    | .running, some r =>
      match r.phase, r.result with
      | .closing, some result => endTransaction result (if result = .ok then r.received else []) s
      | _, _ => s
    | .recovering, _ => endTransaction .waitTimeout [] (sendRecovery [.stop] s)
    | _, _ => s

/-- A device holds the clock after a byte of the part's transaction (R72). -/
def clockHold (s : State) : State :=
  if s.gbc.bus = .running then s.modGbc fun g => { g with clockHeld := true, waitTimer := some Config.waitLimit } else s

/-- The device releases the clock: a transaction goes on from where it stood, and in a recovery the part now sends its
nine clock pulses (R72). DESIGN CHOICE, log 70: they all stand on the lines from the release on. -/
def clockRelease (s : State) : State :=
  let s := if s.gbc.bus = .recovering ∧ s.gbc.clockHeld = true then sendRecovery recoveryPulses s else s
  s.modGbc fun g => { g with clockHeld := false, waitTimer := none }

/-- The wait timer expires with the clock held: the part stops driving the data line, and a recovery begins in which it
has sent nothing yet (R72). -/
def waitExpiry (s : State) : State :=
  if s.gbc.bus = .running ∧ s.gbc.waitTimer.isSome ∧ s.gbc.clockHeld = true then
    s.modGbc fun g => { g with bus := .recovering, run := none, waitTimer := none, recovery := [] }
  else s

/-! ## Arbitration and foreign transactions (R74 to R80) -/

/-- The observation of a loss in a phase in which bits are compared; none in the others (R74). -/
def lossObservation (t : Txn) : RunPhase → Option Observation
  | .address => some ⟨true, .both false, true⟩
  | .write => some (noteAddress t.address ⟨true, .both false, false⟩)
  | .turn => some (noteAddress t.address ⟨true, .both false, true⟩)
  | .read => none
  | .closing => none

/-- The record at the front is retried or ends LOST; the bus stays OBSERVING (R75). -/
def retryFront (s : State) : State :=
  match s.gbc.queue with
  | [] => s
  | t :: rest =>
    if t.retries < Config.maxRetries then
      s.modGbc fun g => { g with queue := { t with retries := t.retries + 1 } :: rest }
    else handResult t .lost [] (dropFront s)

/-- A loss of arbitration (R74, R75). -/
def arbitrationLoss (s : State) : State :=
  match s.gbc.bus, s.gbc.run, s.gbc.queue with
  | .running, some r, t :: _ =>
    match lossObservation t r.phase with
    | some o => retryFront (observe o (s.modGbc fun g => { g with clockHeld := false }))
    | none => s
  | _, _, _ => s

/-- An observation ends: notices, the record removed, the bus IDLE, the quiet timer, the oldest transaction (R77 to
R79). -/
def endObservation (o : Observation) (s : State) : State :=
  let s := s.modGbc fun g => { g with bus := .idle, observation := none, quietTimer := some Config.quietTime }
  beginOldest (handNotices o s)

/-- The observation in progress ends at a foreign STOP (R77). -/
def foreignStopTaken (s : State) : State :=
  match s.gbc.observation with
  | some o => if s.gbc.bus = .observing then endObservation o s else s
  | none => s

/-- The observation that an unexpected condition begins: of a START nothing is known yet; a STOP closes what the part
was sending (R76). -/
def unexpectedObservation (t : Txn) (phase : RunPhase) : BusCondition → Observation
  | .start => ⟨true, .both false, true⟩
  | .stop => (lossObservation t phase).getD ⟨true, .both false, false⟩

/-- A START or STOP the part did not drive, during its own transaction or recovery (R76). DEDUCED, log 28: a STOP during
the recovery leaves the quiet timer as it is. -/
def unexpectedCondition (condition : BusCondition) (s : State) : State :=
  match s.gbc.bus, s.gbc.run, s.gbc.queue with
  | .running, some r, t :: _ =>
    let o := unexpectedObservation t r.phase condition
    let s := retryFront (observe o (s.modGbc fun g => { g with clockHeld := false }))
    match condition with
    | .start => s
    | .stop => foreignStopTaken s
  | .recovering, _, t :: _ =>
    match condition with
    | .start =>
      handResult t .waitTimeout []
        (observe ⟨true, .both false, true⟩ ((dropFront s).modGbc fun g => { g with clockHeld := false }))
    | .stop => endTransaction .waitTimeout [] s
  | _, _, _ => s

/-- A START by another master: on an IDLE bus it begins an observation, in one it is a repeated START (R65, R77). -/
def foreignStart (s : State) : State :=
  match s.gbc.bus with
  | .idle => observe ⟨true, .both false, true⟩ s
  | .observing =>
    s.modGbc fun g => { g with observation := g.observation.map fun o => { o with addressNext := true } }
  | _ => unexpectedCondition .start s

/-- A STOP by another master (R77). -/
def foreignStop (s : State) : State :=
  match s.gbc.bus with
  | .idle => s
  | .observing => foreignStopTaken s
  | _ => unexpectedCondition .stop s

/-- The quiet timer expires (R78). -/
def quietExpiry (s : State) : State :=
  if s.gbc.quietTimer.isSome then s.modGbc fun g => { g with foreignFlag := false, quietTimer := none } else s

/-- Neither line has changed for 25 ms since a reset found them busy: the part sends nine clock pulses and a STOP as in a
recovery, and ends the observation (R80). -/
def resetObservationTimeout (s : State) : State :=
  match s.gbc.observation with
  | some o =>
    if s.gbc.bus = .observing ∧ o.seen = false then
      endObservation o (s.modGbc fun g => { g with recovery := recoveryPulses ++ [.stop] })
    else s
  | none => s

/-! ## The commands -/

/-- GAUGE_TRANSACTION_BEGIN (R68). -/
def execGaugeTransactionBegin (s : State) : Host.Outcome State Fault Refusal := closed beginOldest s

/-- GAUGE_BUS_BYTE (R69 to R71, R77). -/
def execGaugeBusByte (value : Byte) (ack : Bool) (s : State) : Host.Outcome State Fault Refusal :=
  closed (busByte value ack) s

/-- GAUGE_TRANSACTION_END (R73). -/
def execGaugeTransactionEnd (s : State) : Host.Outcome State Fault Refusal := closed transactionEnd s

/-- CLOCK_HOLD (R72). -/
def execClockHold (s : State) : Host.Outcome State Fault Refusal := closed clockHold s

/-- CLOCK_RELEASE (R72). -/
def execClockRelease (s : State) : Host.Outcome State Fault Refusal := closed clockRelease s

/-- WAIT_TIMER_EXPIRY (R72). -/
def execWaitTimerExpiry (s : State) : Host.Outcome State Fault Refusal := closed waitExpiry s

/-- ARBITRATION_LOSS (R74, R75). -/
def execArbitrationLoss (s : State) : Host.Outcome State Fault Refusal := closed arbitrationLoss s

/-- UNEXPECTED_START_STOP (R76). -/
def execUnexpectedStartStop (condition : BusCondition) (s : State) : Host.Outcome State Fault Refusal :=
  closed (unexpectedCondition condition) s

/-- FOREIGN_START (R77). -/
def execForeignStart (s : State) : Host.Outcome State Fault Refusal := closed foreignStart s

/-- FOREIGN_STOP (R77). -/
def execForeignStop (s : State) : Host.Outcome State Fault Refusal := closed foreignStop s

/-- QUIET_TIMER_EXPIRY (R78). -/
def execQuietTimerExpiry (s : State) : Host.Outcome State Fault Refusal := closed quietExpiry s

/-- RESET_OBSERVATION_TIMEOUT (R80). -/
def execResetObservationTimeout (s : State) : Host.Outcome State Fault Refusal := closed resetObservationTimeout s

end Sys2Proof.Machine
end

