-- ==== Sys2Proof/Machine/Measurement.lean ====
section
/-! DEFINITION. The commands of the Profile Measurement Unit (05): sweeps, reference sweeps, the profile record and the
rim sensors; and the settle count of an index event (R90). -/

namespace Sys2Proof.Machine

/-! ## SWEEP (R87, R88) -/

/-- A test of the selected heads. -/
def selectedAny (w : Wheels) (p : Side → Bool) : Bool := (w.has .l && p .l) || (w.has .r && p .r)

def selectedAll (w : Wheels) (p : Side → Bool) : Bool := (!w.has .l || p .l) && (!w.has .r || p .r)

/-- A head of the PMU with its lists empty and its sweep about to begin (R85, R88). -/
def PmuHead.fresh (h : PmuHead) : PmuHead :=
  { h with profile := [], ring := [], listDone := false, modeOk := false, staleDuring := false, diameter := none }

/-- The PMU claims a head: its lists are emptied, MODE SCAN is placed and the head moves to its scan start (R86,
R88). -/
def claimHead (w : Wheels) (side : Side) (s : State) : State :=
  if w.has side then
    place (modeTxn side .scan (.mode .sweep))
      (modHead side (fun h => { h.moveTo .scanStart with owner := .measure }) (modPmuHead side PmuHead.fresh s))
  else s

/-- The claim is the next stroke of M11 or M12 (R58, R86). -/
def claimStroke (w : Wheels) (side : Side) (s : State) : State :=
  if w.has side then strokeStart (overtravelOf side) s else s

/-- A sweep is taken (R87, R88). The diameters handed by an earlier sweep are forgotten: the speed of this sweep's
measuring run is found from its own (R121). -/
def beginSweep (w : Wheels) (s : State) : State :=
  let s := s.modPmu fun p =>
    { p with
      phase := .claiming
      selected := some w
      settle := 0
      head := p.head.map fun h => { h with diameter := none } }
  forSides (claimStroke w) (forSides (claimHead w) s)

/-- SWEEP of the wheels given (R87). -/
def sweepOf (w : Wheels) (s : State) : Answer :=
  if s.pil.pitStop then say .stopped s
  else if s.pil.owners.heads ≠ .link then say .notOwner s
  else if sweepRunning s || selectedAny w fun side => (s.tcu.head.get side).owner != .none then say .busy s
  else if selectedAny w fun side => latched (overtravelOf side) s then say .faulted s
  else if s.pil.seatState = .seated ∧ bothClamps .closed s = true ∧ holdingBearing s = true ∧ tcuFree s = true ∧
      (selectedAll w fun side => (s.tcu.head.get side).position == .parked) = true then
    if selectedAny w fun side => (s.pmu.head.get side).calibration == .stale then say .calStale s
    else say .accepted (beginSweep w s)
  else say .notAvailable s

/-- SWEEP (R87). -/
def sweepRequest (wheels : Nat) (s : State) : Answer :=
  match wheelsOf wheels with
  | none => say .badParameter s
  | some w => sweepOf w s

/-- HALT_SWEEP (R92, R101). -/
def haltSweepRequest (s : State) : Answer :=
  say .ok (forSides (referenceFailed .halted) (sweepFail .halted s))

/-! ## REFERENCE_SWEEP and READ_PROFILE (R101, R104) -/

/-- A reference sweep is taken: the head is claimed and PROBING at its park station (R101). -/
def beginReference (side : Side) (s : State) : State :=
  let s := modPmuHead side (fun h => { h with ring := [], reference := .running }) s
  let s := modHead side (fun h => { h with owner := .measure, position := .probing, dest := none }) s
  strokeStart (overtravelOf side) (place (modeTxn side .reference (.mode .reference)) s)

/-- REFERENCE_SWEEP of a head (R101). -/
def referenceOf (side : Side) (s : State) : Answer :=
  if s.pil.pitStop then say .stopped s
  else if s.pil.owners.heads ≠ .link then say .notOwner s
  else if (s.tcu.head.get side).owner ≠ .none then say .busy s
  else if latched (overtravelOf side) s then say .faulted s
  else if (s.tcu.head.get side).position ≠ .parked then say .notAvailable s
  else say .accepted (beginReference side s)

/-- REFERENCE_SWEEP (R101). -/
def referenceRequest (head : Nat) (s : State) : Answer :=
  match sideOf head with
  | none => say .badParameter s
  | some side => referenceOf side s

/-- READ_PROFILE (R104). -/
def readProfileRequest (wheel : Nat) (s : State) : Answer :=
  match sideOf wheel with
  | none => say .badParameter s
  | some side => (.late (.readProfile side), s)

/-! ## The scans (R88, R90, R91) -/

/-- Every claimed head is PROBING and its MODE write has returned OK. -/
def headsReady (s : State) : Bool :=
  eachSwept (fun side => (s.tcu.head.get side).position == .probing && (s.pmu.head.get side).modeOk) s

/-- SCAN_START, and the first poll of the scan (R83, R88). -/
def startScan (side : Side) (s : State) : State :=
  if swept side s then
    place (stateReadTxn side .sweep) (place (scanStartTxn side s.sst.active.scanStep) s)
  else s

/-- CLAIMING ends and PROFILE_SCAN begins (R88). -/
def profileScanBegin (s : State) : State :=
  if s.pmu.phase = .claiming ∧ headsReady s = true ∧ s.tcu.spindle = .stopped then
    forSides startScan (s.modPmu fun p => { p with phase := .profileScan })
  else s

/-- RING_START, and the first poll of the ring (R83, R90). -/
def startRing (side : Side) (s : State) : State :=
  if swept side s then place (stateReadTxn side .sweep) (place (ringStartTxn side .sweep) s) else s

/-- The spindle is AT_SPEED. -/
def atSpeed (s : State) : Bool :=
  match s.tcu.spindle with
  | .atSpeed _ => true
  | _ => false

/-- An index event in RING_WAIT: the settle count, and at 2 the ring (R90). -/
def settle (s : State) : State :=
  if s.pmu.phase = .ringWait ∧ atSpeed s = true ∧ headsReady s = true then
    if s.pmu.settle + 1 < 2 then s.modPmu fun p => { p with settle := p.settle + 1 }
    else forSides startRing (s.modPmu fun p => { p with settle := 2, phase := .ringScan })
  else s

/-- The extraction of the swept wheels has ended (R91). -/
def extractionDone (s : State) : State := if s.pmu.phase = .computing then finishExtraction s else s

/-! ## The rim sensors (R97) -/

/-- A reading of a rim sensor (R97). -/
def rimReading (side : Side) (value : Int) (s : State) : State :=
  modRim side (fun _ => ⟨clampInt (-300) 600 value, .live, none⟩) s

/-- A fault of a rim sensor (R97). -/
def rimFault (side : Side) (s : State) : State :=
  modRim side (fun r =>
    if r.state = .live then { r with state := .held, holdTimer := some Config.rimHoldTime } else r) s

/-- The hold timer of a rim sensor expires (R97). -/
def rimHoldExpiry (side : Side) (s : State) : State :=
  modRim side (fun r =>
    if r.state = .held ∧ r.holdTimer.isSome then ⟨Config.rimDefault, .defaulted, none⟩ else r) s

/-! ## The commands -/

/-- SWEEP (R87, R88). -/
def execSweep (tag : Byte) (wheels : Nat) (s : State) : Host.Outcome State Fault Refusal :=
  closed (answer 0x28#8 tag (sweepRequest wheels)) s

/-- HALT_SWEEP (R92, R101). -/
def execHaltSweep (tag : Byte) (s : State) : Host.Outcome State Fault Refusal :=
  closed (answer 0x29#8 tag haltSweepRequest) s

/-- REFERENCE_SWEEP (R101). -/
def execReferenceSweep (tag : Byte) (head : Nat) (s : State) : Host.Outcome State Fault Refusal :=
  closed (answer 0x2A#8 tag (referenceRequest head)) s

/-- READ_PROFILE (R104). -/
def execReadProfile (tag : Byte) (wheel : Nat) (s : State) : Host.Outcome State Fault Refusal :=
  closed (answer 0x2B#8 tag (readProfileRequest wheel)) s

/-- PROFILE_SCAN_BEGIN (R88). -/
def execProfileScanBegin (s : State) : Host.Outcome State Fault Refusal := closed profileScanBegin s

/-- SWEEP_EXTRACTION_DONE (R91). -/
def execSweepExtractionDone (s : State) : Host.Outcome State Fault Refusal := closed extractionDone s

/-- RIM_TEMPERATURE_READING (R97). -/
def execRimTemperatureReading (side : Side) (value : Int) (s : State) : Host.Outcome State Fault Refusal :=
  closed (rimReading side value) s

/-- RIM_SENSOR_FAULT (R97). -/
def execRimSensorFault (side : Side) (s : State) : Host.Outcome State Fault Refusal := closed (rimFault side) s

/-- RIM_HOLD_TIMER_EXPIRY (R97). -/
def execRimHoldTimerExpiry (side : Side) (s : State) : Host.Outcome State Fault Refusal :=
  closed (rimHoldExpiry side) s

end Sys2Proof.Machine
end

