-- ==== Sys2Proof/Machine/Plan.lean ====
section
/-! DEFINITION. The commands of the Turning Plan Engine (06): PLAN, READ_PLAN and the end of the computation. -/

namespace Sys2Proof.Machine

/-- The figures of a record that is VALID (R105). -/
def ProfileRecord.validFigures : ProfileRecord → Option ProfileFigures
  | .valid f => some f
  | _ => .none

/-- The measured inputs of a wheel (6.2). -/
def wheelInput (f : ProfileFigures) : WheelInput := ⟨f.d, f.h, f.t, f.oor, f.temp, f.tempHeld⟩

/-- The records that stage 5 examines, in ascending order of axle ID (R111). -/
def siblingsOf (axleId : AxleId) (bogieId : BogieId) (s : State) : List Sibling :=
  (bogieRecords bogieId s).filterMap fun r =>
    if r.axleId = axleId ∨ r.state = .condemned then none
    else (leastDiameter r.lastD).map fun d => ⟨r.axleId, d⟩

/-- The inputs as PLAN takes them (R106). -/
def planInputs (i : Identity) (wheel : Sides WheelInput) (s : State) : PlanInputs :=
  let st := s.sst.active
  let w := st.wheelType i.wheelType
  let p := st.profile w.profileIndex
  { axleId := i.axleId
    wheelType := i.wheelType
    profileIndex := w.profileIndex
    dScrap := w.dScrap
    hT := p.hT
    tT := p.tT
    k := p.k
    wheel := wheel
    cMin := st.cMin
    finishDepth := st.finishDepth
    depthLimit := st.depthLimit
    bogieTol := st.bogieTol
    ta := st.ta
    tb := st.tb
    tc := st.tc
    aMax := st.aMax
    speed := st.bandSpeed
    force := st.bandForce
    siblings := siblingsOf i.axleId i.bogieId s }

/-- PLAN is taken: any plan is discarded, and the work becomes COMPUTING on the inputs (R106). -/
def beginPlan (p : PlanInputs) (s : State) : State :=
  s.modTpe fun t => { t with plan := .empty none, work := .computing, inputs := some p }

/-- PLAN (R105, R106). -/
def planRequest (s : State) : Answer :=
  if s.tpe.work ≠ .idle ∨ sweepRunning s ∨ turningInProgress s then say .busy s
  else
    match s.pil.identity, s.pmu.record.l.validFigures, s.pmu.record.r.validFigures with
    | some i, some l, some r =>
      if s.pil.seatState ≠ .seated ∨ (s.sst.active.wheelType i.wheelType).dScrap = 0 then say .notAvailable s
      else if l.calStale || r.calStale then say .calStale s
      else if (seatedRecord s).isNone then say .noRecord s
      else say .accepted (beginPlan (planInputs i ⟨wheelInput l, wheelInput r⟩ s) s)
    | _, _, _ => say .notAvailable s

/-- READ_PLAN (R119). -/
def readPlanRequest (s : State) : Answer := (.late .readPlan, s)

/-- The plan computation ends (R110, R112). -/
def computationEnd (s : State) : State :=
  match s.tpe.work, s.tpe.inputs with
  | .computing, some p => drainMarks (computePlan p s)
  | _, _ => s

/-- PLAN (R106). -/
def execPlan (tag : Byte) (s : State) : Host.Outcome State Fault Refusal :=
  closed (answer 0x30#8 tag planRequest) s

/-- READ_PLAN (R119). -/
def execReadPlan (tag : Byte) (s : State) : Host.Outcome State Fault Refusal :=
  closed (answer 0x31#8 tag readPlanRequest) s

/-- PLAN_COMPUTATION_END (R107 to R115). -/
def execPlanComputationEnd (s : State) : Host.Outcome State Fault Refusal := closed computationEnd s

end Sys2Proof.Machine
end

