-- ==== Sys2Proof/Machine/Turning.lean ====
section
/-! DEFINITION. The commands of the Turning Control Unit (07): TURN to ABORT, the heads and their tools, index events,
roller speed, forces and the ends of slide moves. -/

namespace Sys2Proof.Machine

/-! ## TURN (R124, R125) -/

/-- A record is SUPERSEDED by a turning, keeping its figures (R98). -/
def ProfileRecord.supersede : ProfileRecord → ProfileRecord
  | .valid f => .superseded f
  | r => r

/-- The supports of a turning (R124, R134): the lift, the clamps and the bridges. -/
def turnSupported (s : State) : Bool := holdingBearing s && bothClamps .closed s && bothBridges .out s

/-- Each head whose wheel has a pass that is not COMPLETE has a USABLE tool (R124, R134). -/
def toolsFit (s : State) (side : Side) : Bool :=
  (s.tcu.head.get side).tool == .usable ||
    (match s.tcu.progress with
     | some p => (p.status.get side).all fun q => q == .complete
     | none => (planPasses side s).isEmpty)

/-- Each head whose wheel has a pass has a USABLE tool (R124). -/
def toolsReady (s : State) (side : Side) : Bool :=
  (s.tcu.head.get side).tool == .usable || (planPasses side s).isEmpty

/-- The plan is READY with the seated axle's ID (R124). -/
def planFits (s : State) : Bool :=
  s.tpe.plan.state == .ready && s.pil.seatState == .seated &&
    (match s.tpe.plan.figures, s.pil.identity with
     | some f, some i => f.axleId == i.axleId
     | _, _ => false)

/-- The plan's surface speed, m/min. -/
def planSpeed (s : State) : Nat :=
  match s.tpe.plan.cut with
  | some c => c.speed
  | none => 0

/-- The progress of a turning that begins (R125). -/
def newProgress (s : State) : Progress where
  step := 0
  status := ⟨(planPasses .l s).map fun _ => .pending, (planPasses .r s).map fun _ => .pending⟩
  lProf := (s.sst.active.profile (seatedType s).profileIndex).lProf

/-- TURN is taken (R125). -/
def beginTurning (s : State) : State :=
  let progress := newProgress s
  let s := s.modTpe fun t => { t with plan := { t.plan with state := .inUse } }
  let s := s.modPmu fun p => { p with record := p.record.map ProfileRecord.supersede }
  let s := s.modTcu fun t =>
    { t with
      state := .runup
      head := t.head.map fun h => { h with owner := .turn }
      progress := some progress
      revolutions := 0 }
  spindleUp (planSpeed s) s

/-- TURN (R124, R125). -/
def turnRequest (s : State) : Answer :=
  if s.pil.pitStop then say .stopped s
  else if s.pil.owners.heads ≠ .link then say .notOwner s
  else if !tcuFree s || sweepRunning s || (s.tcu.head.any fun h => h.owner != .none) then say .busy s
  else if turnBlocked s then say .faulted s
  else if planFits s && turnSupported s && s.tcu.spindle == .stopped &&
      (s.tcu.head.all fun h => h.position == .parked) && toolsReady s .l && toolsReady s .r &&
      !s.slp.silenceHold then
    say .accepted (beginTurning s)
  else say .notAvailable s

/-! ## PAUSE, RESUME, ABORT (R133 to R135) -/

/-- PAUSE (R133). -/
def pauseRequest (s : State) : Answer :=
  match s.tcu.state with
  | .runup => say .ok (pauseTurning .pause s)
  | .cutting => say .ok (pauseTurning .pause s)
  | .paused _ => say .ok s
  | _ => say .notAvailable s

/-- RESUME is taken (R134). -/
def resumeTurning (s : State) : State :=
  match s.tcu.spindle with
  | .atSpeed _ => continueCutting s
  | .runup _ => s.modTcu fun t => { t with state := .runup }
  | _ => spindleUp (planSpeed s) (s.modTcu fun t => { t with state := .runup })

/-- RESUME (R134). -/
def resumeRequest (s : State) : Answer :=
  if s.pil.pitStop then say .stopped s
  else if s.pil.owners.heads ≠ .link then say .notOwner s
  else if turnBlocked s then say .faulted s
  else if turningPaused s && turnSupported s && toolsFit s .l && toolsFit s .r && !s.slp.silenceHold then
    say .ok (resumeTurning s)
  else say .notAvailable s

/-- ABORT (R135). -/
def abortRequest (s : State) : Answer :=
  if turningLive s then say .ok (endAborted .abort s)
  else
    match s.tcu.state with
    | .ending _ => say .ok s
    | _ => say .notAvailable s

/-! ## Heads and tools (R123, R137, R138) -/

/-- HOME of a head, asked for by the link or by the pendant (R123). -/
def homeOf (by' : Owner) (side : Side) (s : State) : Answer :=
  let h := s.tcu.head.get side
  if s.pil.pitStop then say .stopped s
  else if s.pil.owners.heads ≠ by' then say .notOwner s
  else if h.owner ≠ .none then say .busy s
  else
    match h.position with
    | .parked => say .ok s
    | .halted => say .accepted (modHead side (·.moveTo .park) s)
    | .retracted => say .accepted (modHead side (·.moveTo .park) s)
    | _ => say .notAvailable s

/-- HOME (R123). -/
def homeRequest (head : Nat) (s : State) : Answer :=
  match sideOf head with
  | none => say .badParameter s
  | some side => homeOf .link side s

/-- The pendant's heads home (R14). -/
def headsHome (s : State) : Answer :=
  say .ok (forSides (fun side s => (homeOf .pendant side s).2) s)

/-- The tools of a head may not be changed: it is IN_CUT, or the TCU is CUTTING (R138). -/
def toolBusy (side : Side) (s : State) : Bool :=
  (s.tcu.head.get side).position == .inCut || s.tcu.state == .cutting

/-- A head whose insert is turned to its next edge: EXHAUSTED where the edges used then equal the edges per insert
(R138). DEDUCED, log 46: the edges used count on beyond the 8 of their range. -/
def Head.nextEdge (perInsert : Nat) (h : Head) : Head :=
  { h with
    edgesUsed := h.edgesUsed + 1
    edgeCount := 0
    tool := if h.edgesUsed + 1 = perInsert then .exhausted else .usable }

/-- INDEX_EDGE (R138). -/
def indexEdgeRequest (head : Nat) (s : State) : Answer :=
  match sideOf head with
  | none => say .badParameter s
  | some side =>
    if toolBusy side s || (s.tcu.head.get side).tool == .exhausted then say .notAvailable s
    else say .ok (modHead side (Head.nextEdge s.sst.active.edgesPerInsert) s)

/-- A head with a new insert (R138). -/
def Head.newInsert (h : Head) : Head := { h with edgesUsed := 0, edgeCount := 0, tool := .usable }

/-- TOOL_CHANGED (R138). -/
def toolChangedRequest (head : Nat) (s : State) : Answer :=
  match sideOf head with
  | none => say .badParameter s
  | some side => if toolBusy side s then say .notAvailable s else say .ok (modHead side Head.newInsert s)

/-! ## Index events (R90, R120, R121, R126 to R128) -/

/-- The sum of readings, each saturating at 5,000 daN (R128). -/
def forceSum (readings : List Nat) : Nat :=
  readings.foldl (fun acc x => acc + saturate Config.forceMax x) 0

/-- The change of feed: `n` times the mean force is `sum` (R128, log entry 8). -/
def feedChange (st : Settings) (target : Nat) (sum n : Nat) : Int :=
  let e : Int := (n : Int) * target - sum
  match st.feedMode with
  | .full => clampInt (-100) 100 (divTrunc (st.kpFeed * e) (8 * n))
  | .oneStep => if 0 < e then 10 else if e < 0 then -10 else 0

/-- The new feed of a head from the readings of the revolution just ended; the standing reading where the revolution
brought none (R128, log entry 8). -/
def newFeed (st : Settings) (target : Nat) (readings : List Nat) (h : Head) : Nat :=
  let rs := if readings = [] then [h.force] else readings
  (clampInt st.fMin st.fMax (h.feed + feedChange st target (forceSum rs) rs.length)).toNat

/-- The force target of a head's wheel in the plan (R128). -/
def forceTarget (side : Side) (s : State) : Nat :=
  match s.tpe.plan.cut with
  | some c => (c.force.get side).getD 0
  | none => 0

/-- A further revolution on the edge, with the tool test (R127, R137). -/
def Head.revolution (edgeLife : Nat) (h : Head) : Head :=
  let n := saturate Config.max16 (h.edgeCount + 1)
  { h with
    edgeCount := n
    tool := if h.tool = .usable ∧ edgeLife ≤ n then .worn else h.tool
    blankLeft := h.blankLeft - 1 }

/-- An index event of a head that is IN_CUT after its first (R127, R129). -/
def cutEvent (readings : List Nat) (side : Side) (s : State) : State :=
  let st := s.sst.active
  let lProf := passTravel s
  let s := modHead side (Head.revolution st.edgeLife) s
  let h := s.tcu.head.get side
  let z := h.zDone.getD 0 + h.feed
  if lProf ≤ z then modHead side (·.moveTo .atWork) (setPass side .complete s)
  else
    let f := newFeed st (forceTarget side s) readings h
    modHead side (fun h => { h with zDone := some z, feed := f, remaining := some (revolutionsLeft lProf z f) }) s

/-- What an index event does to a head (R126, R127). -/
def headEvent (readings : List Nat) (side : Side) (s : State) : State :=
  let h := s.tcu.head.get side
  if h.position = .inCut then cutEvent readings side s
  else if h.position = .moving ∧ h.dest = some .awaitIndex then beginCut side s
  else s

/-- The revolution counter after one more revolution; beyond its last value a free value (log entry 6). -/
def nextRevolution (n : Nat) : Nat := if n < Config.maxRevolutions then n + 1 else Config.revolutionsAfterLast

/-- The TCU takes an index event: interval, stop timer, revolution counter (R120, R121, R127). -/
def countEvent (interval : Nat) (s : State) : State :=
  let cutting := headInCut s
  s.modTcu fun t =>
    { t with
      interval := interval
      runEvents := min 2 (t.runEvents + 1)
      stopTimer := if t.spindle = .rundown then some Config.stopTime else t.stopTimer
      revolutions := if cutting then nextRevolution t.revolutions else t.revolutions }

/-- An index event (R90, R120, R126, R127). -/
def indexTaken (interval : Nat) (forcesL forcesR : List Nat) (s : State) : State :=
  settle (headEvent forcesR .r (headEvent forcesL .l (countEvent interval s)))

/-! ## The rollers (R59, R120, R121) -/

/-- The roller surface speed is within 2 % of the target (R120). -/
def withinTarget (roller target : Nat) : Bool :=
  decide (((roller : Int) - (target * 1000 : Nat)).natAbs * 100 ≤ 2 * (target * 1000))

/-- The blanking of M8 ends as the rollers reach their share of the target (R59). DEDUCED, log 52: at blank 8 too, where
the rollers reach the target itself while the spindle is still RUNUP. -/
def endSlipBlanking (target : Nat) (s : State) : State :=
  s.modFmu fun u =>
    { u with slipBlanked := u.slipBlanked && decide (s.tcu.rollerSpeed * 8 < u.slipEighths * target * 1000) }

/-- The spindle reaches AT_SPEED: the blanking of M8 ends, and a turning in RUNUP goes on cutting (R59, R120, R125,
R134). -/
def reachSpeed (target : Nat) (s : State) : State :=
  let s := s.modTcu fun t => { t with spindle := .atSpeed target }
  let s := s.modFmu fun u => { u with slipBlanked := false }
  match s.tcu.state, s.tcu.progress with
  | .runup, some p =>
    if p.step = 0 then beginStep 1 (s.modTcu fun t => { t with state := .cutting }) else continueCutting s
  | _, _ => s

/-- The roller speed changes (R59, R120, R121). -/
def rollersChanged (pairL pairR : Nat) (s : State) : State :=
  let s := s.modTcu fun t => { t with rollerSpeed := (pairL + pairR) / 2 }
  match s.tcu.spindle with
  | .runup target =>
    let s := endSlipBlanking target s
    if withinTarget s.tcu.rollerSpeed target then reachSpeed target s else s
  | _ => s

/-- The stop timer expires (R120, R130, R140). -/
def stopExpiry (s : State) : State :=
  if s.tcu.spindle = .rundown ∧ s.tcu.stopTimer.isSome then
    let s := s.modTcu fun t => { t with spindle := .stopped, stopTimer := none }
    leaveEnding (leaveMeasureRun (if s.tcu.measuring then runForMeasure s else s))
  else s

/-! ## The end of a slide move (R122) -/

/-- A head's slide move ends, by where it was going (R122, R126, R129, R130). -/
def moveEnded (side : Side) (parkSwitch : Bool) (s : State) : State :=
  let h := s.tcu.head.get side
  match h.position, h.dest with
  | .moving, some .park => if parkSwitch then leaveEnding (releaseHead side (headParked side s)) else s
  | .moving, some .atWork => stepEnd (modHead side (fun h => { h with position := .atWork, dest := none }) s)
  | .moving, some .retracted => modHead side (fun h => { h with position := .retracted, dest := none }) s
  | .moving, some .scanStart => modHead side (fun h => { h with position := .probing, dest := none }) s
  | .moving, some .tapingLine => modHead side (fun h => { h with position := .probing, dest := none }) s
  | .moving, some .passStart => modHead side (fun h => { h with dest := some .awaitIndex }) s
  | .parked, some .stow => releaseHead side (modHead side (fun h => { h with dest := none }) s)
  | _, _ => s

/-! ## The commands -/

/-- TURN (R124, R125). -/
def execTurn (tag : Byte) (s : State) : Host.Outcome State Fault Refusal :=
  closed (answer 0x38#8 tag turnRequest) s

/-- PAUSE (R133). -/
def execPause (tag : Byte) (s : State) : Host.Outcome State Fault Refusal :=
  closed (answer 0x39#8 tag pauseRequest) s

/-- RESUME (R134). -/
def execResume (tag : Byte) (s : State) : Host.Outcome State Fault Refusal :=
  closed (answer 0x3A#8 tag resumeRequest) s

/-- ABORT (R135). -/
def execAbort (tag : Byte) (s : State) : Host.Outcome State Fault Refusal :=
  closed (answer 0x3B#8 tag abortRequest) s

/-- HOME (R123). -/
def execHome (tag : Byte) (head : Nat) (s : State) : Host.Outcome State Fault Refusal :=
  closed (answer 0x3C#8 tag (homeRequest head)) s

/-- INDEX_EDGE (R138). -/
def execIndexEdge (tag : Byte) (head : Nat) (s : State) : Host.Outcome State Fault Refusal :=
  closed (answer 0x3D#8 tag (indexEdgeRequest head)) s

/-- TOOL_CHANGED (R138). -/
def execToolChanged (tag : Byte) (head : Nat) (s : State) : Host.Outcome State Fault Refusal :=
  closed (answer 0x3E#8 tag (toolChangedRequest head)) s

/-- PENDANT_HEADS_HOME (R14). -/
def execPendantHeadsHome (s : State) : Host.Outcome State Fault Refusal := closed (press headsHome) s

/-- INDEX_EVENT (R90, R120, R126 to R129). -/
def execIndexEvent (interval : Nat) (forcesL forcesR : List Nat) (s : State) : Host.Outcome State Fault Refusal :=
  closed (indexTaken interval forcesL forcesR) s

/-- ROLLER_SPEED_CHANGE (R120, R121). -/
def execRollerSpeedChange (pairL pairR : Nat) (s : State) : Host.Outcome State Fault Refusal :=
  closed (rollersChanged pairL pairR) s

/-- FORCE_READING_CHANGE (R49). -/
def execForceReadingChange (side : Side) (value : Nat) (s : State) : Host.Outcome State Fault Refusal :=
  closed (modHead side fun h => { h with force := saturate Config.forceMax value }) s

/-- STOP_TIMER_EXPIRY (R120). -/
def execStopTimerExpiry (s : State) : Host.Outcome State Fault Refusal := closed stopExpiry s

/-- HEAD_MOVE_END (R122). -/
def execHeadMoveEnd (side : Side) (parkSwitch : Bool) (s : State) : Host.Outcome State Fault Refusal :=
  closed (moveEnded side parkSwitch) s

end Sys2Proof.Machine
end

