-- ==== Sys2Proof/Machine/History.lean ====
section
/-! DEFINITION. The commands of the Axle History Store (08): the history requests, record openings, commits and the
start-up scan. -/

namespace Sys2Proof.Machine

/-! ## READ_HISTORY and LIST_BOGIE (R160, R161) -/

/-- The store is in its start-up scan. -/
def loading (s : State) : Bool := s.ahs.store == .loading

/-- READ_HISTORY (R160). -/
def readHistoryRequest (axleId : AxleId) (start : Nat) (s : State) : Answer :=
  if !idValid 10 axleId then say .badParameter s
  else if loading s then say .busy s
  else
    match (indexFind axleId s.ahs.index).bind fun _ => readRecord axleId s with
    | none => say .notFound s
    | some r => if r.entries.length < start then say .badParameter s else (.late (.readHistory axleId start), s)

/-- LIST_BOGIE (R161). -/
def listBogieRequest (bogieId : BogieId) (s : State) : Answer :=
  if loading s then say .busy s else (.late (.listBogie bogieId), s)

/-! ## RETIRE_AXLE (R162) -/

/-- The record is open and not CLEAN, or its commit is queued (R162). -/
def commitOwed (axleId : AxleId) (s : State) : Bool :=
  s.ahs.queue.contains axleId ||
    (match openFind axleId s with | some o => o.state != .clean | none => false)

/-- The record is the seated one, or the one a seating waits for (R162). DESIGN CHOICE, log 67: it is also one whose slot
is being read for a seating, its place found: that opening waits no more (R152) and the record is not seated yet, and
R162 does not say; it is refused NOT_AVAILABLE. -/
def seatedOrWaited (axleId : AxleId) (s : State) : Bool :=
  match s.ahs.link with
  | .opened id => id == axleId
  | .waiting id => id == axleId
  | .none => false

/-- A record leaves the store: its slot FREE, its index entry and its CLEAN open copy removed (R162). -/
def retire (e : IndexEntry) (s : State) : State :=
  s.modAhs fun a =>
    { a with
      slots := (match e.slot with | some n => putSlot n none a.slots | none => a.slots)
      index := indexRemove e.axleId a.index
      cache := a.cache.filter fun o => o.record.axleId != e.axleId }

/-- RETIRE_AXLE (R162). -/
def retireAxleRequest (axleId : AxleId) (s : State) : Answer :=
  if !idValid 10 axleId then say .badParameter s
  else if loading s || commitOwed axleId s then say .busy s
  else if seatedOrWaited axleId s then say .notAvailable s
  else
    match indexFind axleId s.ahs.index with
    | none => say .notFound s
    | some e => say .ok (retire e s)

/-! ## CORRECT_HISTORY (R163) -/

/-- A diameter of a correction is in its range, or absent (R163). -/
def diameterOk (d : Option Nat) : Bool :=
  match d with
  | none => true
  | some x => decide (500000 ≤ x) && decide (x ≤ 1200000)

/-- A diameter of a correction is above the D_new of the record's wheel type, where that is above 0 (R163). -/
def aboveNew (dNew : Nat) (d : Option Nat) : Bool :=
  match d with
  | none => false
  | some x => decide (0 < dNew) && decide (dNew < x)

/-- A waiting opening is present: one that has not found its cache place (R152). -/
def openingWaits (s : State) : Bool :=
  match s.ahs.opening with
  | some o => !o.placed
  | none => false

/-- The record is opened, if it is not, and the ENTERED entry appended (R163). DEDUCED, log 65: a record whose slot is just
being read for a seating or a mark is opened here at once, in a second place. -/
def correct (r : Record) (l d : Option Nat) (s : State) : State :=
  let s := if isOpen r.axleId s then s else openRecord r .clean (makePlace s)
  appendTo r.axleId (.entered ⟨l.map fun n => n, d.map fun n => n⟩) s

/-- CORRECT_HISTORY (R163). DEDUCED, log 65: BUSY too where the record's slot is being read and no second place is
available. -/
def correctHistoryRequest (axleId : AxleId) (diameterL diameterR : Option Nat) (s : State) : Answer :=
  if !idValid 10 axleId || (diameterL.isNone && diameterR.isNone) || !diameterOk diameterL || !diameterOk diameterR then
    say .badParameter s
  else
    let found := (indexFind axleId s.ahs.index).bind fun _ => readRecord axleId s
    if loading s || openingWaits s || (found.isSome && !isOpen axleId s && !placeAvailable s) then say .busy s
    else
      match found with
      | none => say .notFound s
      | some r =>
        let dNew := (s.sst.active.wheelType r.wheelType).dNew
        if aboveNew dNew diameterL || aboveNew dNew diameterR then say .notAvailable s
        else say .ok (correct r diameterL diameterR s)

/-! ## COMMIT (R164) -/

/-- COMMIT (R164). -/
def commitRequest (s : State) : Answer :=
  if loading s then say .busy s
  else
    let s' := queueDirty s
    say (movedOr (decide (s.ahs.queue.length < s'.ahs.queue.length))) s'

/-! ## Openings and commits (R148, R152 to R156, R158) -/

/-- The slot of the record being opened has been read into the cache (R148, R158). -/
def recordOpened (s : State) : State :=
  match s.ahs.opening with
  | none => s
  | some o =>
    if !o.placed then s
    else
      let s := s.modAhs fun a => { a with opening := none }
      let found := (indexFind o.axleId s.ahs.index).bind fun _ => readRecord o.axleId s
      let s := match found with
        | none => s
        | some r => if isOpen o.axleId s then s else openRecord r .clean s
      if o.seating then
        if found.isSome then linkRecord o.axleId s else s.modAhs fun a => { a with link := .none }
      else drainMarks (processMarks s.tpe.marks s)

/-- The commit of the front record begins, where no commit runs and the stores allow it (R153). -/
def commitBegin (s : State) : State :=
  if s.ahs.commit = none ∧ s.ahs.store = .ready ∧ s.sst.store = .idle then drainMarks (commitFront s) else s

/-- The write of a commit ends and its verify begins (R154). -/
def slotWritten (s : State) : State :=
  match s.ahs.commit with
  | none => s
  | some c => s.modAhs fun a => { a with commit := some { c with stage := .verify } }

/-- The verify of a commit ends (R154, R155). -/
def verifyDone (agrees : Bool) (s : State) : State :=
  match s.ahs.commit with
  | none => s
  | some c =>
    if c.stage = .verify then drainMarks (skipRetired (if agrees then verifyAgrees c s else verifyDisagrees c s)) else s

/-- The start-up scan ends: the slots whose check is bad are given (R165). -/
def scanEnded (badChecks : List Nat) (s : State) : State :=
  if s.ahs.store = .loading then
    let (slots, index, losses) := scanSlots badChecks s.ahs.slots
    s.modAhs fun a => { a with store := .ready, slots := slots, index := index, scanLosses := losses }
  else s

/-! ## The commands -/

/-- READ_HISTORY (R160). -/
def execReadHistory (tag : Byte) (axleId : AxleId) (start : Nat) (s : State) : Host.Outcome State Fault Refusal :=
  closed (answer 0x40#8 tag (readHistoryRequest axleId start)) s

/-- LIST_BOGIE (R161). -/
def execListBogie (tag : Byte) (bogieId : BogieId) (s : State) : Host.Outcome State Fault Refusal :=
  closed (answer 0x41#8 tag (listBogieRequest bogieId)) s

/-- RETIRE_AXLE (R162). -/
def execRetireAxle (tag : Byte) (axleId : AxleId) (s : State) : Host.Outcome State Fault Refusal :=
  closed (answer 0x42#8 tag (retireAxleRequest axleId)) s

/-- CORRECT_HISTORY (R163). -/
def execCorrectHistory (tag : Byte) (axleId : AxleId) (diameterL diameterR : Option Nat) (s : State) :
    Host.Outcome State Fault Refusal :=
  closed (answer 0x43#8 tag (correctHistoryRequest axleId diameterL diameterR)) s

/-- COMMIT (R164). -/
def execCommit (tag : Byte) (s : State) : Host.Outcome State Fault Refusal :=
  closed (answer 0x44#8 tag commitRequest) s

/-- RECORD_OPEN_COMPLETE (R148, R158). -/
def execRecordOpenComplete (s : State) : Host.Outcome State Fault Refusal := closed recordOpened s

/-- COMMIT_BEGIN (R153, R154). -/
def execCommitBegin (s : State) : Host.Outcome State Fault Refusal := closed commitBegin s

/-- SLOT_WRITE_DONE (R154). -/
def execSlotWriteDone (s : State) : Host.Outcome State Fault Refusal := closed slotWritten s

/-- COMMIT_VERIFY_DONE (R154, R155). -/
def execCommitVerifyDone (agrees : Bool) (s : State) : Host.Outcome State Fault Refusal := closed (verifyDone agrees) s

/-- STARTUP_SCAN_END (R165). -/
def execStartupScanEnd (badChecks : List Nat) (s : State) : Host.Outcome State Fault Refusal :=
  closed (scanEnded badChecks) s

end Sys2Proof.Machine
end

