-- ==== Sys2Proof/Machine/SettingsStore.lean ====
section
/-! DEFINITION. The commands of the Settings Store (10): SET_SETTING, GET_SETTING, and the storing and loading of the
image. -/

namespace Sys2Proof.Machine

/-! ## Refusals (R118, R181) -/

/-- The setting is a plan input of the seated axle (R118). -/
def isPlanInput (s : State) : Setting → Bool
  | .cMin => true
  | .finishDepth => true
  | .depthLimit => true
  | .bogieTol => true
  | .ta => true
  | .tb => true
  | .tc => true
  | .aMax _ => true
  | .bandSpeed _ => true
  | .bandForce _ => true
  | .wheel i f =>
    (s.pil.identity.map Identity.wheelType) == some i && (f == .dScrap || f == .profileIndex)
  | .profile j f => s.pil.identity.isSome && (seatedType s).profileIndex == j && f != .lProf
  | _ => false

/-- The plan is IN_USE. -/
def planInUse (s : State) : Bool := s.tpe.plan.state == .inUse

/-- The TCU is CUTTING or a head is IN_CUT (R141). -/
def cuttingNow (s : State) : Bool := s.tcu.state == .cutting || headInCut s

/-- The state in which a setting is refused NOT_AVAILABLE (R46, R103, R141, R181). -/
def settingHeld (s : State) : Setting → Bool
  | .liftSpeed => liftMoving s
  | .kpLift => liftMoving s
  | .liftMode => liftMoving s
  | .contact => liftMoving s
  | .bearing => liftMoving s
  | .overload => liftMoving s
  | .tiltLimit => liftMoving s
  | .clearance => liftMoving s || bridgesMoving s
  | .clampMode => clampsMoving s
  | .clampTime => clampsMoving s
  | .scanStep => sweepRunning s
  | .zTl => sweepRunning s
  | .gauge => sweepRunning s
  | .qOff => sweepRunning s
  | .rRef => sweepRunning s
  | .axleTol => sweepRunning s
  | .probeOffset side => sweepRunning s || referenceRunning side s
  | .feedMode => cuttingNow s
  | .kpFeed => cuttingNow s
  | .fStart => cuttingNow s
  | .fMin => cuttingNow s
  | .fMax => cuttingNow s
  | .edgesPerInsert => cuttingNow s
  | _ => false

/-! ## What the owners do with a new value -/

/-- The thresholds of the load zones have changed (R22). -/
def thresholdsChanged (before : Settings) (s : State) : State :=
  let now := s.sst.active
  if before.contact = now.contact ∧ before.bearing = now.bearing ∧ before.overload = now.overload then s
  else zonesAfresh s

/-- The probe offset of a head has changed other than by a reference sweep (R85). -/
def offsetChanged (before : Settings) (side : Side) (s : State) : State :=
  if before.probeOffset.get side = s.sst.active.probeOffset.get side then s else makeStale side s

/-- The feeds are clamped into f_min to f_max (R141). -/
def clampFeed (st : Settings) (h : Head) : Head := { h with feed := (clampInt st.fMin st.fMax h.feed).toNat }

/-- The range of the feeds has changed (R141). -/
def feedsChanged (before : Settings) (s : State) : State :=
  let now := s.sst.active
  if before.fMin = now.fMin ∧ before.fMax = now.fMax then s
  else s.modTcu fun t => { t with head := t.head.map (clampFeed now) }

/-- A USABLE head that is not IN_CUT becomes WORN at a change of edge life (R137). -/
def wearOut (edgeLife : Nat) (h : Head) : Head :=
  if h.tool = .usable ∧ h.position ≠ .inCut ∧ edgeLife ≤ h.edgeCount then { h with tool := .worn } else h

/-- The edge life has changed (R137). -/
def edgeLifeChanged (before : Settings) (s : State) : State :=
  let now := s.sst.active
  if before.edgeLife = now.edgeLife then s
  else s.modTcu fun t => { t with head := t.head.map (wearOut now.edgeLife) }

/-- A tool whose used edges have reached the edges per insert becomes EXHAUSTED (R137). -/
def exhaust (perInsert : Nat) (h : Head) : Head :=
  if perInsert ≤ h.edgesUsed then { h with tool := .exhausted } else h

/-- The edges per insert have changed (R137). -/
def edgesChanged (before : Settings) (s : State) : State :=
  let now := s.sst.active
  if before.edgesPerInsert = now.edgesPerInsert then s
  else s.modTcu fun t => { t with head := t.head.map (exhaust now.edgesPerInsert) }

/-- The modes of the monitors have changed, in instance order (R61). -/
def modesChanged (before : Settings) (s : State) : State :=
  MonitorId.list.foldl (fun s m => modeChanged (before.monitorMode.get m) m s) s

/-- The silence timer takes the timeout in force: stopped for 0, otherwise started (R176). -/
def restartSilence (s : State) : State :=
  let t := s.sst.active.silenceTimeout
  s.modSlp fun p => { p with silenceTimer := if t = 0 then none else some t }

/-- Each owner acts on the settings that now stand, against those before (R181, R187). -/
def ownersAct (before : Settings) (s : State) : State :=
  let s := modesChanged before (thresholdsChanged before s)
  feedsChanged before (forSides (offsetChanged before) s)

/-- What SET_SETTING of the edge life or the edges per insert does to the tools (R137). LOAD_SETTINGS and
DEFAULT_SETTINGS change no tool (R139). -/
def toolsChanged (before : Settings) (s : State) : State := edgesChanged before (edgeLifeChanged before s)

/-! ## SET_SETTING and GET_SETTING (R181 to R183) -/

/-- A value is taken (R181, R182). -/
def takeSetting (x : Setting) (v : Int) (s : State) : State :=
  let before := s.sst.active
  let input := isPlanInput s x
  let s := toolsChanged before (ownersAct before (s.modSst fun t => { t with active := writeSetting t.active v x }))
  let s := if x = .silenceTimeout then restartSilence s else s
  if input then planInputChanged s else s

/-- SET_SETTING (R181, R182). -/
def setSettingRequest (addr : SettingAddr) (value : Int) (s : State) : Answer :=
  match settingOf addr with
  | none => say .badParameter s
  | some x =>
    if badValue x value then say .badParameter s
    else if s.sst.store ≠ .idle ∨ (isPlanInput s x && planInUse s) then say .busy s
    else if settingHeld s x then say .notAvailable s
    else
      let v := takenValue s.sst.active x value
      (.fixed (okOr (decide (v ≠ value))) (be 4 v), takeSetting x v s)

/-- GET_SETTING (R183). -/
def getSettingRequest (source : Nat) (addr : SettingAddr) (s : State) : Answer :=
  match storedOf source, settingOf addr with
  | some stored, some _ =>
    if stored && s.sst.store == .writing then say .busy s
    else if stored && s.sst.image.isNone then say .notAvailable s
    else (.late (.getSetting stored addr), s)
  | _, _ => say .badParameter s

/-! ## The image (R184 to R187) -/

/-- The tool counters of a head. -/
def Head.tools (h : Head) : ToolCounters := ⟨h.edgeCount, h.edgesUsed, h.tool⟩

/-- STORE_SETTINGS (R184). -/
def storeSettingsRequest (autoload : Nat) (s : State) : Answer :=
  match autoloadOf autoload with
  | none => say .badParameter s
  | some set =>
    if s.sst.store ≠ .idle then say .busy s
    else
      say .accepted (s.modSst fun t =>
        { t with store := .pending, snapshot := some ⟨t.active, s.tcu.head.map Head.tools, set⟩ })

/-- Programming of the image begins (R184). -/
def programmingBegin (s : State) : State :=
  if s.sst.store = .pending ∧ s.ahs.store = .ready ∧ s.ahs.commit = none then
    s.modSst fun t => { t with store := .writing, image := none }
  else s

/-- The read-back of the image ends (R185). -/
def readbackDone (agrees : Bool) (s : State) : State :=
  if s.sst.store = .writing then
    s.modSst fun t =>
      { t with
        store := .idle
        image := if agrees then t.snapshot else none
        snapshot := none
        lastOutcome := if agrees then .stored else .storeFailed }
  else s

/-- Something holds the settings that a load replaces (R187). -/
def settingsHeld (s : State) : Bool :=
  liftMoving s || bridgesMoving s || clampsMoving s || sweepRunning s || anyReference s || cuttingNow s

/-- The whole set of settings is replaced, and each owner acts; the tools stay (R139, R187). -/
def replaceSettings (st : Settings) (outcome : SettingsOutcome) (s : State) : State :=
  let before := s.sst.active
  let s := ownersAct before (s.modSst fun t => { t with active := st, lastOutcome := outcome })
  planInputChanged (if before.silenceTimeout = st.silenceTimeout then s else restartSilence s)

/-- The refusals of LOAD_SETTINGS and DEFAULT_SETTINGS (R187). -/
def loadRefusal (s : State) : Option Code :=
  if s.sst.store ≠ .idle ∨ planInUse s then some .busy
  else if settingsHeld s then some .notAvailable
  else none

/-- LOAD_SETTINGS (R187). -/
def loadSettingsRequest (s : State) : Answer :=
  match loadRefusal s, s.sst.image with
  | some code, _ => say code s
  | none, none => say .notAvailable s
  | none, some i => say .ok (replaceSettings i.settings .loaded s)

/-- DEFAULT_SETTINGS (R187). -/
def defaultSettingsRequest (s : State) : Answer :=
  match loadRefusal s with
  | some code => say code s
  | none => say .ok (replaceSettings .defaults .defaulted s)

/-! ## The commands -/

/-- SET_SETTING (R181, R182). -/
def execSetSetting (tag : Byte) (addr : SettingAddr) (value : Int) (s : State) : Host.Outcome State Fault Refusal :=
  closed (answer 0x50#8 tag (setSettingRequest addr value)) s

/-- GET_SETTING (R183). -/
def execGetSetting (tag : Byte) (source : Nat) (addr : SettingAddr) (s : State) : Host.Outcome State Fault Refusal :=
  closed (answer 0x51#8 tag (getSettingRequest source addr)) s

/-- STORE_SETTINGS (R184). -/
def execStoreSettings (tag : Byte) (autoload : Nat) (s : State) : Host.Outcome State Fault Refusal :=
  closed (answer 0x52#8 tag (storeSettingsRequest autoload)) s

/-- LOAD_SETTINGS (R187). -/
def execLoadSettings (tag : Byte) (s : State) : Host.Outcome State Fault Refusal :=
  closed (answer 0x53#8 tag loadSettingsRequest) s

/-- DEFAULT_SETTINGS (R187). -/
def execDefaultSettings (tag : Byte) (s : State) : Host.Outcome State Fault Refusal :=
  closed (answer 0x54#8 tag defaultSettingsRequest) s

/-- SETTINGS_PROGRAMMING_BEGIN (R184). -/
def execSettingsProgrammingBegin (s : State) : Host.Outcome State Fault Refusal := closed programmingBegin s

/-- SETTINGS_READBACK_DONE (R185). -/
def execSettingsReadbackDone (agrees : Bool) (s : State) : Host.Outcome State Fault Refusal :=
  closed (readbackDone agrees) s

end Sys2Proof.Machine
end

