-- ==== Sys2Proof/Machine/Link.lean ====
section
/-! DEFINITION. The commands of the Supervisor Link Port (09): the receiver, the dispatch of requests, the transmitter,
the silence monitor, STATUS, RESUME_LINK and RESET. -/

namespace Sys2Proof.Machine

/-! ## STATUS, RESUME_LINK, RESET (R175, R178, R179) -/

/-- STATUS (R175). -/
def statusRequest (s : State) : Answer := (.late .status, s)

/-- RESUME_LINK (R178). -/
def resumeLinkRequest (s : State) : Answer := say .ok (s.modSlp fun p => { p with silenceHold := false })

/-- What stands against a link RESET (R179, R186). -/
def resetRefused (s : State) : Bool :=
  s.tcu.spindle != .stopped || liftMoving s || clampsMoving s || bridgesMoving s || headsActive s || sweepRunning s ||
    anyReference s || s.sst.store != .idle || loading s

/-- A RESET is taken: reset pending, the commits of every DIRTY record, and then, in the drain, the TURNED entry of a
paused turning, which queues its record again (R136, R166, R179). -/
def takeReset (s : State) : State :=
  let s := queueDirty (s.modSlp fun p => { p with resetPending := true })
  drainMarks (if turningPaused s then handEntry (turnedEntry true s) s else s)

/-- RESET (R179). -/
def resetRequest (s : State) : Answer := if resetRefused s then say .busy s else say .ok (takeReset s)

/-! ## Dispatch (R171, R172) -/

/-- The request handed to the block that owns it (R171). A command that is no request is never in a frame. -/
def serve (i : Instr) : State → Answer :=
  match i with
  | .seatAxle _ axleId wheelType bogieId position force => seatAxleRequest axleId wheelType bogieId position force
  | .releaseAxle _ => releaseAxleRequest
  | .bridges _ direction => bridgesRequest direction
  | .source _ group owner => sourceRequest group owner
  | .setStamp _ stamp => setStampRequest stamp
  | .lift _ height => liftRequest height
  | .lower _ height => lowerRequest height
  | .takeLoad _ => takeLoadRequest
  | .haltLift _ => haltLiftRequest
  | .clampClose _ => clampsClose .link
  | .clampOpen _ => clampsOpen .link
  | .clearFault _ monitors => clearFaultRequest monitors
  | .readFaults _ => readFaultsRequest
  | .sweep _ wheels => sweepRequest wheels
  | .haltSweep _ => haltSweepRequest
  | .referenceSweep _ head => referenceRequest head
  | .readProfile _ wheel => readProfileRequest wheel
  | .plan _ => planRequest
  | .readPlan _ => readPlanRequest
  | .turn _ => turnRequest
  | .pause _ => pauseRequest
  | .resume _ => resumeRequest
  | .abort _ => abortRequest
  | .home _ head => homeRequest head
  | .indexEdge _ head => indexEdgeRequest head
  | .toolChanged _ head => toolChangedRequest head
  | .readHistory _ axleId start => readHistoryRequest axleId start
  | .listBogie _ bogieId => listBogieRequest bogieId
  | .retireAxle _ axleId => retireAxleRequest axleId
  | .correctHistory _ axleId diameterL diameterR => correctHistoryRequest axleId diameterL diameterR
  | .commit _ => commitRequest
  | .status _ => statusRequest
  | .resumeLink _ => resumeLinkRequest
  | .reset _ => resetRequest
  | .setSetting _ addr value => setSettingRequest addr value
  | .getSetting _ source addr => getSettingRequest source addr
  | .storeSettings _ autoload => storeSettingsRequest autoload
  | .loadSettings _ => loadSettingsRequest
  | .defaultSettings _ => defaultSettingsRequest
  | _ => say .unknownRequest

/-- The judgement of a frame (R171). -/
def judge (f : Frame) (s : State) : Answer :=
  match Decode.frame f with
  | .error code => say code s
  | .ok i => serve i s

/-- The KIND of the reply to a frame (R172). -/
def replyKind (kind : Byte) : Byte := if kind.toNat < 0x7F then kind + 0x80#8 else 0xFF#8

/-- The frame at the front of the receive queue is dispatched (R171). -/
def dispatchFront (s : State) : State :=
  if canDispatch s then
    match s.slp.queue with
    | [] => s
    | f :: rest => reply (replyKind f.kind) f.tag (judge f (s.modSlp fun p => { p with queue := rest }))
  else s

/-! ## The receiver (R168 to R170, R176) -/

/-- A good frame: into the queue or discarded, the silence timer restarted, the silence flag cleared (R170, R176,
R178). -/
def acceptFrame (f : Frame) (s : State) : State :=
  restartSilence (s.modSlp fun p =>
    { p with
      queue := if p.queue.length < Config.receivePlaces then p.queue ++ [f] else p.queue
      silenceFlag := false })

/-- The receiver returns to HUNTING. -/
def hunt (s : State) : State := s.modSlp fun p => { p with receiver := .hunting, gapTimer := none }

/-- The receiver goes on IN_FRAME with the bytes so far. -/
def inFrame (bytes : List Byte) (s : State) : State :=
  s.modSlp fun p => { p with receiver := .inFrame bytes, gapTimer := some Config.gapTime }

/-- The frame of the bytes from LEN to the last CRC byte; none where the CRC differs (9.1, R169). -/
def frameOf (bytes : List Byte) : Option Frame :=
  let n := bytes.length - 2
  if (crc16 (bytes.take n)).toNat = fromBe (bytes.drop n) then
    some ⟨bytes.getD 1 0#8, bytes.getD 2 0#8, (bytes.take n).drop 3⟩
  else none

/-- A byte inside a frame (R169). -/
def frameByte (bytes : List Byte) (value : Byte) (s : State) : State :=
  let now := bytes ++ [value]
  let len := (now.getD 0 0#8).toNat
  if Config.maxPayload < len then hunt s
  else if now.length < len + 5 then inFrame now s
  else
    match frameOf now with
    | some f => acceptFrame f (hunt s)
    | none => hunt s

/-- A byte arrives on the link (R169). -/
def byteArrived (value : Byte) (s : State) : State :=
  match s.slp.receiver with
  | .hunting => if value = 0xA5#8 then inFrame [] s else s
  | .inFrame bytes => frameByte bytes value s

/-- A line error, or the gap timer's expiry, discards a partial frame (R168, R169). -/
def discardPartial (s : State) : State :=
  match s.slp.receiver with
  | .hunting => s
  | .inFrame _ => hunt s

/-! ## The transmitter (R173, R174) -/

/-- The reply in the slot begins to be sent; its late fields are taken now (R172, R173). -/
def sendReply (s : State) : State :=
  match s.slp.replySlot with
  | none => s
  | some r => s.modSlp fun p => { p with replySlot := none, transmitter := .sendingReply (replyFrame s r) }

/-- A due report begins to be sent (R174). -/
def sendReport (s : State) : State :=
  if s.slp.reportDue then
    s.modSlp fun p => { p with reportDue := false, transmitter := .sendingReport (reportFrame s) }
  else s

/-- The transmitter is IDLE. -/
def lineFree (s : State) : Bool := s.slp.transmitter == .idle

/-- A frame ends, and the next begins by alternation (R173). -/
def frameEnded (s : State) : State :=
  match s.slp.transmitter with
  | .idle => s
  | .sendingReply _ =>
    let s := s.modSlp fun p => { p with transmitter := .idle, lastFrame := .reply }
    if s.slp.reportDue then sendReport s else sendReply s
  | .sendingReport _ =>
    let s := s.modSlp fun p => { p with transmitter := .idle, lastFrame := .report }
    if s.slp.replySlot.isSome then sendReply s else sendReport s

/-! ## The silence monitor (R36, R133, R177) -/

/-- What the expiry does in HOLD mode (R177). -/
def holdForSilence (s : State) : State :=
  let s := s.modSlp fun p => { p with silenceHold := true }
  let s := if liftMoving s then restLift .silence s else s
  let s := forSides (referenceFailed .silence) (sweepFail .silence s)
  if s.tcu.state = .runup ∨ s.tcu.state = .cutting then rundown (pauseTurning .silence s) else s

/-- The silence timer expires (R177). -/
def silenceExpiry (s : State) : State :=
  if s.slp.silenceTimer.isSome then
    let s := s.modSlp fun p => { p with silenceTimer := none, silenceFlag := true }
    match s.sst.active.silenceMode with
    | .report => s
    | .hold => holdForSilence s
  else s

/-! ## The commands -/

/-- STATUS (R175). -/
def execStatus (tag : Byte) (s : State) : Host.Outcome State Fault Refusal :=
  closed (answer 0x48#8 tag statusRequest) s

/-- RESUME_LINK (R178). -/
def execResumeLink (tag : Byte) (s : State) : Host.Outcome State Fault Refusal :=
  closed (answer 0x49#8 tag resumeLinkRequest) s

/-- RESET (R179). -/
def execReset (tag : Byte) (s : State) : Host.Outcome State Fault Refusal :=
  closed (answer 0x4A#8 tag resetRequest) s

/-- GOOD_FRAME (R170, R176). DESIGN CHOICE, log 61: a whole frame given as one command leaves a receiver that is IN_FRAME
as it is, with its partial frame and its gap timer. -/
def execGoodFrame (frame : Frame) (s : State) : Host.Outcome State Fault Refusal := closed (acceptFrame frame) s

/-- LINE_ERROR (R168). -/
def execLineError (s : State) : Host.Outcome State Fault Refusal := closed discardPartial s

/-- GAP_TIMER_EXPIRY (R169). -/
def execGapTimerExpiry (s : State) : Host.Outcome State Fault Refusal :=
  closed (fun s => if s.slp.gapTimer.isSome then discardPartial s else s) s

/-- BYTE_RECEIVED (R169). -/
def execByteReceived (value : Byte) (s : State) : Host.Outcome State Fault Refusal := closed (byteArrived value) s

/-- DISPATCH (R171). -/
def execDispatch (s : State) : Host.Outcome State Fault Refusal := closed dispatchFront s

/-- SENDING_REPLY (R173). -/
def execSendingReply (s : State) : Host.Outcome State Fault Refusal :=
  closed (fun s => if lineFree s then sendReply s else s) s

/-- SENDING_REPORT (R174). -/
def execSendingReport (s : State) : Host.Outcome State Fault Refusal :=
  closed (fun s => if lineFree s then sendReport s else s) s

/-- FRAME_SENT (R173). -/
def execFrameSent (s : State) : Host.Outcome State Fault Refusal := closed frameEnded s

/-- SILENCE_TIMER_EXPIRY (R177). -/
def execSilenceTimerExpiry (s : State) : Host.Outcome State Fault Refusal := closed silenceExpiry s

end Sys2Proof.Machine
end

