-- ==== Sys2Proof/Machine/Resets.lean ====
section
/-! DEFINITION. The three resets: power-on and pin reset (R188 and the tables of items of every chapter) and the effect of
a link RESET (R166, R180). Each block takes its values from the field lines as they stand at the end of the reset. -/

namespace Sys2Proof.Machine

/-! ## The Pit Interlock (01, table of items) -/

/-- A bridge takes its state from its end switches (R9). -/
def bridgeAfterReset (w : BridgeSwitches) : Bridge where
  state := if w.inMade && !w.outMade then .inLine else if w.outMade && !w.inMade then .out else .halted
  fault := w.inMade && w.outMade
  switches := w
  travelTimer := none
  lastOutcome := .none

/-- The Pit Interlock after any reset (R1, R9, R13, R15, R17). -/
def pilAfterReset (x : FieldLines) : Pil where
  seatState := if x.presence then .present else .vacant
  identity := none
  tagState := .none
  tagAttempts := 0
  tagId := none
  presence := x.presence
  bridge := x.bridges.map bridgeAfterReset
  owners := ⟨.link, .link, .link, .link⟩
  pitStop := x.pitStop
  clearToMove := false
  stamp := 0
  lastTag := .none

/-! ## The Bogie Lift Unit (02, table of items) -/

/-- A post after any reset: its sensors, and its zone afresh (R22). -/
def postAfterReset (st : Settings) (position load : Nat) : PostRecord :=
  ⟨position, postLoad load, zoneAfresh st (postLoad load), 0⟩

/-- A clamp takes its state from its switches (R40). -/
def clampAfterReset (w : ClampSwitches) : Clamp where
  state := if w.openMade && !w.closedMade then .opened else if w.closedMade && !w.openMade then .closed else .halted
  switches := w
  moveTimer := none
  timeout := false
  lastOutcome := .none

/-- The Bogie Lift Unit after any reset (R22, R23, R40). -/
def bluAfterReset (st : Settings) (x : FieldLines) : Blu where
  posts := Four.zipWith (postAfterReset st) x.positions x.loads
  lift := if x.positions.all (fun p => p ≤ Config.homeWindow) then .lowered else .holding
  kind := none
  target := (x.positions.p1 + x.positions.p2 + x.positions.p3 + x.positions.p4) / 4
  clamp := x.clamps.map clampAfterReset
  lastLift := .none

/-! ## The Fault Monitor Unit and the Gauge Bus Controller (R48, R80) -/

/-- The Fault Monitor Unit after any reset: every monitor QUIET with nothing counted (R48). -/
def fmuAfterReset : Fmu := ⟨.ofFn fun _ => .reset, false, 0⟩

/-- The Gauge Bus Controller after any reset, by the lines (R80). -/
def gbcAfterReset (busHigh : Bool) : Gbc where
  queue := []
  held := .both []
  bus := if busHigh then .idle else .observing
  run := none
  clockHeld := false
  waitTimer := none
  observation := if busHigh then none else some ⟨false, .both false, false⟩
  foreignFlag := !busHigh
  quietTimer := none
  recovery := []

/-! ## The Profile Measurement Unit (05, table of items) -/

/-- A rim sensor after any reset (R97). -/
def rimAfterReset : Option Int → Rim
  | some v => ⟨clampInt (-300) 600 v, .live, none⟩
  | none => ⟨Config.rimDefault, .defaulted, none⟩

/-- The Profile Measurement Unit after a reset, with the calibrations given. -/
def pmuAfterReset (calibration : Sides Calibration) (rims : Sides (Option Int)) : Pmu where
  phase := .idle
  selected := none
  settle := 0
  lastSweep := .none
  entrySkipped := false
  turnedSince := false
  head := calibration.map PmuHead.reset
  taken := .both none
  rim := rims.map rimAfterReset
  record := .both .none

/-! ## The Turning Control Unit (07, table of items) -/

/-- A head after any reset (R122, R139). -/
def headAfterReset (st : Settings) (tools : ToolCounters) (parked : Bool) (force : Nat) : Head where
  owner := .none
  position := if parked then .parked else .halted
  dest := none
  edgeCount := tools.edgeCount
  edgesUsed := tools.edgesUsed
  tool := tools.tool
  passIndex := none
  passStart := none
  feed := st.fStart
  zDone := none
  remaining := none
  force := saturate Config.forceMax force
  blankLeft := 0

/-- The Turning Control Unit after any reset, with the tool counters given (R120, R122). -/
def tcuAfterReset (st : Settings) (tools : Sides ToolCounters) (x : FieldLines) : Tcu :=
  let speed := (x.rollers.l + x.rollers.r) / 2
  { state := .idle
    spindle := if speed = 0 then .stopped else .rundown
    stopTimer := if speed = 0 then none else some Config.stopTime
    measuring := false
    rollerSpeed := speed
    runEvents := 0
    interval := 0
    head := ⟨headAfterReset st tools.l x.parked.l x.forces.l, headAfterReset st tools.r x.parked.r x.forces.r⟩
    progress := none
    revolutions := 0
    lastTurn := .none }

/-! ## The Settings Store (R188) -/

/-- The Settings Store after a power-on or pin reset (R186, R188). -/
def sstAfterReset (image : Option Image) : Sst where
  active := match image with | some i => if i.autoload then i.settings else .defaults | none => .defaults
  image := image
  snapshot := none
  store := .idle
  source := match image with | some i => if i.autoload then .image else .defaults | none => .defaults
  lastOutcome := .none

/-- The tool counters after a power-on or pin reset (R139, R188). -/
def toolsAfterReset : Option Image → Sides ToolCounters
  | some i => i.tools
  | none => .both .unknown

/-! ## The Axle History Store (R165, R166) -/

/-- The Axle History Store after a power-on or pin reset: LOADING over the nonvolatile slots (R165). -/
def ahsAfterReset (slots : List (Nat × Slot)) : Ahs where
  store := .loading
  slots := slots
  index := []
  cache := []
  queue := []
  commit := none
  link := .none
  opening := none
  storeFull := false
  lastCommit := .none
  scanLosses := 0

/-- The Axle History Store after a link RESET (R166). -/
def ahsAfterLinkReset (a : Ahs) : Ahs :=
  { a with
    index := a.index.filter fun e => e.slot.isSome
    cache := []
    queue := []
    commit := none
    link := .none
    opening := none
    storeFull := false
    lastCommit := .none }

/-! ## The Supervisor Link Port (09, table of items) -/

/-- The Supervisor Link Port after any reset, with its rate. -/
def slpAfterReset (rate : Rate) : Slp where
  rate := rate
  receiver := .hunting
  gapTimer := none
  queue := []
  replySlot := none
  transmitter := .idle
  lastFrame := .report
  reportDue := true
  silenceTimer := none
  silenceFlag := false
  silenceHold := false
  resetPending := false

/-- The rate of the strap (R168). -/
def rateOf (strapHigh : Bool) : Rate := if strapHigh then .baud460800 else .baud115200

/-! ## The resets -/

/-- What a reset leaves: every block from the settings in force, the tools, the calibrations, the history store, the
settings store, the link rate and the field lines. The tilt condition is handed from the positions (R33, R49). -/
def rebuilt (x : FieldLines) (sst : Sst) (tools : Sides ToolCounters) (calibration : Sides Calibration) (ahs : Ahs)
    (rate : Rate) (pending : List Instr) : State :=
  let s : State :=
    { pil := pilAfterReset x
      blu := bluAfterReset sst.active x
      fmu := fmuAfterReset
      gbc := gbcAfterReset x.busHigh
      pmu := pmuAfterReset calibration x.rims
      tpe := .reset
      tcu := tcuAfterReset sst.active tools x
      ahs := ahs
      sst := sst
      slp := slpAfterReset rate
      pending := pending }
  handCondition .m5 (tilted s) s

/-- A power-on or pin reset (R165, R186, R188). -/
def startUp (x : FieldLines) (s : State) : State :=
  rebuilt x (sstAfterReset s.sst.image) (toolsAfterReset s.sst.image) (.both .stale) (ahsAfterReset s.ahs.slots)
    (rateOf x.rateStrap) s.pending

/-- The transmitter is sending a reply. -/
def sendingReply (s : State) : Bool :=
  match s.slp.transmitter with
  | .sendingReply _ => true
  | _ => false

/-- The drain of the commit queue and of plan work has ended (R166). -/
def drained (s : State) : Bool := s.ahs.queue.isEmpty && s.ahs.commit.isNone && s.tpe.work == .idle

/-- A link RESET that has been taken may take effect (R180). -/
def resetReady (s : State) : Bool :=
  s.slp.resetPending && drained s && s.slp.replySlot.isNone && !sendingReply s

/-- A link RESET hands the head notices of an observation in progress, for the heads it has seen addressed (R80). -/
def resetNotices (s : State) : State :=
  match s.gbc.observation with
  | some o => forSides (fun side s => if o.addressed.get side then headNotice side s else s) s
  | none => s

/-- The tool counters of both heads (R139). -/
def keptTools (s : State) : Sides ToolCounters := s.tcu.head.map Head.tools

/-- A link RESET takes effect, or, before it may, nothing happens (R180). -/
def linkResetEffect (x : FieldLines) (s : State) : State :=
  if resetReady s then
    let s := resetNotices s
    rebuilt x { s.sst with snapshot := none, store := .idle, lastOutcome := .none } (keptTools s)
      (s.pmu.head.map PmuHead.calibration) (ahsAfterLinkReset s.ahs) s.slp.rate s.pending
  else s

/-! ## The commands -/

/-- POWER_ON_RESET (R188). -/
def execPowerOnReset (lines : FieldLines) (s : State) : Host.Outcome State Fault Refusal := closed (startUp lines) s

/-- PIN_RESET (R188). -/
def execPinReset (lines : FieldLines) (s : State) : Host.Outcome State Fault Refusal := closed (startUp lines) s

/-- LINK_RESET_EFFECT (R180). -/
def execLinkResetEffect (lines : FieldLines) (s : State) : Host.Outcome State Fault Refusal :=
  closed (linkResetEffect lines) s

end Sys2Proof.Machine
end

