-- ==== Sys2Proof/Machine/Dispatch.lean ====
section
/-! DEFINITION. One arm per command: each calls the meaning of its own. -/

namespace Sys2Proof.Machine

def exec (i : Instr) (s : State) : Host.Outcome State Fault Refusal :=
  match i with
  | .seatAxle tag axleId wheelType bogieId position force => Sys2Proof.Machine.execSeatAxle tag axleId wheelType bogieId position force s
  | .releaseAxle tag => Sys2Proof.Machine.execReleaseAxle tag s
  | .bridges tag direction => Sys2Proof.Machine.execBridges tag direction s
  | .source tag group owner => Sys2Proof.Machine.execSource tag group owner s
  | .setStamp tag stamp => Sys2Proof.Machine.execSetStamp tag stamp s
  | .lift tag height => Sys2Proof.Machine.execLift tag height s
  | .lower tag height => Sys2Proof.Machine.execLower tag height s
  | .takeLoad tag => Sys2Proof.Machine.execTakeLoad tag s
  | .haltLift tag => Sys2Proof.Machine.execHaltLift tag s
  | .clampClose tag => Sys2Proof.Machine.execClampClose tag s
  | .clampOpen tag => Sys2Proof.Machine.execClampOpen tag s
  | .clearFault tag monitors => Sys2Proof.Machine.execClearFault tag monitors s
  | .readFaults tag => Sys2Proof.Machine.execReadFaults tag s
  | .sweep tag wheels => Sys2Proof.Machine.execSweep tag wheels s
  | .haltSweep tag => Sys2Proof.Machine.execHaltSweep tag s
  | .referenceSweep tag head => Sys2Proof.Machine.execReferenceSweep tag head s
  | .readProfile tag wheel => Sys2Proof.Machine.execReadProfile tag wheel s
  | .plan tag => Sys2Proof.Machine.execPlan tag s
  | .readPlan tag => Sys2Proof.Machine.execReadPlan tag s
  | .turn tag => Sys2Proof.Machine.execTurn tag s
  | .pause tag => Sys2Proof.Machine.execPause tag s
  | .resume tag => Sys2Proof.Machine.execResume tag s
  | .abort tag => Sys2Proof.Machine.execAbort tag s
  | .home tag head => Sys2Proof.Machine.execHome tag head s
  | .indexEdge tag head => Sys2Proof.Machine.execIndexEdge tag head s
  | .toolChanged tag head => Sys2Proof.Machine.execToolChanged tag head s
  | .readHistory tag axleId start => Sys2Proof.Machine.execReadHistory tag axleId start s
  | .listBogie tag bogieId => Sys2Proof.Machine.execListBogie tag bogieId s
  | .retireAxle tag axleId => Sys2Proof.Machine.execRetireAxle tag axleId s
  | .correctHistory tag axleId diameterL diameterR => Sys2Proof.Machine.execCorrectHistory tag axleId diameterL diameterR s
  | .commit tag => Sys2Proof.Machine.execCommit tag s
  | .status tag => Sys2Proof.Machine.execStatus tag s
  | .resumeLink tag => Sys2Proof.Machine.execResumeLink tag s
  | .reset tag => Sys2Proof.Machine.execReset tag s
  | .setSetting tag addr value => Sys2Proof.Machine.execSetSetting tag addr value s
  | .getSetting tag source addr => Sys2Proof.Machine.execGetSetting tag source addr s
  | .storeSettings tag autoload => Sys2Proof.Machine.execStoreSettings tag autoload s
  | .loadSettings tag => Sys2Proof.Machine.execLoadSettings tag s
  | .defaultSettings tag => Sys2Proof.Machine.execDefaultSettings tag s
  | .powerOnReset lines => Sys2Proof.Machine.execPowerOnReset lines s
  | .pinReset lines => Sys2Proof.Machine.execPinReset lines s
  | .linkResetEffect lines => Sys2Proof.Machine.execLinkResetEffect lines s
  | .goodFrame frame => Sys2Proof.Machine.execGoodFrame frame s
  | .lineError => Sys2Proof.Machine.execLineError s
  | .gapTimerExpiry => Sys2Proof.Machine.execGapTimerExpiry s
  | .dispatch => Sys2Proof.Machine.execDispatch s
  | .sendingReply => Sys2Proof.Machine.execSendingReply s
  | .sendingReport => Sys2Proof.Machine.execSendingReport s
  | .frameSent => Sys2Proof.Machine.execFrameSent s
  | .silenceTimerExpiry => Sys2Proof.Machine.execSilenceTimerExpiry s
  | .presenceOn => Sys2Proof.Machine.execPresenceOn s
  | .presenceOff => Sys2Proof.Machine.execPresenceOff s
  | .tagReadBegin => Sys2Proof.Machine.execTagReadBegin s
  | .bridgeSwitchMade side bridgeEnd => Sys2Proof.Machine.execBridgeSwitchMade side bridgeEnd s
  | .bridgeSwitchDropped side bridgeEnd => Sys2Proof.Machine.execBridgeSwitchDropped side bridgeEnd s
  | .bridgeTravelTimerExpiry side => Sys2Proof.Machine.execBridgeTravelTimerExpiry side s
  | .pitStopAsserted => Sys2Proof.Machine.execPitStopAsserted s
  | .pitStopReleased => Sys2Proof.Machine.execPitStopReleased s
  | .pendantJogUp => Sys2Proof.Machine.execPendantJogUp s
  | .pendantJogDown => Sys2Proof.Machine.execPendantJogDown s
  | .pendantJogRelease button => Sys2Proof.Machine.execPendantJogRelease button s
  | .pendantClampsClose => Sys2Proof.Machine.execPendantClampsClose s
  | .pendantClampsOpen => Sys2Proof.Machine.execPendantClampsOpen s
  | .pendantBridgesIn => Sys2Proof.Machine.execPendantBridgesIn s
  | .pendantBridgesOut => Sys2Proof.Machine.execPendantBridgesOut s
  | .pendantHeadsHome => Sys2Proof.Machine.execPendantHeadsHome s
  | .liftControlPeriodExpiry positions loads => Sys2Proof.Machine.execLiftControlPeriodExpiry positions loads s
  | .loadChange post load positions => Sys2Proof.Machine.execLoadChange post load positions s
  | .clampSwitchMade side clampEnd => Sys2Proof.Machine.execClampSwitchMade side clampEnd s
  | .clampSwitchDropped side clampEnd => Sys2Proof.Machine.execClampSwitchDropped side clampEnd s
  | .clampMoveTimerExpiry side => Sys2Proof.Machine.execClampMoveTimerExpiry side s
  | .deglitchTimerExpiry monitor => Sys2Proof.Machine.execDeglitchTimerExpiry monitor s
  | .gaugeTransactionBegin => Sys2Proof.Machine.execGaugeTransactionBegin s
  | .gaugeTransactionEnd => Sys2Proof.Machine.execGaugeTransactionEnd s
  | .clockHold => Sys2Proof.Machine.execClockHold s
  | .clockRelease => Sys2Proof.Machine.execClockRelease s
  | .waitTimerExpiry => Sys2Proof.Machine.execWaitTimerExpiry s
  | .arbitrationLoss => Sys2Proof.Machine.execArbitrationLoss s
  | .unexpectedStartStop condition => Sys2Proof.Machine.execUnexpectedStartStop condition s
  | .foreignStart => Sys2Proof.Machine.execForeignStart s
  | .foreignStop => Sys2Proof.Machine.execForeignStop s
  | .quietTimerExpiry => Sys2Proof.Machine.execQuietTimerExpiry s
  | .resetObservationTimeout => Sys2Proof.Machine.execResetObservationTimeout s
  | .profileScanBegin => Sys2Proof.Machine.execProfileScanBegin s
  | .sweepExtractionDone => Sys2Proof.Machine.execSweepExtractionDone s
  | .rimTemperatureReading side value => Sys2Proof.Machine.execRimTemperatureReading side value s
  | .rimSensorFault side => Sys2Proof.Machine.execRimSensorFault side s
  | .rimHoldTimerExpiry side => Sys2Proof.Machine.execRimHoldTimerExpiry side s
  | .indexEvent interval forcesL forcesR => Sys2Proof.Machine.execIndexEvent interval forcesL forcesR s
  | .rollerSpeedChange pairL pairR => Sys2Proof.Machine.execRollerSpeedChange pairL pairR s
  | .forceReadingChange side value => Sys2Proof.Machine.execForceReadingChange side value s
  | .stopTimerExpiry => Sys2Proof.Machine.execStopTimerExpiry s
  | .headMoveEnd side parkSwitch => Sys2Proof.Machine.execHeadMoveEnd side parkSwitch s
  | .planComputationEnd => Sys2Proof.Machine.execPlanComputationEnd s
  | .recordOpenComplete => Sys2Proof.Machine.execRecordOpenComplete s
  | .commitBegin => Sys2Proof.Machine.execCommitBegin s
  | .slotWriteDone => Sys2Proof.Machine.execSlotWriteDone s
  | .commitVerifyDone agrees => Sys2Proof.Machine.execCommitVerifyDone agrees s
  | .startupScanEnd badChecks => Sys2Proof.Machine.execStartupScanEnd badChecks s
  | .settingsProgrammingBegin => Sys2Proof.Machine.execSettingsProgrammingBegin s
  | .settingsReadbackDone agrees => Sys2Proof.Machine.execSettingsReadbackDone agrees s
  | .byteReceived value => Sys2Proof.Machine.execByteReceived value s
  | .gaugeBusByte value ack => Sys2Proof.Machine.execGaugeBusByte value ack s

end Sys2Proof.Machine
end

