-- ==== Sys2Proof/Safety.lean ====
section
/-! DEFINITION. What a good state of the part is, in the terms that claims use: the laws of the part that the manual names,
as tests of State, and the words in which a claim says what a command left unchanged. -/

namespace Sys2Proof.Machine

/-! ## Laws of the part -/

/-- The monitors have acted on what they see and the clear-to-move line follows its five states: the form in which every
command leaves the part (R16, R49, R50). -/
def settled (s : State) : Bool := followClear (handConditions s) == s

/-- The law of R16: the line is asserted only while all five states hold, and then it is. -/
def lineLaw (s : State) : Bool := s.pil.clearToMove == clearInputs s

/-- The law of R45: while the spindle is RUNUP or AT_SPEED both clamps are CLOSED and both bridges OUT. -/
def spindleLaw (s : State) : Bool := !spindleRunning s || (bothClamps .closed s && bothBridges .out s)

/-- The bridge clearance height of a set of settings is in its range (2.8). -/
def clearanceInRange (st : Settings) : Bool := decide (10000 ≤ st.clearance) && decide (st.clearance ≤ 80000)

/-- Every set of settings the part holds has its clearance height in range: the active one, the image's, the
snapshot's. -/
def clearancesInRange (s : State) : Bool :=
  clearanceInRange s.sst.active &&
    (match s.sst.image with | some i => clearanceInRange i.settings | none => true) &&
    (match s.sst.snapshot with | some i => clearanceInRange i.settings | none => true)

/-- The law of R10: a rail bridge moves only while the lift is HOLDING with its mean at or above the clearance
height. -/
def bridgeLaw (s : State) : Bool :=
  !bridgesMoving s || (s.blu.lift == .holding && decide (s.sst.active.clearance ≤ mean s))

/-- The quotas of R67, by which the gauge queue never holds more than 8 transactions. -/
def quotaLaw (s : State) : Bool :=
  decide (heldBy (.pmu .l) s ≤ quota (.pmu .l)) && decide (heldBy (.pmu .r) s ≤ quota (.pmu .r)) &&
    decide (heldBy .pilTag s ≤ quota .pilTag)

/-- The receive queue holds at most 4 frames (R170). -/
def receiveLaw (s : State) : Bool := decide (s.slp.queue.length ≤ Config.receivePlaces)

/-- The nonvolatile slot array is in its canonical form: slot numbers strictly rising, each below 544 (8.3). -/
def slotLaw (s : State) : Bool := slotsWf s.ahs.slots

/-- The slot of the commit in progress lies in the array (R154). -/
def commitInArray (s : State) : Bool :=
  match s.ahs.commit with
  | some c => decide (c.slot < Config.slotCount)
  | none => true

/-- The entries of the record index stand in ascending order of axle ID, so that no ID has two (R147). -/
def idsRise : List IndexEntry → Bool
  | a :: b :: rest => idBefore a.axleId b.axleId && idsRise (b :: rest)
  | _ => true

/-- The axle IDs of the VALID slots of the array. -/
def validIds (slots : List (Nat × Slot)) : List AxleId :=
  slots.filterMap fun p => match p.2 with | .valid r => some r.axleId | _ => none

/-- Every VALID slot is the slot that the index gives for its axle ID (R147). -/
def validIndexed (s : State) : Bool :=
  s.ahs.slots.all fun p =>
    match p.2 with
    | .valid r => s.ahs.index.contains ⟨r.axleId, some p.1⟩
    | _ => true

/-- The slot that the index gives for an axle ID is VALID and holds the record of that ID (R147). -/
def indexedValid (s : State) : Bool :=
  s.ahs.index.all fun e =>
    match e.slot with
    | none => true
    | some n => match slotAt n s.ahs.slots with | some (.valid r) => r.axleId == e.axleId | _ => false

/-- The commit in progress is one of an open record that is COMMITTING, and its slot is WRITTEN with a record of that axle
ID (R154). -/
def commitLaw (s : State) : Bool :=
  match s.ahs.commit with
  | none => true
  | some c =>
    ((openFind c.axleId s).map OpenRecord.state) == some .committing &&
      (match slotAt c.slot s.ahs.slots with | some (.written r) => r.axleId == c.axleId | _ => false)

/-- A record that is created and waits to be opened is not open yet, and has no slot (R149). -/
def createdLaw (s : State) : Bool :=
  match s.ahs.opening with
  | none => true
  | some o =>
    match o.created with
    | none => true
    | some r =>
      r.axleId == o.axleId && !o.placed && !isOpen o.axleId s &&
        (match indexFind o.axleId s.ahs.index with | some e => e.slot.isNone | none => true)

/-- Before the start-up scan has ended nothing is indexed, open or waited for and no axle can be seated; the VALID slots
hold at most 512 records, of different axle IDs (R147, R165). -/
def loadingLaw (s : State) : Bool :=
  s.ahs.index.isEmpty && s.ahs.cache.isEmpty && s.ahs.commit.isNone && s.ahs.opening.isNone && s.pil.tagState == .none &&
    s.pil.seatState != .seated && decide (validIds s.ahs.slots).Nodup &&
    decide ((validIds s.ahs.slots).length ≤ Config.maxRecords)

/-- The law of R147: the history store never holds two records with the same axle ID, and never more than 512. With it
what it rests on: open records are indexed, and the index and the VALID slots give each other. -/
def storeLaw (s : State) : Bool :=
  idsRise s.ahs.index && decide (s.ahs.index.length ≤ Config.maxRecords) &&
    (s.ahs.cache.all fun o => (indexFind o.record.axleId s.ahs.index).isSome) && commitLaw s && createdLaw s &&
    (if s.ahs.store == .loading then loadingLaw s else validIndexed s && indexedValid s)

/-! ## Works that exclude one another -/

/-- A lift that does not move has no move kind (R23, R34). A sweep and a turning are never in progress together (R87, R124).
Plan work goes on only with no plan and no turning (R105, R106), and the opening that a mark waits for is there only while
marks are placed (R112, R117). -/
def workLaw (s : State) : Bool :=
  (liftMoving s || s.blu.kind.isNone) && !(sweepRunning s && turningInProgress s) &&
    (s.tpe.work == .idle || (s.tpe.plan.state == .none && !turningInProgress s)) &&
    (match s.ahs.opening with | some o => o.seating || s.tpe.work == .marking | none => true)

/-! ## The bytes of a gauge transaction (R66, R69 to R71) -/

/-- A transaction record has one of the two shapes of R66: a WRITE of 1 to 8 bytes that reads none, or a READ of 1 to 96
bytes with a select part of at most 8. -/
def Txn.shaped (t : Txn) : Bool :=
  decide (t.writeBytes.length ≤ 8) &&
    match t.direction with
    | .write => !t.writeBytes.isEmpty && t.readLength == 0
    | .read => decide (1 ≤ t.readLength) && decide (t.readLength ≤ 96)

/-- Bytes that the part sends, each acknowledged. -/
def sentLine (bytes : List Byte) : List LineEvent := bytes.map fun b => .sent b true

/-- Bytes that the part receives: it acknowledges each but the last (R71). -/
def readLine : List Byte → List LineEvent
  | [] => []
  | [b] => [.received b false]
  | b :: c :: rest => .received b true :: readLine (c :: rest)

/-- What stands on the lines before the read bytes, or before the STOP of a WRITE, where every byte has been acknowledged
(R66): the START, the address byte, the write bytes, and for a READ that has a select part the repeated START and the
address byte with direction 1. -/
def Txn.opening (t : Txn) : List LineEvent :=
  match t.direction, t.writeBytes with
  | .write, bytes => .start :: .sent (byte (2 * t.address)) true :: sentLine bytes
  | .read, [] => [.start, .sent (byte (2 * t.address + 1)) true]
  | .read, bytes =>
    (.start :: .sent (byte (2 * t.address)) true :: sentLine bytes) ++ [.start, .sent (byte (2 * t.address + 1)) true]

/-- What a transaction that ends OK has put on the lines, with the bytes read (R66). -/
def Txn.onBus (t : Txn) (data : List Byte) : List LineEvent := t.opening ++ readLine data ++ [.stop]

/-- What stands on the lines where a byte that the part sent was not acknowledged: that byte is the last, and the STOP
follows it at once (R69, R70). -/
def endsRefused (line : List LineEvent) : Bool :=
  match line.reverse with
  | .stop :: .sent _ false :: _ => true
  | _ => false

/-- The run of a transaction stands in the order of R66: its phase, what it has sent and received, and what stands on the
lines agree. -/
def runLaw (t : Txn) (r : Run) : Bool :=
  let addressed : List LineEvent := [.start, .sent (byte (2 * t.address)) true]
  match r.phase with
  | .address => r.line == [.start] && r.sent == 0 && r.received.isEmpty && r.result.isNone
  | .write =>
    r.line == addressed ++ sentLine (t.writeBytes.take r.sent) && decide (r.sent < t.writeBytes.length) &&
      r.received.isEmpty && r.result.isNone
  | .turn =>
    r.line == addressed ++ sentLine t.writeBytes ++ [.start] && t.direction == .read && !t.writeBytes.isEmpty &&
      r.received.isEmpty && r.result.isNone
  | .read =>
    r.line == t.opening ++ r.received.map (fun b => LineEvent.received b true) && t.direction == .read &&
      decide (r.received.length < t.readLength) && r.result.isNone
  | .closing =>
    match r.result with
    | some .ok => r.line == t.onBus r.received && r.received.length == t.readLength
    | some _ => endsRefused r.line
    | none => false

/-! ## Ranges and orders of the settings (10.1, 10.2, R182) -/

/-- The orders of R182 among the load thresholds, the band temperatures, the feeds and the flange limits of every wheel
type. -/
def settingsOrdered (st : Settings) : Bool :=
  decide (st.contact < st.bearing) && decide (st.bearing < st.overload) &&
    decide (st.ta ≤ st.tb) && decide (st.tb ≤ st.tc) &&
    decide (st.fMin ≤ st.fStart) && decide (st.fStart ≤ st.fMax) &&
    st.wheelTypes.all fun w => decide (w.tMin ≤ w.tMax)

/-- The value of a setting is one that its range, or its set of values, allows. -/
def settingInRange (st : Settings) (x : Setting) : Bool :=
  decide ((settingRange x).1 ≤ readSetting st x) && decide (readSetting st x ≤ (settingRange x).2) &&
    !badValue x (readSetting st x)

/-- The settings that exist once. -/
def singleSettings : List Setting :=
  [.liftSpeed, .kpLift, .liftMode, .contact, .bearing, .overload, .tiltLimit, .clearance, .clampMode, .clampTime,
    .scope .l, .scope .r, .slipBlanking, .toolBlanking .l, .toolBlanking .r, .forceLimit, .scanStep, .zTl, .gauge,
    .qOff, .rRef, .axleTol, .probeOffset .l, .probeOffset .r, .cMin, .finishDepth, .depthLimit, .bogieTol, .ta, .tb,
    .tc, .feedMode, .kpFeed, .fStart, .fMin, .fMax, .edgeLife, .edgesPerInsert, .silenceTimeout, .silenceMode]

/-- The settings of a monitor. -/
def monitorSettings (m : MonitorId) : List Setting := [.monitorMode m, .deglitch m]

/-- The settings of a temperature band. -/
def bandSettings (band : Band) : List Setting := [.aMax band, .bandSpeed band, .bandForce band]

/-- The fields of an entry of the wheel type table. -/
def wheelSettings (i : Nat) : List Setting :=
  [.wheel i .dNew, .wheel i .dScrap, .wheel i .profileIndex, .wheel i .hMax, .wheel i .tMin, .wheel i .tMax,
    .wheel i .qRMin, .wheel i .oorMax]

/-- The fields of an entry of the profile table. -/
def profileSettings (i : Nat) : List Setting := [.profile i .hT, .profile i .tT, .profile i .k, .profile i .lProf]

/-- Every setting of the part. -/
def allSettings : List (List Setting) :=
  singleSettings :: MonitorId.list.map monitorSettings ++ [Band.a, .b, .c, .d].map bandSettings ++
    (List.range 8).map wheelSettings ++ (List.range 4).map profileSettings

/-- A set of settings with its tables whole, every value in its range and every order kept. -/
def settingsGood (st : Settings) : Bool :=
  st.wheelTypes.length == 8 && st.profiles.length == 4 && settingsOrdered st && allSettings.all fun xs => xs.all (settingInRange st)

/-- Every set of settings the part holds is good: the active one, the image's, the snapshot's. -/
def settingsLaw (s : State) : Bool :=
  settingsGood s.sst.active &&
    (match s.sst.image with | some i => settingsGood i.settings | none => true) &&
    (match s.sst.snapshot with | some i => settingsGood i.settings | none => true)

/-! ## The figures of a profile, in the words of R94 and R95 -/

/-- `q` is `a / b` rounded to the nearest integer, a half away from zero (00_scope.md 5.2). -/
abbrev RoundsHalfAway (q a b : Int) : Prop :=
  2 * (b * q - a).natAbs ≤ b.natAbs ∧ (2 * (b * q - a).natAbs = b.natAbs → a.natAbs ≤ (b * q).natAbs)

/-- The taping line radius: that of the sample at the taping line, or interpolated between its neighbours (R94). The
rounding of the quotient is log entry 18's reading. -/
def IsTapingRadius (zTl : Int) (list : List (Int × Int)) (r : Int) : Prop :=
  (zTl, r) ∈ list ∨
    ∃ pre a b post q, list = pre ++ a :: b :: post ∧ a.1 < zTl ∧ zTl < b.1 ∧
      RoundsHalfAway q ((b.2 - a.2) * (zTl - a.1)) (b.1 - a.1) ∧ r = a.2 + q

/-- The flange tip: the largest radius, at the lowest z at which it occurs (R95). -/
def IsFlangeTip (list : List (Int × Int)) (tip : Int × Int) : Prop :=
  tip ∈ list ∧ ∀ x ∈ list, x.2 ≤ tip.2 ∧ (x.2 = tip.2 → tip.1 ≤ x.1)

/-- The radius falls through a level between two adjacent samples (R95). -/
abbrev Falls (level : Int) (a b : Int × Int) : Prop := level ≤ a.2 ∧ b.2 < level

/-- The z at which the profile, going from the flange tip toward the taping line, first falls through a level (R95). That
the pair lies at or before the taping line is log entry 19's choice. -/
def IsCrossing (level zTip zTl : Int) (list : List (Int × Int)) (z : Int) : Prop :=
  ∃ pre a b post q, list = pre ++ a :: b :: post ∧ zTip ≤ a.1 ∧ b.1 ≤ zTl ∧ Falls level a b ∧
    (∀ pre' x y post', list = pre' ++ x :: y :: post' → zTip ≤ x.1 → Falls level x y → a.1 ≤ x.1) ∧
    RoundsHalfAway q ((b.1 - a.1) * (a.2 - level)) (a.2 - b.2) ∧ z = a.1 + q

/-! ## What a command leaves behind -/

/-- A request can be served now, and the part is settled: the usual premise of a claim about a request. -/
def ready (s : State) : Bool := settled s && canDispatch s

/-- No monitor of a list waits in TRIPPED for its next stroke (R58). -/
def noneTripped (ms : List MonitorId) (s : State) : Bool := ms.all fun m => (s.fmu.monitors.get m).state != .tripped

/-- The deglitch timer of a monitor runs toward a trip, from DEGLITCH (R50), or toward a renewed one, from LATCHED or
TRIPPED (R51). -/
def tripDue (m : MonitorId) (s : State) : Bool :=
  let r := s.fmu.monitors.get m
  r.timer.isSome && (r.state == .deglitch || ((r.state == .latched || r.state == .tripped) && r.recurrence == .timing))

/-- Every monitor of a list that waits in TRIPPED made QUIET, as its next stroke makes it (R58). -/
def quieted (ms : List MonitorId) (s : State) : State :=
  s.modFmu fun u =>
    { u with monitors := .ofFn fun m =>
        let r := u.monitors.get m
        if ms.contains m && r.state == .tripped then { r with state := .quiet, timer := none, recurrence := .none }
        else r }

/-- A visit cannot end by the sensor now (R7). -/
def visitStays (s : State) : Bool := s.pil.seatState != .seated || s.pil.presence

/-- The report-due flag is raised where a field of the report has changed since `before` (R174). -/
def noted (before s : State) : State :=
  s.modSlp fun p => { p with reportDue := p.reportDue || decide (reportBody s ≠ reportBody before) }

/-- A reply stands in the reply slot. -/
def replied (kind tag : Byte) (body : ReplyBody) (s : State) : State :=
  s.modSlp fun p => { p with replySlot := some ⟨kind, tag, body⟩ }

/-- A reply that carries a result code alone. -/
def repliedCode (kind tag : Byte) (code : Code) (s : State) : State := replied kind tag (.fixed code []) s

/-! ## The moves that requests begin and ends -/

/-- Both bridges on their way to an end, or already there (R10). -/
def bridgesBegun (aim : BridgeEnd) (s : State) : State :=
  s.modPil fun p =>
    { p with bridge := p.bridge.map fun b =>
        if b.state = bridgeAt aim then b
        else { b with state := bridgeToward aim, fault := false, travelTimer := some 10000 } }

/-- A bridge that stands at an end of its travel with its switch made (R11). -/
def Bridge.arrived (b : Bridge) (at' : BridgeEnd) : Bridge :=
  { b with
    state := bridgeAt at'
    switches := putBridgeSwitch b.switches true at'
    travelTimer := none
    lastOutcome := .complete }

/-- A bridge whose end switch has been lost (R9). -/
def Bridge.lost (b : Bridge) (at' : BridgeEnd) : Bridge :=
  { b with
    state := .halted
    fault := true
    switches := putBridgeSwitch b.switches false at'
    lastOutcome := .switchLost }

/-- A lift that has begun to move, or has been redirected (R25 to R28, R30). -/
def liftStarted (lift : LiftState) (kind : MoveKind) (target : Nat) (s : State) : State :=
  s.modBlu fun b => { b with lift := lift, kind := some kind, target := target }

/-- A lift that has come to rest with an outcome (R23). -/
def liftRested (outcome : LiftOutcome) (s : State) : State :=
  s.modBlu fun b =>
    { b with
      lift := if allHome s then .lowered else .holding
      kind := none
      target := mean s
      posts := b.posts.map fun p => { p with step := 0 }
      lastLift := outcome }

/-- Both clamps on their way to an end, or already there (R38, R39). -/
def clampsBegun (aim : ClampEnd) (s : State) : State :=
  s.modBlu fun b =>
    { b with clamp := b.clamp.map fun c =>
        if c.state = clampAt aim then c
        else { c with state := clampToward aim, moveTimer := some (clampTimer s.sst.active), timeout := false } }

/-- A clamp at the end of its move (R41). -/
def Clamp.ended (c : Clamp) (outcome : ClampOutcome) : Clamp :=
  { c with state := clampAt c.goal, moveTimer := none, timeout := false, lastOutcome := outcome }

/-- A head that approaches its pass or cuts withdraws, its pass then INCOMPLETE; any other stays as it is (R132). -/
abbrev HeadWithdraws (side : Side) (s t : State) : Prop :=
  if (s.tcu.head.get side).approaching || (s.tcu.head.get side).position == .inCut then
    t.tcu.head.get side = (s.tcu.head.get side).moveTo .retracted ∧
    (passStatus side s = some .active → passStatus side t = some .incomplete)
  else t.tcu.head.get side = s.tcu.head.get side

/-- What a post that leaves BEARING leaves: a running sweep, and with it a measuring run, ended FAILED(SUPPORT) (R92); a
spindle that was RUNUP or AT_SPEED in RUNDOWN with its stop timer running, and any other as it was; and, with that
spindle and no sweep running, a turning in RUNUP, CUTTING or PAUSED now PAUSED with the cause LOAD, its heads withdrawing
(R37). DEDUCED, log 63: a sweep ends also with the spindle STOPPED or in RUNDOWN. -/
abbrev LoadLost (s t : State) : Prop :=
  (spindleRunning s = true → t.tcu.spindle = .rundown ∧ t.tcu.stopTimer = some 2000 ∧ t.tcu.measuring = false) ∧
  (spindleRunning s = false → t.tcu.spindle = s.tcu.spindle ∧ t.tcu.stopTimer = s.tcu.stopTimer) ∧
  (s.pmu.phase ≠ .idle →
    t.pmu.phase = .idle ∧ t.pmu.lastSweep = .failed .support ∧ t.tcu.measuring = false ∧
    ∀ side, t.pmu.record.get side =
      if swept side s then .failed .support (s.pmu.head.get side).staleDuring (s.pmu.head.get side).profile.length
      else s.pmu.record.get side) ∧
  (s.pmu.phase = .idle → spindleRunning s = true → turningLive s = true →
    t.tcu.state = .paused .load ∧ ∀ side, HeadWithdraws side s t)

/-- No post leaves BEARING as the loads become those given (R21). -/
abbrev BearingKept (loads : Four Nat) (s : State) : Prop :=
  ∀ post, (s.blu.posts.get post).zone = .bearing →
    zoneAfter s.sst.active .bearing (min (loads.get post) 30000) = .bearing

/-- The oldest gauge transaction is about to end, its STOP still to be sent: its record, those behind it, its result, and
the data handed with it (R71, R73). -/
def txnEnding (s : State) : Option (Txn × List Txn × TxnResult × List Byte) :=
  match s.gbc.bus, s.gbc.queue, s.gbc.run with
  | .running, t :: rest, some r =>
    match r.phase, r.result with
    | .closing, some result =>
      if s.gbc.clockHeld then none else some (t, rest, result, if result = .ok then r.received else [])
    | _, _ => none
  | _, _, _ => none

/-- The gauge bus with the oldest transaction of a queue begun, or idle where the queue is empty (R68). -/
def busWith (queue : List Txn) (g : Gbc) : Gbc :=
  { g with
    queue := queue
    bus := if queue.isEmpty then .idle else .running
    run := if queue.isEmpty then none else some ⟨.address, 0, [], none, [.start]⟩ }

end Sys2Proof.Machine
end

