-- ==== Sys2Proof/Laws/State.lean ====
section
/-! SUPPORT. The small lemmas of the state: one per block per update, and the getters of the small records. -/

namespace Sys2Proof

@[simp] theorem Sides.get_set_same {α : Type} (v : Sides α) (a : α) (x : Side) : (v.set a x).get x = a := by
  cases x <;> rfl

@[simp] theorem Sides.get_set_other {α : Type} (v : Sides α) (a : α) (x : Side) :
    (v.set a x.other).get x = v.get x := by
  cases x <;> rfl

@[simp] theorem Sides.get_both {α : Type} (a : α) (x : Side) : (Sides.both a).get x = a := by cases x <;> rfl

@[simp] theorem Sides.get_map {α β : Type} (f : α → β) (v : Sides α) (x : Side) : (v.map f).get x = f (v.get x) := by
  cases x <;> rfl

theorem Sides.set_get {α : Type} (v : Sides α) (x : Side) : v.set (v.get x) x = v := by cases x <;> rfl

@[simp] theorem PerMonitor.get_ofFn {α : Type} (f : MonitorId → α) (m : MonitorId) : (PerMonitor.ofFn f).get m = f m := by
  cases m <;> rfl

@[simp] theorem PerMonitor.get_set_same {α : Type} (v : PerMonitor α) (a : α) (m : MonitorId) : (v.set a m).get m = a := by
  cases m <;> rfl

theorem PerMonitor.get_set_ne {α : Type} (v : PerMonitor α) (a : α) (m n : MonitorId) (h : n ≠ m) :
    (v.set a m).get n = v.get n := by
  cases m <;> cases n <;> first | rfl | exact absurd rfl h

/-- Two records with the same entry for every monitor are the same record. -/
theorem PerMonitor.ext_get {α : Type} {v w : PerMonitor α} (h : ∀ m, v.get m = w.get m) : v = w := by
  cases v; cases w
  simp only [PerMonitor.mk.injEq]
  exact ⟨h .m1, h .m2, h .m3, h .m4, h .m5, h .m6, h .m7, h .m8, h .m9, h .m10, h .m11, h .m12, h .m13⟩

namespace Machine

/-! ## One update per block -/

@[simp] theorem State.modPil_pil (f : Pil → Pil) (s : State) : (s.modPil f).pil = f s.pil := rfl
@[simp] theorem State.modPil_blu (f : Pil → Pil) (s : State) : (s.modPil f).blu = s.blu := rfl
@[simp] theorem State.modPil_fmu (f : Pil → Pil) (s : State) : (s.modPil f).fmu = s.fmu := rfl
@[simp] theorem State.modPil_gbc (f : Pil → Pil) (s : State) : (s.modPil f).gbc = s.gbc := rfl
@[simp] theorem State.modPil_pmu (f : Pil → Pil) (s : State) : (s.modPil f).pmu = s.pmu := rfl
@[simp] theorem State.modPil_tpe (f : Pil → Pil) (s : State) : (s.modPil f).tpe = s.tpe := rfl
@[simp] theorem State.modPil_tcu (f : Pil → Pil) (s : State) : (s.modPil f).tcu = s.tcu := rfl
@[simp] theorem State.modPil_ahs (f : Pil → Pil) (s : State) : (s.modPil f).ahs = s.ahs := rfl
@[simp] theorem State.modPil_sst (f : Pil → Pil) (s : State) : (s.modPil f).sst = s.sst := rfl
@[simp] theorem State.modPil_slp (f : Pil → Pil) (s : State) : (s.modPil f).slp = s.slp := rfl
@[simp] theorem State.modPil_pending (f : Pil → Pil) (s : State) : (s.modPil f).pending = s.pending := rfl

@[simp] theorem State.modBlu_pil (f : Blu → Blu) (s : State) : (s.modBlu f).pil = s.pil := rfl
@[simp] theorem State.modBlu_blu (f : Blu → Blu) (s : State) : (s.modBlu f).blu = f s.blu := rfl
@[simp] theorem State.modBlu_fmu (f : Blu → Blu) (s : State) : (s.modBlu f).fmu = s.fmu := rfl
@[simp] theorem State.modBlu_gbc (f : Blu → Blu) (s : State) : (s.modBlu f).gbc = s.gbc := rfl
@[simp] theorem State.modBlu_pmu (f : Blu → Blu) (s : State) : (s.modBlu f).pmu = s.pmu := rfl
@[simp] theorem State.modBlu_tpe (f : Blu → Blu) (s : State) : (s.modBlu f).tpe = s.tpe := rfl
@[simp] theorem State.modBlu_tcu (f : Blu → Blu) (s : State) : (s.modBlu f).tcu = s.tcu := rfl
@[simp] theorem State.modBlu_ahs (f : Blu → Blu) (s : State) : (s.modBlu f).ahs = s.ahs := rfl
@[simp] theorem State.modBlu_sst (f : Blu → Blu) (s : State) : (s.modBlu f).sst = s.sst := rfl
@[simp] theorem State.modBlu_slp (f : Blu → Blu) (s : State) : (s.modBlu f).slp = s.slp := rfl
@[simp] theorem State.modBlu_pending (f : Blu → Blu) (s : State) : (s.modBlu f).pending = s.pending := rfl

@[simp] theorem State.modFmu_pil (f : Fmu → Fmu) (s : State) : (s.modFmu f).pil = s.pil := rfl
@[simp] theorem State.modFmu_blu (f : Fmu → Fmu) (s : State) : (s.modFmu f).blu = s.blu := rfl
@[simp] theorem State.modFmu_fmu (f : Fmu → Fmu) (s : State) : (s.modFmu f).fmu = f s.fmu := rfl
@[simp] theorem State.modFmu_gbc (f : Fmu → Fmu) (s : State) : (s.modFmu f).gbc = s.gbc := rfl
@[simp] theorem State.modFmu_pmu (f : Fmu → Fmu) (s : State) : (s.modFmu f).pmu = s.pmu := rfl
@[simp] theorem State.modFmu_tpe (f : Fmu → Fmu) (s : State) : (s.modFmu f).tpe = s.tpe := rfl
@[simp] theorem State.modFmu_tcu (f : Fmu → Fmu) (s : State) : (s.modFmu f).tcu = s.tcu := rfl
@[simp] theorem State.modFmu_ahs (f : Fmu → Fmu) (s : State) : (s.modFmu f).ahs = s.ahs := rfl
@[simp] theorem State.modFmu_sst (f : Fmu → Fmu) (s : State) : (s.modFmu f).sst = s.sst := rfl
@[simp] theorem State.modFmu_slp (f : Fmu → Fmu) (s : State) : (s.modFmu f).slp = s.slp := rfl
@[simp] theorem State.modFmu_pending (f : Fmu → Fmu) (s : State) : (s.modFmu f).pending = s.pending := rfl

@[simp] theorem State.modGbc_pil (f : Gbc → Gbc) (s : State) : (s.modGbc f).pil = s.pil := rfl
@[simp] theorem State.modGbc_blu (f : Gbc → Gbc) (s : State) : (s.modGbc f).blu = s.blu := rfl
@[simp] theorem State.modGbc_fmu (f : Gbc → Gbc) (s : State) : (s.modGbc f).fmu = s.fmu := rfl
@[simp] theorem State.modGbc_gbc (f : Gbc → Gbc) (s : State) : (s.modGbc f).gbc = f s.gbc := rfl
@[simp] theorem State.modGbc_pmu (f : Gbc → Gbc) (s : State) : (s.modGbc f).pmu = s.pmu := rfl
@[simp] theorem State.modGbc_tpe (f : Gbc → Gbc) (s : State) : (s.modGbc f).tpe = s.tpe := rfl
@[simp] theorem State.modGbc_tcu (f : Gbc → Gbc) (s : State) : (s.modGbc f).tcu = s.tcu := rfl
@[simp] theorem State.modGbc_ahs (f : Gbc → Gbc) (s : State) : (s.modGbc f).ahs = s.ahs := rfl
@[simp] theorem State.modGbc_sst (f : Gbc → Gbc) (s : State) : (s.modGbc f).sst = s.sst := rfl
@[simp] theorem State.modGbc_slp (f : Gbc → Gbc) (s : State) : (s.modGbc f).slp = s.slp := rfl
@[simp] theorem State.modGbc_pending (f : Gbc → Gbc) (s : State) : (s.modGbc f).pending = s.pending := rfl

@[simp] theorem State.modPmu_pil (f : Pmu → Pmu) (s : State) : (s.modPmu f).pil = s.pil := rfl
@[simp] theorem State.modPmu_blu (f : Pmu → Pmu) (s : State) : (s.modPmu f).blu = s.blu := rfl
@[simp] theorem State.modPmu_fmu (f : Pmu → Pmu) (s : State) : (s.modPmu f).fmu = s.fmu := rfl
@[simp] theorem State.modPmu_gbc (f : Pmu → Pmu) (s : State) : (s.modPmu f).gbc = s.gbc := rfl
@[simp] theorem State.modPmu_pmu (f : Pmu → Pmu) (s : State) : (s.modPmu f).pmu = f s.pmu := rfl
@[simp] theorem State.modPmu_tpe (f : Pmu → Pmu) (s : State) : (s.modPmu f).tpe = s.tpe := rfl
@[simp] theorem State.modPmu_tcu (f : Pmu → Pmu) (s : State) : (s.modPmu f).tcu = s.tcu := rfl
@[simp] theorem State.modPmu_ahs (f : Pmu → Pmu) (s : State) : (s.modPmu f).ahs = s.ahs := rfl
@[simp] theorem State.modPmu_sst (f : Pmu → Pmu) (s : State) : (s.modPmu f).sst = s.sst := rfl
@[simp] theorem State.modPmu_slp (f : Pmu → Pmu) (s : State) : (s.modPmu f).slp = s.slp := rfl
@[simp] theorem State.modPmu_pending (f : Pmu → Pmu) (s : State) : (s.modPmu f).pending = s.pending := rfl

@[simp] theorem State.modTpe_pil (f : Tpe → Tpe) (s : State) : (s.modTpe f).pil = s.pil := rfl
@[simp] theorem State.modTpe_blu (f : Tpe → Tpe) (s : State) : (s.modTpe f).blu = s.blu := rfl
@[simp] theorem State.modTpe_fmu (f : Tpe → Tpe) (s : State) : (s.modTpe f).fmu = s.fmu := rfl
@[simp] theorem State.modTpe_gbc (f : Tpe → Tpe) (s : State) : (s.modTpe f).gbc = s.gbc := rfl
@[simp] theorem State.modTpe_pmu (f : Tpe → Tpe) (s : State) : (s.modTpe f).pmu = s.pmu := rfl
@[simp] theorem State.modTpe_tpe (f : Tpe → Tpe) (s : State) : (s.modTpe f).tpe = f s.tpe := rfl
@[simp] theorem State.modTpe_tcu (f : Tpe → Tpe) (s : State) : (s.modTpe f).tcu = s.tcu := rfl
@[simp] theorem State.modTpe_ahs (f : Tpe → Tpe) (s : State) : (s.modTpe f).ahs = s.ahs := rfl
@[simp] theorem State.modTpe_sst (f : Tpe → Tpe) (s : State) : (s.modTpe f).sst = s.sst := rfl
@[simp] theorem State.modTpe_slp (f : Tpe → Tpe) (s : State) : (s.modTpe f).slp = s.slp := rfl
@[simp] theorem State.modTpe_pending (f : Tpe → Tpe) (s : State) : (s.modTpe f).pending = s.pending := rfl

@[simp] theorem State.modTcu_pil (f : Tcu → Tcu) (s : State) : (s.modTcu f).pil = s.pil := rfl
@[simp] theorem State.modTcu_blu (f : Tcu → Tcu) (s : State) : (s.modTcu f).blu = s.blu := rfl
@[simp] theorem State.modTcu_fmu (f : Tcu → Tcu) (s : State) : (s.modTcu f).fmu = s.fmu := rfl
@[simp] theorem State.modTcu_gbc (f : Tcu → Tcu) (s : State) : (s.modTcu f).gbc = s.gbc := rfl
@[simp] theorem State.modTcu_pmu (f : Tcu → Tcu) (s : State) : (s.modTcu f).pmu = s.pmu := rfl
@[simp] theorem State.modTcu_tpe (f : Tcu → Tcu) (s : State) : (s.modTcu f).tpe = s.tpe := rfl
@[simp] theorem State.modTcu_tcu (f : Tcu → Tcu) (s : State) : (s.modTcu f).tcu = f s.tcu := rfl
@[simp] theorem State.modTcu_ahs (f : Tcu → Tcu) (s : State) : (s.modTcu f).ahs = s.ahs := rfl
@[simp] theorem State.modTcu_sst (f : Tcu → Tcu) (s : State) : (s.modTcu f).sst = s.sst := rfl
@[simp] theorem State.modTcu_slp (f : Tcu → Tcu) (s : State) : (s.modTcu f).slp = s.slp := rfl
@[simp] theorem State.modTcu_pending (f : Tcu → Tcu) (s : State) : (s.modTcu f).pending = s.pending := rfl

@[simp] theorem State.modAhs_pil (f : Ahs → Ahs) (s : State) : (s.modAhs f).pil = s.pil := rfl
@[simp] theorem State.modAhs_blu (f : Ahs → Ahs) (s : State) : (s.modAhs f).blu = s.blu := rfl
@[simp] theorem State.modAhs_fmu (f : Ahs → Ahs) (s : State) : (s.modAhs f).fmu = s.fmu := rfl
@[simp] theorem State.modAhs_gbc (f : Ahs → Ahs) (s : State) : (s.modAhs f).gbc = s.gbc := rfl
@[simp] theorem State.modAhs_pmu (f : Ahs → Ahs) (s : State) : (s.modAhs f).pmu = s.pmu := rfl
@[simp] theorem State.modAhs_tpe (f : Ahs → Ahs) (s : State) : (s.modAhs f).tpe = s.tpe := rfl
@[simp] theorem State.modAhs_tcu (f : Ahs → Ahs) (s : State) : (s.modAhs f).tcu = s.tcu := rfl
@[simp] theorem State.modAhs_ahs (f : Ahs → Ahs) (s : State) : (s.modAhs f).ahs = f s.ahs := rfl
@[simp] theorem State.modAhs_sst (f : Ahs → Ahs) (s : State) : (s.modAhs f).sst = s.sst := rfl
@[simp] theorem State.modAhs_slp (f : Ahs → Ahs) (s : State) : (s.modAhs f).slp = s.slp := rfl
@[simp] theorem State.modAhs_pending (f : Ahs → Ahs) (s : State) : (s.modAhs f).pending = s.pending := rfl

@[simp] theorem State.modSst_pil (f : Sst → Sst) (s : State) : (s.modSst f).pil = s.pil := rfl
@[simp] theorem State.modSst_blu (f : Sst → Sst) (s : State) : (s.modSst f).blu = s.blu := rfl
@[simp] theorem State.modSst_fmu (f : Sst → Sst) (s : State) : (s.modSst f).fmu = s.fmu := rfl
@[simp] theorem State.modSst_gbc (f : Sst → Sst) (s : State) : (s.modSst f).gbc = s.gbc := rfl
@[simp] theorem State.modSst_pmu (f : Sst → Sst) (s : State) : (s.modSst f).pmu = s.pmu := rfl
@[simp] theorem State.modSst_tpe (f : Sst → Sst) (s : State) : (s.modSst f).tpe = s.tpe := rfl
@[simp] theorem State.modSst_tcu (f : Sst → Sst) (s : State) : (s.modSst f).tcu = s.tcu := rfl
@[simp] theorem State.modSst_ahs (f : Sst → Sst) (s : State) : (s.modSst f).ahs = s.ahs := rfl
@[simp] theorem State.modSst_sst (f : Sst → Sst) (s : State) : (s.modSst f).sst = f s.sst := rfl
@[simp] theorem State.modSst_slp (f : Sst → Sst) (s : State) : (s.modSst f).slp = s.slp := rfl
@[simp] theorem State.modSst_pending (f : Sst → Sst) (s : State) : (s.modSst f).pending = s.pending := rfl

@[simp] theorem State.modSlp_pil (f : Slp → Slp) (s : State) : (s.modSlp f).pil = s.pil := rfl
@[simp] theorem State.modSlp_blu (f : Slp → Slp) (s : State) : (s.modSlp f).blu = s.blu := rfl
@[simp] theorem State.modSlp_fmu (f : Slp → Slp) (s : State) : (s.modSlp f).fmu = s.fmu := rfl
@[simp] theorem State.modSlp_gbc (f : Slp → Slp) (s : State) : (s.modSlp f).gbc = s.gbc := rfl
@[simp] theorem State.modSlp_pmu (f : Slp → Slp) (s : State) : (s.modSlp f).pmu = s.pmu := rfl
@[simp] theorem State.modSlp_tpe (f : Slp → Slp) (s : State) : (s.modSlp f).tpe = s.tpe := rfl
@[simp] theorem State.modSlp_tcu (f : Slp → Slp) (s : State) : (s.modSlp f).tcu = s.tcu := rfl
@[simp] theorem State.modSlp_ahs (f : Slp → Slp) (s : State) : (s.modSlp f).ahs = s.ahs := rfl
@[simp] theorem State.modSlp_sst (f : Slp → Slp) (s : State) : (s.modSlp f).sst = s.sst := rfl
@[simp] theorem State.modSlp_slp (f : Slp → Slp) (s : State) : (s.modSlp f).slp = f s.slp := rfl
@[simp] theorem State.modSlp_pending (f : Slp → Slp) (s : State) : (s.modSlp f).pending = s.pending := rfl

/-! ## The queue -/

@[simp] theorem State.withPending_pil (q : List Instr) (s : State) : (s.withPending q).pil = s.pil := rfl
@[simp] theorem State.withPending_blu (q : List Instr) (s : State) : (s.withPending q).blu = s.blu := rfl
@[simp] theorem State.withPending_fmu (q : List Instr) (s : State) : (s.withPending q).fmu = s.fmu := rfl
@[simp] theorem State.withPending_gbc (q : List Instr) (s : State) : (s.withPending q).gbc = s.gbc := rfl
@[simp] theorem State.withPending_pmu (q : List Instr) (s : State) : (s.withPending q).pmu = s.pmu := rfl
@[simp] theorem State.withPending_tpe (q : List Instr) (s : State) : (s.withPending q).tpe = s.tpe := rfl
@[simp] theorem State.withPending_tcu (q : List Instr) (s : State) : (s.withPending q).tcu = s.tcu := rfl
@[simp] theorem State.withPending_ahs (q : List Instr) (s : State) : (s.withPending q).ahs = s.ahs := rfl
@[simp] theorem State.withPending_sst (q : List Instr) (s : State) : (s.withPending q).sst = s.sst := rfl
@[simp] theorem State.withPending_slp (q : List Instr) (s : State) : (s.withPending q).slp = s.slp := rfl
@[simp] theorem State.withPending_pending (q : List Instr) (s : State) : (s.withPending q).pending = q := rfl

end Machine

end Sys2Proof
end

