-- ==== Sys2Proof/Laws/Close.lean ====
section
/-! SUPPORT. The end of a step: what `close` keeps, that it leaves the part settled, and that a settled part is not changed
by it. -/

namespace Sys2Proof.Machine

/-! ## Handing the conditions and following the line -/

/-- The part after the monitors have acted and the line has followed (R16, R49). -/
def reviewAll (s : State) : State := followClear (handConditions s)

@[simp] theorem reviewAll_blu (s : State) : (reviewAll s).blu = s.blu := rfl
@[simp] theorem reviewAll_gbc (s : State) : (reviewAll s).gbc = s.gbc := rfl
@[simp] theorem reviewAll_pmu (s : State) : (reviewAll s).pmu = s.pmu := rfl
@[simp] theorem reviewAll_tpe (s : State) : (reviewAll s).tpe = s.tpe := rfl
@[simp] theorem reviewAll_tcu (s : State) : (reviewAll s).tcu = s.tcu := rfl
@[simp] theorem reviewAll_ahs (s : State) : (reviewAll s).ahs = s.ahs := rfl
@[simp] theorem reviewAll_sst (s : State) : (reviewAll s).sst = s.sst := rfl
@[simp] theorem reviewAll_slp (s : State) : (reviewAll s).slp = s.slp := rfl
@[simp] theorem reviewAll_pending (s : State) : (reviewAll s).pending = s.pending := rfl
theorem reviewAll_pil (s : State) : (reviewAll s).pil = { s.pil with clearToMove := clearInputs s } := rfl
theorem reviewAll_fmu (s : State) : (reviewAll s).fmu = { s.fmu with monitors := .ofFn (reviewed s) } := rfl

theorem settled_iff (s : State) : settled s = true ↔ reviewAll s = s := by
  simp [settled, reviewAll]

/-- The monitor state machine has nothing more to do on a record it has just acted on. -/
theorem settleMonitor_idem (t u : Nat) (seen : Bool) (m : Monitor) :
    settleMonitor u seen (settleMonitor t seen m) = settleMonitor t seen m := by
  obtain ⟨st, c, cond, tm, rec⟩ := m
  cases st <;> cases seen <;> cases rec <;> rfl

@[simp] theorem settleMonitor_condition (t : Nat) (seen : Bool) (m : Monitor) :
    (settleMonitor t seen m).condition = m.condition := by
  obtain ⟨st, c, cond, tm, rec⟩ := m
  cases st <;> cases seen <;> cases rec <;> rfl

/-- The record kept for a monitor holds the condition its owner hands (R49). -/
theorem reviewed_condition (s : State) (m : MonitorId) : (reviewed s m).condition = ownerCondition s m := by
  simp [reviewed]

theorem reviewAll_get (s : State) (m : MonitorId) : (reviewAll s).fmu.monitors.get m = reviewed s m := by
  simp [reviewAll_fmu]

/-- A second review finds the conditions as the first has handed them. -/
theorem ownerCondition_reviewAll (s : State) (m : MonitorId) : ownerCondition (reviewAll s) m = ownerCondition s m := by
  cases m
  case m5 => exact reviewed_condition s .m5
  case m11 => exact reviewed_condition s .m11
  case m12 => exact reviewed_condition s .m12
  all_goals rfl

theorem sees_reviewAll (s : State) (m : MonitorId) (c : Bool) : sees (reviewAll s) m c = sees s m c := by
  cases m <;> rfl

theorem reviewed_reviewAll (s : State) (m : MonitorId) : reviewed (reviewAll s) m = reviewed s m := by
  rw [reviewed, ownerCondition_reviewAll, sees_reviewAll, reviewAll_get]
  show settleMonitor _ _ { reviewed s m with condition := ownerCondition s m } = _
  rw [show { reviewed s m with condition := ownerCondition s m } = reviewed s m by rw [← reviewed_condition]]
  exact settleMonitor_idem ..

theorem reviewAll_reviewAll (s : State) : reviewAll (reviewAll s) = reviewAll s := by
  show followClear (handConditions (reviewAll s)) = _
  have h : handConditions (reviewAll s) = reviewAll s := by
    show { reviewAll s with fmu := { (reviewAll s).fmu with monitors := .ofFn (reviewed (reviewAll s)) } } = reviewAll s
    rw [show reviewed (reviewAll s) = reviewed s from funext (reviewed_reviewAll s)]
    rfl
  rw [h]
  rfl

/-! ## The end of a step -/

/-- The report does not carry its own flag. -/
theorem reportBody_reportDue (s : State) (b : Bool) :
    reportBody (s.modSlp fun p => { p with reportDue := b }) = reportBody s := rfl

theorem close_eq (before s : State) :
    close before s =
      (reviewAll s).modSlp fun p =>
        { p with reportDue := p.reportDue || decide (reportBody (reviewAll s) ≠ reportBody before) } := by
  show (if reportBody (reviewAll s) = reportBody before then reviewAll s
    else (reviewAll s).modSlp fun p => { p with reportDue := true }) = _
  split
  · next h => simp only [h, ne_eq, not_true_eq_false, decide_false, Bool.or_false]; rfl
  · next h => simp only [h, ne_eq, not_false_eq_true, decide_true, Bool.or_true]

@[simp] theorem close_blu (b s : State) : (close b s).blu = s.blu := by simp [close_eq]
@[simp] theorem close_gbc (b s : State) : (close b s).gbc = s.gbc := by simp [close_eq]
@[simp] theorem close_pmu (b s : State) : (close b s).pmu = s.pmu := by simp [close_eq]
@[simp] theorem close_tpe (b s : State) : (close b s).tpe = s.tpe := by simp [close_eq]
@[simp] theorem close_tcu (b s : State) : (close b s).tcu = s.tcu := by simp [close_eq]
@[simp] theorem close_ahs (b s : State) : (close b s).ahs = s.ahs := by simp [close_eq]
@[simp] theorem close_sst (b s : State) : (close b s).sst = s.sst := by simp [close_eq]
@[simp] theorem close_pending (b s : State) : (close b s).pending = s.pending := by simp [close_eq]

theorem close_pil (b s : State) : (close b s).pil = { s.pil with clearToMove := clearInputs s } := by
  simp [close_eq, reviewAll_pil]

theorem close_fmu (b s : State) : (close b s).fmu = { s.fmu with monitors := .ofFn (reviewed s) } := by
  simp [close_eq, reviewAll_fmu]

theorem close_slp (b s : State) :
    (close b s).slp =
      { s.slp with reportDue := s.slp.reportDue || decide (reportBody (reviewAll s) ≠ reportBody b) } := by
  simp [close_eq]

/-- The report-due flag has no part in the review. -/
theorem reviewAll_reportDue (d : Bool) (s : State) :
    reviewAll (s.modSlp fun p => { p with reportDue := p.reportDue || d }) =
      (reviewAll s).modSlp fun p => { p with reportDue := p.reportDue || d } := rfl

/-- Every command leaves the part settled (R16, R49). -/
theorem settled_close (b s : State) : settled (close b s) = true := by
  rw [settled_iff, close_eq, reviewAll_reportDue, reviewAll_reviewAll]

/-- A settled part is only changed by `close` in its report-due flag. -/
theorem close_settled (b s : State) (h : settled s = true) :
    close b s = s.modSlp fun p => { p with reportDue := p.reportDue || decide (reportBody s ≠ reportBody b) } := by
  rw [close_eq, (settled_iff s).1 h]

/-- Where nothing that the report carries has changed, a settled part is not changed at all. -/
theorem close_settled_same (b s : State) (h : settled s = true) (hr : reportBody s = reportBody b) :
    close b s = s := by
  rw [close_settled b s h]
  simp [hr, State.modSlp]

/-! ## Every command is closed -/

/-- The effect of a command before the end of its step. -/
def effectOf : Instr → State → State
  | .seatAxle tag axleId wheelType bogieId position force => answer 0x01#8 tag (seatAxleRequest axleId wheelType bogieId position force)
  | .releaseAxle tag => answer 0x02#8 tag releaseAxleRequest
  | .bridges tag direction => answer 0x03#8 tag (bridgesRequest direction)
  | .source tag group owner => answer 0x04#8 tag (sourceRequest group owner)
  | .setStamp tag stamp => answer 0x05#8 tag (setStampRequest stamp)
  | .lift tag height => answer 0x10#8 tag (liftRequest height)
  | .lower tag height => answer 0x12#8 tag (lowerRequest height)
  | .takeLoad tag => answer 0x11#8 tag takeLoadRequest
  | .haltLift tag => answer 0x13#8 tag haltLiftRequest
  | .clampClose tag => answer 0x14#8 tag (clampsClose .link)
  | .clampOpen tag => answer 0x15#8 tag (clampsOpen .link)
  | .clearFault tag monitors => answer 0x20#8 tag (clearFaultRequest monitors)
  | .readFaults tag => answer 0x21#8 tag readFaultsRequest
  | .sweep tag wheels => answer 0x28#8 tag (sweepRequest wheels)
  | .haltSweep tag => answer 0x29#8 tag haltSweepRequest
  | .referenceSweep tag head => answer 0x2A#8 tag (referenceRequest head)
  | .readProfile tag wheel => answer 0x2B#8 tag (readProfileRequest wheel)
  | .plan tag => answer 0x30#8 tag planRequest
  | .readPlan tag => answer 0x31#8 tag readPlanRequest
  | .turn tag => answer 0x38#8 tag turnRequest
  | .pause tag => answer 0x39#8 tag pauseRequest
  | .resume tag => answer 0x3A#8 tag resumeRequest
  | .abort tag => answer 0x3B#8 tag abortRequest
  | .home tag head => answer 0x3C#8 tag (homeRequest head)
  | .indexEdge tag head => answer 0x3D#8 tag (indexEdgeRequest head)
  | .toolChanged tag head => answer 0x3E#8 tag (toolChangedRequest head)
  | .readHistory tag axleId start => answer 0x40#8 tag (readHistoryRequest axleId start)
  | .listBogie tag bogieId => answer 0x41#8 tag (listBogieRequest bogieId)
  | .retireAxle tag axleId => answer 0x42#8 tag (retireAxleRequest axleId)
  | .correctHistory tag axleId diameterL diameterR => answer 0x43#8 tag (correctHistoryRequest axleId diameterL diameterR)
  | .commit tag => answer 0x44#8 tag commitRequest
  | .status tag => answer 0x48#8 tag statusRequest
  | .resumeLink tag => answer 0x49#8 tag resumeLinkRequest
  | .reset tag => answer 0x4A#8 tag resetRequest
  | .setSetting tag addr value => answer 0x50#8 tag (setSettingRequest addr value)
  | .getSetting tag source addr => answer 0x51#8 tag (getSettingRequest source addr)
  | .storeSettings tag autoload => answer 0x52#8 tag (storeSettingsRequest autoload)
  | .loadSettings tag => answer 0x53#8 tag loadSettingsRequest
  | .defaultSettings tag => answer 0x54#8 tag defaultSettingsRequest
  | .powerOnReset lines => startUp lines
  | .pinReset lines => startUp lines
  | .linkResetEffect lines => linkResetEffect lines
  | .goodFrame frame => acceptFrame frame
  | .lineError => discardPartial
  | .gapTimerExpiry => fun s => if s.slp.gapTimer.isSome then discardPartial s else s
  | .dispatch => dispatchFront
  | .sendingReply => fun s => if lineFree s then sendReply s else s
  | .sendingReport => fun s => if lineFree s then sendReport s else s
  | .frameSent => frameEnded
  | .silenceTimerExpiry => silenceExpiry
  | .presenceOn => presenceOn
  | .presenceOff => presenceOff
  | .tagReadBegin => beginTagRead
  | .bridgeSwitchMade side bridgeEnd => bridgeSwitchMade side bridgeEnd
  | .bridgeSwitchDropped side bridgeEnd => bridgeSwitchDropped side bridgeEnd
  | .bridgeTravelTimerExpiry side => bridgeTimeout side
  | .pitStopAsserted => pitStopAsserted
  | .pitStopReleased => fun s => s.modPil fun p => { p with pitStop := false }
  | .pendantJogUp => press (jog .up)
  | .pendantJogDown => press (jog .down)
  | .pendantJogRelease button => jogRelease button
  | .pendantClampsClose => press (clampsClose .pendant)
  | .pendantClampsOpen => press (clampsOpen .pendant)
  | .pendantBridgesIn => press (bridgesTo .pendant .inLine)
  | .pendantBridgesOut => press (bridgesTo .pendant .out)
  | .pendantHeadsHome => press headsHome
  | .liftControlPeriodExpiry positions loads => controlPeriod positions loads
  | .loadChange post load positions => loadChanged post load positions
  | .clampSwitchMade side clampEnd => clampSwitchMade side clampEnd
  | .clampSwitchDropped side clampEnd => setClampSwitch side clampEnd false
  | .clampMoveTimerExpiry side => clampTimeout side
  | .deglitchTimerExpiry monitor => deglitchExpiry monitor
  | .gaugeTransactionBegin => beginOldest
  | .gaugeTransactionEnd => transactionEnd
  | .clockHold => clockHold
  | .clockRelease => clockRelease
  | .waitTimerExpiry => waitExpiry
  | .arbitrationLoss => arbitrationLoss
  | .unexpectedStartStop condition => unexpectedCondition condition
  | .foreignStart => foreignStart
  | .foreignStop => foreignStop
  | .quietTimerExpiry => quietExpiry
  | .resetObservationTimeout => resetObservationTimeout
  | .profileScanBegin => profileScanBegin
  | .sweepExtractionDone => extractionDone
  | .rimTemperatureReading side value => rimReading side value
  | .rimSensorFault side => rimFault side
  | .rimHoldTimerExpiry side => rimHoldExpiry side
  | .indexEvent interval forcesL forcesR => indexTaken interval forcesL forcesR
  | .rollerSpeedChange pairL pairR => rollersChanged pairL pairR
  | .forceReadingChange side value => modHead side fun h => { h with force := saturate Config.forceMax value }
  | .stopTimerExpiry => stopExpiry
  | .headMoveEnd side parkSwitch => moveEnded side parkSwitch
  | .planComputationEnd => computationEnd
  | .recordOpenComplete => recordOpened
  | .commitBegin => commitBegin
  | .slotWriteDone => slotWritten
  | .commitVerifyDone agrees => verifyDone agrees
  | .startupScanEnd badChecks => scanEnded badChecks
  | .settingsProgrammingBegin => programmingBegin
  | .settingsReadbackDone agrees => readbackDone agrees
  | .byteReceived value => byteArrived value
  | .gaugeBusByte value ack => busByte value ack

theorem exec_eq (i : Instr) (s : State) : exec i s = closed (effectOf i) s := by
  cases i <;> rfl

/-- Every command answers a next state: its effect, closed. -/
theorem exec_next (i : Instr) (s : State) : exec i s = .next (close s (effectOf i s)) := exec_eq i s

end Sys2Proof.Machine
end

