-- ==== Sys2Proof/Laws/Bytes.lean ====
section
/-! SUPPORT. Numbers as bytes: what the fields of a frame hold is what was put into them (R190). -/

namespace Sys2Proof.Machine

@[simp] theorem byte_toNat (n : Nat) : (byte n).toNat = n % 256 := by simp [byte]

@[simp] theorem be_length (n : Nat) (x : Int) : (be n x).length = n := by
  induction n generalizing x with
  | zero => rfl
  | succ n ih => simp [be, ih]

theorem fromBe_snoc (bs : List Byte) (b : Byte) : fromBe (bs ++ [b]) = fromBe bs * 256 + b.toNat := by
  simp [fromBe]

/-- A remainder by a capacity of one byte more: the low byte apart. -/
theorem emod_mul_256 (x m : Int) (hm : 0 < m) : x % (m * 256) = x / 256 % m * 256 + x % 256 := by
  have h0 := Int.emod_nonneg (x / 256) (ne_of_gt hm)
  have h1 := Int.emod_lt_of_pos (x / 256) hm
  have h2 := Int.emod_add_mul_ediv (x / 256) m
  have h3 := Int.emod_add_mul_ediv x 256
  have h4 : x = x / 256 % m * 256 + x % 256 + m * 256 * (x / 256 / m) := by linear_combination -h3 - 256 * h2
  conv_lhs => rw [h4]
  rw [Int.add_mul_emod_self_left]
  exact Int.emod_eq_of_lt (by omega) (by omega)

/-- A field holds the value modulo its capacity (R190). -/
theorem fromBe_be (n : Nat) (x : Int) : (fromBe (be n x) : Int) = x % 256 ^ n := by
  induction n generalizing x with
  | zero => show ((0 : Nat) : Int) = x % 1; omega
  | succ n ih =>
    rw [be, fromBe_snoc]
    push_cast
    rw [ih]
    have h1 : ((BitVec.ofInt 8 x).toNat : Int) = x % 256 := by
      rw [BitVec.toNat_ofInt]; simp; omega
    rw [h1, Int.fdiv_eq_ediv_of_nonneg _ (by norm_num), pow_succ]
    exact (emod_mul_256 x _ (by positivity)).symm

/-- A field wide enough for a number holds it (R190). -/
theorem fromBe_be_nat (n x : Nat) (h : x < 256 ^ n) : fromBe (be n x) = x := by
  have h1 := fromBe_be n x
  have h2 : ((x : Int)) < 256 ^ n := by exact_mod_cast h
  rw [Int.emod_eq_of_lt (Int.natCast_nonneg x) h2] at h1
  exact Int.ofNat.inj h1

end Sys2Proof.Machine
end

