-- ==== Sys2Proof/WellFormed.lean ====
section
/-! DEFINITION. Which commands can come at all: fields that fit the bytes they travel in (11.2), identifiers of their
length, sensor readings within their range. What a command does with a field that is not allowed is its meaning's. -/

namespace Sys2Proof

namespace WellFormed

/-- A figure below a bound. -/
def below (bound n : Nat) : Bool := decide (n < bound)

/-- A field of one byte (R190). -/
def isByte (n : Nat) : Bool := below 256 n

/-- An identifier of `n` characters; which characters are allowed is for the request to say (R190). -/
def idSized (n : Nat) (cs : List Byte) : Bool := cs.length == n

/-- A diameter in 3 bytes, FFFFFFh being its absence (R190). -/
def carriesDiameter (d : Option Nat) : Bool :=
  match d with
  | none => true
  | some x => below 0xFFFFFF x

/-- A value in 4 bytes, signed (R190). -/
def carriesValue (v : Int) : Bool := decide (-2147483648 ≤ v) && decide (v < 2147483648)

/-- A setting's address in bytes (R190). -/
def carriesAddr : SettingAddr → Bool
  | .scalar id inst => isByte id && isByte inst
  | .table table entry field => isByte table && isByte entry && isByte field

/-- Post positions within the travel (2.1). -/
def inTravel (positions : Four Nat) : Bool := positions.all fun p => p ≤ Config.postTravel

/-- The field lines at the end of a reset. -/
def linesFit (x : FieldLines) : Bool := inTravel x.positions

end WellFormed

open WellFormed in
/-- The command is well formed. -/
def Instr.wf : Instr → Bool
  | .seatAxle _tag axleId wheelType bogieId position _force => idSized 10 axleId && isByte wheelType && idSized 8 bogieId && isByte position
  | .releaseAxle _tag => true
  | .bridges _tag direction => isByte direction
  | .source _tag group owner => isByte group && isByte owner
  | .setStamp _tag _stamp => true
  | .lift _tag height => below 4294967296 height
  | .lower _tag height => below 4294967296 height
  | .takeLoad _tag => true
  | .haltLift _tag => true
  | .clampClose _tag => true
  | .clampOpen _tag => true
  | .clearFault _tag _monitors => true
  | .readFaults _tag => true
  | .sweep _tag wheels => isByte wheels
  | .haltSweep _tag => true
  | .referenceSweep _tag head => isByte head
  | .readProfile _tag wheel => isByte wheel
  | .plan _tag => true
  | .readPlan _tag => true
  | .turn _tag => true
  | .pause _tag => true
  | .resume _tag => true
  | .abort _tag => true
  | .home _tag head => isByte head
  | .indexEdge _tag head => isByte head
  | .toolChanged _tag head => isByte head
  | .readHistory _tag axleId start => idSized 10 axleId && isByte start
  | .listBogie _tag bogieId => idSized 8 bogieId
  | .retireAxle _tag axleId => idSized 10 axleId
  | .correctHistory _tag axleId diameterL diameterR => idSized 10 axleId && carriesDiameter diameterL && carriesDiameter diameterR
  | .commit _tag => true
  | .status _tag => true
  | .resumeLink _tag => true
  | .reset _tag => true
  | .setSetting _tag addr value => carriesAddr addr && carriesValue value
  | .getSetting _tag from' addr => isByte from' && carriesAddr addr
  | .storeSettings _tag autoload => isByte autoload
  | .loadSettings _tag => true
  | .defaultSettings _tag => true
  | .powerOnReset lines => linesFit lines
  | .pinReset lines => linesFit lines
  | .linkResetEffect lines => linesFit lines
  | .goodFrame frame => below 249 frame.payload.length
  | .lineError => true
  | .gapTimerExpiry => true
  | .dispatch => true
  | .sendingReply => true
  | .sendingReport => true
  | .frameSent => true
  | .silenceTimerExpiry => true
  | .presenceOn => true
  | .presenceOff => true
  | .tagReadBegin => true
  | .bridgeSwitchMade _side _bridgeEnd => true
  | .bridgeSwitchDropped _side _bridgeEnd => true
  | .bridgeTravelTimerExpiry _side => true
  | .pitStopAsserted => true
  | .pitStopReleased => true
  | .pendantJogUp => true
  | .pendantJogDown => true
  | .pendantJogRelease _button => true
  | .pendantClampsClose => true
  | .pendantClampsOpen => true
  | .pendantBridgesIn => true
  | .pendantBridgesOut => true
  | .pendantHeadsHome => true
  | .liftControlPeriodExpiry positions _loads => inTravel positions
  | .loadChange _post _load positions => inTravel positions
  | .clampSwitchMade _side _clampEnd => true
  | .clampSwitchDropped _side _clampEnd => true
  | .clampMoveTimerExpiry _side => true
  | .deglitchTimerExpiry _monitor => true
  | .gaugeTransactionBegin => true
  | .gaugeTransactionEnd => true
  | .clockHold => true
  | .clockRelease => true
  | .waitTimerExpiry => true
  | .arbitrationLoss => true
  | .unexpectedStartStop _condition => true
  | .foreignStart => true
  | .foreignStop => true
  | .quietTimerExpiry => true
  | .resetObservationTimeout => true
  | .profileScanBegin => true
  | .sweepExtractionDone => true
  | .rimTemperatureReading _side _value => true
  | .rimSensorFault _side => true
  | .rimHoldTimerExpiry _side => true
  | .indexEvent _interval _forcesL _forcesR => true
  | .rollerSpeedChange _pairL _pairR => true
  | .forceReadingChange _side _value => true
  | .stopTimerExpiry => true
  | .headMoveEnd _side _parkSwitch => true
  | .planComputationEnd => true
  | .recordOpenComplete => true
  | .commitBegin => true
  | .slotWriteDone => true
  | .commitVerifyDone _agrees => true
  | .startupScanEnd badChecks => badChecks.all (below Config.slotCount)
  | .settingsProgrammingBegin => true
  | .settingsReadbackDone _agrees => true
  | .byteReceived _value => true
  | .gaugeBusByte _value _ack => true

end Sys2Proof
end

