-- ==== Sys2Proof/Laws/PerInstr.lean ====
section
/-! SUPPORT. Per command: a request that is put into a frame is the request that the frame is read as (11.2, R171). -/

namespace Sys2Proof.Laws.Carried

open Machine Decode WellFormed

/-- The frame that carries a command, where one does, is read as that command. -/
def Statement (i : Instr) : Prop := ∀ f, toFrame i = some f → i.wf = true → Decode.frame f = .ok i

/-! ## How the fields are read -/

/-- A field of `n` bytes at the front of what is left. -/
theorem field_at (pre rest : List Byte) (k n : Nat) (x : Nat) (hk : pre.length = k) (hx : x < 256 ^ n) :
    Decode.field (pre ++ be n x ++ rest) k n = x := by
  subst hk
  have h : ((pre ++ be n x ++ rest).drop pre.length).take n = be n x := by simp [List.append_assoc]
  rw [Decode.field, h, fromBe_be_nat n x hx]

/-- A signed field at the end of a payload. -/
theorem signed_at (pre : List Byte) (v : Int) (k : Nat) (hk : pre.length = k) (hv : carriesValue v = true) :
    Decode.signed (pre ++ be 4 v) k = v := by
  subst hk
  simp only [carriesValue, Bool.and_eq_true, decide_eq_true_eq] at hv
  have h : ((pre ++ be 4 v).drop pre.length).take 4 = be 4 v := by simp
  have e := fromBe_be 4 v
  rw [Decode.signed, Decode.field, h, BitVec.toInt_ofNat']
  norm_num at e
  rw [e, Int.bmod]
  norm_num
  split <;> omega

@[simp] theorem diameterBytes_length (d : Option Nat) : (diameterBytes d).length = 3 := by
  cases d <;> simp [diameterBytes, absentBytes]

/-- A diameter field, present or absent. -/
theorem diameter_at (pre rest : List Byte) (d : Option Nat) (k : Nat) (hk : pre.length = k)
    (hd : carriesDiameter d = true) : Decode.diameter (pre ++ diameterBytes d ++ rest) k = d := by
  cases d with
  | none =>
    subst hk
    have h : ((pre ++ diameterBytes none ++ rest).drop pre.length).take 3 = absentBytes 3 := by
      simp [diameterBytes, absentBytes, List.append_assoc]
    have e : fromBe (absentBytes 3) = 0xFFFFFF := by decide
    rw [Decode.diameter, Decode.field, h, e]
    rfl
  | some n =>
    simp only [carriesDiameter, below, decide_eq_true_eq] at hd
    have h := field_at pre rest k 3 n hk (by omega)
    rw [Decode.diameter]
    simp only [diameterBytes, h]
    rw [if_neg (by omega)]

/-! ## The requests -/

theorem seatAxle (tag : Byte) (axleId : AxleId) (wheelType : Nat) (bogieId : BogieId) (position : Nat) (force : Bool) :
    Statement (.seatAxle tag axleId wheelType bogieId position force) := by
  intro f hf hw
  cases hf
  simp only [Instr.wf, isByte, idSized, below, Bool.and_eq_true, decide_eq_true_eq, beq_iff_eq] at hw
  obtain ⟨⟨⟨h1, h2⟩, h3⟩, h4⟩ := hw
  match axleId, h1, bogieId, h3 with
  | [_, _, _, _, _, _, _, _, _, _], _, [_, _, _, _, _, _, _, _], _ =>
    cases force <;>
      simp [Decode.frame, request, sized, at', byte, bitIf, Nat.mod_eq_of_lt h2, Nat.mod_eq_of_lt h4]

theorem releaseAxle (tag : Byte) :
    Statement (.releaseAxle tag) := by
  intro f hf _
  cases hf
  rfl

theorem bridges (tag : Byte) (direction : Nat) :
    Statement (.bridges tag direction) := by
  intro f hf hw
  cases hf
  simp only [Instr.wf, isByte, below, decide_eq_true_eq] at hw
  simp [Decode.frame, request, sized, at', Nat.mod_eq_of_lt hw]

theorem source (tag : Byte) (group : Nat) (owner : Nat) :
    Statement (.source tag group owner) := by
  intro f hf hw
  cases hf
  simp only [Instr.wf, isByte, below, Bool.and_eq_true, decide_eq_true_eq] at hw
  simp [Decode.frame, request, sized, at', Nat.mod_eq_of_lt hw.1, Nat.mod_eq_of_lt hw.2]

theorem setStamp (tag : Byte) (stamp : Stamp) :
    Statement (.setStamp tag stamp) := by
  intro f hf _
  cases hf
  have h := field_at [] [] 0 4 stamp.toNat rfl (by have := stamp.isLt; omega)
  simp only [List.nil_append, List.append_nil] at h
  simp [Decode.frame, request, sized, h]

theorem lift (tag : Byte) (height : Nat) :
    Statement (.lift tag height) := by
  intro f hf hw
  cases hf
  simp only [Instr.wf, below, decide_eq_true_eq] at hw
  have h := field_at [] [] 0 4 height rfl (by omega)
  simp only [List.nil_append, List.append_nil] at h
  simp [Decode.frame, request, sized, h]

theorem lower (tag : Byte) (height : Nat) :
    Statement (.lower tag height) := by
  intro f hf hw
  cases hf
  simp only [Instr.wf, below, decide_eq_true_eq] at hw
  have h := field_at [] [] 0 4 height rfl (by omega)
  simp only [List.nil_append, List.append_nil] at h
  simp [Decode.frame, request, sized, h]

theorem takeLoad (tag : Byte) :
    Statement (.takeLoad tag) := by
  intro f hf _
  cases hf
  rfl

theorem haltLift (tag : Byte) :
    Statement (.haltLift tag) := by
  intro f hf _
  cases hf
  rfl

theorem clampClose (tag : Byte) :
    Statement (.clampClose tag) := by
  intro f hf _
  cases hf
  rfl

theorem clampOpen (tag : Byte) :
    Statement (.clampOpen tag) := by
  intro f hf _
  cases hf
  rfl

theorem clearFault (tag : Byte) (monitors : BitVec 16) :
    Statement (.clearFault tag monitors) := by
  intro f hf _
  cases hf
  have h := field_at [] [] 0 2 monitors.toNat rfl (by have := monitors.isLt; omega)
  simp only [List.nil_append, List.append_nil] at h
  simp [Decode.frame, request, sized, h]

theorem readFaults (tag : Byte) :
    Statement (.readFaults tag) := by
  intro f hf _
  cases hf
  rfl

theorem sweep (tag : Byte) (wheels : Nat) :
    Statement (.sweep tag wheels) := by
  intro f hf hw
  cases hf
  simp only [Instr.wf, isByte, below, decide_eq_true_eq] at hw
  simp [Decode.frame, request, sized, at', Nat.mod_eq_of_lt hw]

theorem haltSweep (tag : Byte) :
    Statement (.haltSweep tag) := by
  intro f hf _
  cases hf
  rfl

theorem referenceSweep (tag : Byte) (head : Nat) :
    Statement (.referenceSweep tag head) := by
  intro f hf hw
  cases hf
  simp only [Instr.wf, isByte, below, decide_eq_true_eq] at hw
  simp [Decode.frame, request, sized, at', Nat.mod_eq_of_lt hw]

theorem readProfile (tag : Byte) (wheel : Nat) :
    Statement (.readProfile tag wheel) := by
  intro f hf hw
  cases hf
  simp only [Instr.wf, isByte, below, decide_eq_true_eq] at hw
  simp [Decode.frame, request, sized, at', Nat.mod_eq_of_lt hw]

theorem plan (tag : Byte) :
    Statement (.plan tag) := by
  intro f hf _
  cases hf
  rfl

theorem readPlan (tag : Byte) :
    Statement (.readPlan tag) := by
  intro f hf _
  cases hf
  rfl

theorem turn (tag : Byte) :
    Statement (.turn tag) := by
  intro f hf _
  cases hf
  rfl

theorem pause (tag : Byte) :
    Statement (.pause tag) := by
  intro f hf _
  cases hf
  rfl

theorem resume (tag : Byte) :
    Statement (.resume tag) := by
  intro f hf _
  cases hf
  rfl

theorem abort (tag : Byte) :
    Statement (.abort tag) := by
  intro f hf _
  cases hf
  rfl

theorem home (tag : Byte) (head : Nat) :
    Statement (.home tag head) := by
  intro f hf hw
  cases hf
  simp only [Instr.wf, isByte, below, decide_eq_true_eq] at hw
  simp [Decode.frame, request, sized, at', Nat.mod_eq_of_lt hw]

theorem indexEdge (tag : Byte) (head : Nat) :
    Statement (.indexEdge tag head) := by
  intro f hf hw
  cases hf
  simp only [Instr.wf, isByte, below, decide_eq_true_eq] at hw
  simp [Decode.frame, request, sized, at', Nat.mod_eq_of_lt hw]

theorem toolChanged (tag : Byte) (head : Nat) :
    Statement (.toolChanged tag head) := by
  intro f hf hw
  cases hf
  simp only [Instr.wf, isByte, below, decide_eq_true_eq] at hw
  simp [Decode.frame, request, sized, at', Nat.mod_eq_of_lt hw]

theorem readHistory (tag : Byte) (axleId : AxleId) (start : Nat) :
    Statement (.readHistory tag axleId start) := by
  intro f hf hw
  cases hf
  simp only [Instr.wf, isByte, idSized, below, Bool.and_eq_true, decide_eq_true_eq, beq_iff_eq] at hw
  obtain ⟨h1, h2⟩ := hw
  simp [Decode.frame, request, sized, at', h1, Nat.mod_eq_of_lt h2, List.take_left' h1]

theorem listBogie (tag : Byte) (bogieId : BogieId) :
    Statement (.listBogie tag bogieId) := by
  intro f hf hw
  cases hf
  simp only [Instr.wf, idSized, beq_iff_eq] at hw
  simp [Decode.frame, request, sized, hw]

theorem retireAxle (tag : Byte) (axleId : AxleId) :
    Statement (.retireAxle tag axleId) := by
  intro f hf hw
  cases hf
  simp only [Instr.wf, idSized, beq_iff_eq] at hw
  simp [Decode.frame, request, sized, hw]

theorem correctHistory (tag : Byte) (axleId : AxleId) (diameterL : Option Nat) (diameterR : Option Nat) :
    Statement (.correctHistory tag axleId diameterL diameterR) := by
  intro f hf hw
  cases hf
  simp only [Instr.wf, idSized, Bool.and_eq_true, beq_iff_eq] at hw
  obtain ⟨⟨h1, h2⟩, h3⟩ := hw
  have e2 := diameter_at axleId (diameterBytes diameterR) diameterL 10 h1 h2
  have e3 := diameter_at (axleId ++ diameterBytes diameterL) [] diameterR 13 (by simp [h1]) h3
  rw [List.append_nil] at e3
  have e1 : (axleId ++ diameterBytes diameterL ++ diameterBytes diameterR).take 10 = axleId := by
    rw [List.append_assoc, List.take_left' h1]
  have e0 : (axleId ++ diameterBytes diameterL ++ diameterBytes diameterR).length = 16 := by simp [h1]
  show sized 16 _ _ = _
  rw [sized, if_pos e0, e1, e2, e3]

theorem commit (tag : Byte) :
    Statement (.commit tag) := by
  intro f hf _
  cases hf
  rfl

theorem status (tag : Byte) :
    Statement (.status tag) := by
  intro f hf _
  cases hf
  rfl

theorem resumeLink (tag : Byte) :
    Statement (.resumeLink tag) := by
  intro f hf _
  cases hf
  rfl

theorem reset (tag : Byte) :
    Statement (.reset tag) := by
  intro f hf _
  cases hf
  rfl

theorem setSetting (tag : Byte) (addr : SettingAddr) (value : Int) :
    Statement (.setSetting tag addr value) := by
  intro f hf hw
  cases hf
  cases addr with
  | scalar id inst =>
    simp only [Instr.wf, isByte, carriesAddr, below, Bool.and_eq_true, decide_eq_true_eq] at hw
    have h := signed_at [0x00#8, byte id, byte inst] value 3 rfl hw.2
    simp only [List.cons_append, List.nil_append] at h
    simp [Decode.frame, request, Decode.setSetting, addrBytes, at', h, Nat.mod_eq_of_lt hw.1.1,
      Nat.mod_eq_of_lt hw.1.2]
  | table table entry field =>
    simp only [Instr.wf, isByte, carriesAddr, below, Bool.and_eq_true, decide_eq_true_eq] at hw
    have h := signed_at [0x01#8, byte table, byte entry, byte field] value 4 rfl hw.2
    simp only [List.cons_append, List.nil_append] at h
    simp [Decode.frame, request, Decode.setSetting, addrBytes, at', h, Nat.mod_eq_of_lt hw.1.1.1,
      Nat.mod_eq_of_lt hw.1.1.2, Nat.mod_eq_of_lt hw.1.2]

theorem getSetting (tag : Byte) (from' : Nat) (addr : SettingAddr) :
    Statement (.getSetting tag from' addr) := by
  intro f hf hw
  cases hf
  cases addr with
  | scalar id inst =>
    simp only [Instr.wf, isByte, carriesAddr, below, Bool.and_eq_true, decide_eq_true_eq] at hw
    simp [Decode.frame, request, Decode.getSetting, addrBytes, at', Nat.mod_eq_of_lt hw.1, Nat.mod_eq_of_lt hw.2.1,
      Nat.mod_eq_of_lt hw.2.2]
  | table table entry field =>
    simp only [Instr.wf, isByte, carriesAddr, below, Bool.and_eq_true, decide_eq_true_eq] at hw
    simp [Decode.frame, request, Decode.getSetting, addrBytes, at', Nat.mod_eq_of_lt hw.1, Nat.mod_eq_of_lt hw.2.1.1,
      Nat.mod_eq_of_lt hw.2.1.2, Nat.mod_eq_of_lt hw.2.2]

theorem storeSettings (tag : Byte) (autoload : Nat) :
    Statement (.storeSettings tag autoload) := by
  intro f hf hw
  cases hf
  simp only [Instr.wf, isByte, below, decide_eq_true_eq] at hw
  simp [Decode.frame, request, sized, at', Nat.mod_eq_of_lt hw]

theorem loadSettings (tag : Byte) :
    Statement (.loadSettings tag) := by
  intro f hf _
  cases hf
  rfl

theorem defaultSettings (tag : Byte) :
    Statement (.defaultSettings tag) := by
  intro f hf _
  cases hf
  rfl

/-! ## The commands that no frame carries -/

theorem powerOnReset (lines : FieldLines) : Statement (.powerOnReset lines) := by
  intro f hf
  cases hf

theorem pinReset (lines : FieldLines) : Statement (.pinReset lines) := by
  intro f hf
  cases hf

theorem linkResetEffect (lines : FieldLines) : Statement (.linkResetEffect lines) := by
  intro f hf
  cases hf

theorem goodFrame (frame : Frame) : Statement (.goodFrame frame) := by
  intro f hf
  cases hf

theorem lineError : Statement (.lineError) := by
  intro f hf
  cases hf

theorem gapTimerExpiry : Statement (.gapTimerExpiry) := by
  intro f hf
  cases hf

theorem dispatch : Statement (.dispatch) := by
  intro f hf
  cases hf

theorem sendingReply : Statement (.sendingReply) := by
  intro f hf
  cases hf

theorem sendingReport : Statement (.sendingReport) := by
  intro f hf
  cases hf

theorem frameSent : Statement (.frameSent) := by
  intro f hf
  cases hf

theorem silenceTimerExpiry : Statement (.silenceTimerExpiry) := by
  intro f hf
  cases hf

theorem presenceOn : Statement (.presenceOn) := by
  intro f hf
  cases hf

theorem presenceOff : Statement (.presenceOff) := by
  intro f hf
  cases hf

theorem tagReadBegin : Statement (.tagReadBegin) := by
  intro f hf
  cases hf

theorem bridgeSwitchMade (side : Side) (bridgeEnd : BridgeEnd) : Statement (.bridgeSwitchMade side bridgeEnd) := by
  intro f hf
  cases hf

theorem bridgeSwitchDropped (side : Side) (bridgeEnd : BridgeEnd) : Statement (.bridgeSwitchDropped side bridgeEnd) := by
  intro f hf
  cases hf

theorem bridgeTravelTimerExpiry (side : Side) : Statement (.bridgeTravelTimerExpiry side) := by
  intro f hf
  cases hf

theorem pitStopAsserted : Statement (.pitStopAsserted) := by
  intro f hf
  cases hf

theorem pitStopReleased : Statement (.pitStopReleased) := by
  intro f hf
  cases hf

theorem pendantJogUp : Statement (.pendantJogUp) := by
  intro f hf
  cases hf

theorem pendantJogDown : Statement (.pendantJogDown) := by
  intro f hf
  cases hf

theorem pendantJogRelease (button : JogButton) : Statement (.pendantJogRelease button) := by
  intro f hf
  cases hf

theorem pendantClampsClose : Statement (.pendantClampsClose) := by
  intro f hf
  cases hf

theorem pendantClampsOpen : Statement (.pendantClampsOpen) := by
  intro f hf
  cases hf

theorem pendantBridgesIn : Statement (.pendantBridgesIn) := by
  intro f hf
  cases hf

theorem pendantBridgesOut : Statement (.pendantBridgesOut) := by
  intro f hf
  cases hf

theorem pendantHeadsHome : Statement (.pendantHeadsHome) := by
  intro f hf
  cases hf

theorem liftControlPeriodExpiry (positions : Four Nat) (loads : Four Nat) : Statement (.liftControlPeriodExpiry positions loads) := by
  intro f hf
  cases hf

theorem loadChange (post : Post) (load : Nat) (positions : Four Nat) : Statement (.loadChange post load positions) := by
  intro f hf
  cases hf

theorem clampSwitchMade (side : Side) (clampEnd : ClampEnd) : Statement (.clampSwitchMade side clampEnd) := by
  intro f hf
  cases hf

theorem clampSwitchDropped (side : Side) (clampEnd : ClampEnd) : Statement (.clampSwitchDropped side clampEnd) := by
  intro f hf
  cases hf

theorem clampMoveTimerExpiry (side : Side) : Statement (.clampMoveTimerExpiry side) := by
  intro f hf
  cases hf

theorem deglitchTimerExpiry (monitor : MonitorId) : Statement (.deglitchTimerExpiry monitor) := by
  intro f hf
  cases hf

theorem gaugeTransactionBegin : Statement (.gaugeTransactionBegin) := by
  intro f hf
  cases hf

theorem gaugeTransactionEnd : Statement (.gaugeTransactionEnd) := by
  intro f hf
  cases hf

theorem clockHold : Statement (.clockHold) := by
  intro f hf
  cases hf

theorem clockRelease : Statement (.clockRelease) := by
  intro f hf
  cases hf

theorem waitTimerExpiry : Statement (.waitTimerExpiry) := by
  intro f hf
  cases hf

theorem arbitrationLoss : Statement (.arbitrationLoss) := by
  intro f hf
  cases hf

theorem unexpectedStartStop (condition : BusCondition) : Statement (.unexpectedStartStop condition) := by
  intro f hf
  cases hf

theorem foreignStart : Statement (.foreignStart) := by
  intro f hf
  cases hf

theorem foreignStop : Statement (.foreignStop) := by
  intro f hf
  cases hf

theorem quietTimerExpiry : Statement (.quietTimerExpiry) := by
  intro f hf
  cases hf

theorem resetObservationTimeout : Statement (.resetObservationTimeout) := by
  intro f hf
  cases hf

theorem profileScanBegin : Statement (.profileScanBegin) := by
  intro f hf
  cases hf

theorem sweepExtractionDone : Statement (.sweepExtractionDone) := by
  intro f hf
  cases hf

theorem rimTemperatureReading (side : Side) (value : Int) : Statement (.rimTemperatureReading side value) := by
  intro f hf
  cases hf

theorem rimSensorFault (side : Side) : Statement (.rimSensorFault side) := by
  intro f hf
  cases hf

theorem rimHoldTimerExpiry (side : Side) : Statement (.rimHoldTimerExpiry side) := by
  intro f hf
  cases hf

theorem indexEvent (interval : Nat) (forcesL : List Nat) (forcesR : List Nat) : Statement (.indexEvent interval forcesL forcesR) := by
  intro f hf
  cases hf

theorem rollerSpeedChange (pairL : Nat) (pairR : Nat) : Statement (.rollerSpeedChange pairL pairR) := by
  intro f hf
  cases hf

theorem forceReadingChange (side : Side) (value : Nat) : Statement (.forceReadingChange side value) := by
  intro f hf
  cases hf

theorem stopTimerExpiry : Statement (.stopTimerExpiry) := by
  intro f hf
  cases hf

theorem headMoveEnd (side : Side) (parkSwitch : Bool) : Statement (.headMoveEnd side parkSwitch) := by
  intro f hf
  cases hf

theorem planComputationEnd : Statement (.planComputationEnd) := by
  intro f hf
  cases hf

theorem recordOpenComplete : Statement (.recordOpenComplete) := by
  intro f hf
  cases hf

theorem commitBegin : Statement (.commitBegin) := by
  intro f hf
  cases hf

theorem slotWriteDone : Statement (.slotWriteDone) := by
  intro f hf
  cases hf

theorem commitVerifyDone (agrees : Bool) : Statement (.commitVerifyDone agrees) := by
  intro f hf
  cases hf

theorem startupScanEnd (badChecks : List Nat) : Statement (.startupScanEnd badChecks) := by
  intro f hf
  cases hf

theorem settingsProgrammingBegin : Statement (.settingsProgrammingBegin) := by
  intro f hf
  cases hf

theorem settingsReadbackDone (agrees : Bool) : Statement (.settingsReadbackDone agrees) := by
  intro f hf
  cases hf

theorem byteReceived (value : Byte) : Statement (.byteReceived value) := by
  intro f hf
  cases hf

theorem gaugeBusByte (value : Byte) (ack : Bool) : Statement (.gaugeBusByte value ack) := by
  intro f hf
  cases hf

end Sys2Proof.Laws.Carried
end

