-- ==== Sys2Proof/Certificates/Slice0/Obligations.lean ====
section
/-! DEFINITION. The statements for the provers. -/

open Sys2Proof Sys2Proof.Machine

/-! ## The whole part -/

/-- A step is the command at the front of the queue, on the state with the queue's rest; on an empty queue the part idles
(log entry 1). -/
def Obligations.StepRunsFront : Prop :=
  (∀ (i : Instr) (rest : List Instr) (s : State), s.pending = i :: rest → step s = exec i (s.withPending rest)) ∧
  (∀ s : State, s.pending = [] → step s = .next s)

/-- Every command answers a next state, and leaves the queue as it found it. A request where none may be dispatched is no
exception: it then changes nothing, which is the model's choice (log entry 1). -/
def Obligations.EveryCommandCompletes : Prop :=
  ∀ (i : Instr) (s : State), ∃ t, exec i s = .next t ∧ t.pending = s.pending

/-- R16: after every command the clear-to-move line is asserted exactly while both rail bridges are IN, the lift is
LOWERED, both clamps are OPEN, the spindle is STOPPED and both heads are PARKED; and so it is at reset. -/
def Obligations.ClearToMoveLine : Prop :=
  (∀ (i : Instr) (s t : State), exec i s = .next t →
    (t.pil.clearToMove = true ↔
      (∀ side, (t.pil.bridge.get side).state = .inLine) ∧ t.blu.lift = .lowered ∧
      (∀ side, (t.blu.clamp.get side).state = .opened) ∧ t.tcu.spindle = .stopped ∧
      (∀ side, (t.tcu.head.get side).position = .parked))) ∧
  lineLaw State.reset = true

/-- Every step from a settled part leaves it settled: every owner's condition is handed, every monitor has acted on what
it sees, and the clear-to-move line follows (R16, R49, R50). -/
def Obligations.StepKeepsSettled : Prop :=
  ∀ s t : State, settled s = true → step s = .next t → settled t = true

/-- Every step keeps the law of R45: while the spindle is RUNUP or AT_SPEED both clamps are CLOSED and both bridges OUT. -/
def Obligations.StepKeepsSpindleLaw : Prop :=
  ∀ s t : State, spindleLaw s = true → step s = .next t → spindleLaw t = true

/-- Every step keeps the law of R10: a rail bridge moves only while the lift is HOLDING at or above the clearance height.
The clearance heights the part holds being in their range is part of what is kept. -/
def Obligations.StepKeepsBridgeLaw : Prop :=
  ∀ s t : State, (bridgeLaw s && clearancesInRange s) = true → step s = .next t →
    (bridgeLaw t && clearancesInRange t) = true

/-- Every step keeps the quotas of R67, by which the gauge queue never holds more than 8 transactions, and the four places of
the receive queue (R170). -/
def Obligations.StepKeepsQuotas : Prop :=
  (∀ s t : State, quotaLaw s = true → step s = .next t → quotaLaw t = true) ∧
  (∀ s : State, quotaLaw s = true → s.gbc.queue.length ≤ 8) ∧
  (∀ s t : State, receiveLaw s = true → step s = .next t → receiveLaw t = true)

/-- Every step keeps the slot array of the history store in its canonical form, with the slot of the commit in progress
inside the array; and, with these, the law of R147. By it no two entries of the index, and no two VALID slots, hold the
same axle ID, and the index, by which the records are counted, holds at most 512 entries. Every step keeps what excludes
one another, too: a lift that does not move has no move kind (R23, R34), a sweep and a turning are not in progress
together (R87, R124), plan work goes on only with no plan and no turning, and a mark's opening waits only in it (R105,
R106, R112, R117). Both laws hold at reset. -/
def Obligations.StepKeepsSlots : Prop :=
  (∀ s t : State, (slotLaw s && commitInArray s) = true → step s = .next t → (slotLaw t && commitInArray t) = true) ∧
  (∀ s t : State, (slotLaw s && commitInArray s && storeLaw s) = true → step s = .next t → storeLaw t = true) ∧
  (∀ s t : State, workLaw s = true → step s = .next t → workLaw t = true) ∧
  (storeLaw State.reset && workLaw State.reset) = true ∧
  (∀ s : State, (slotLaw s && storeLaw s) = true →
    s.ahs.index.length ≤ 512 ∧ (s.ahs.index.map IndexEntry.axleId).Nodup ∧
    ∀ (m n : Nat) (q r : Record), slotAt m s.ahs.slots = some (.valid q) → slotAt n s.ahs.slots = some (.valid r) →
      q.axleId = r.axleId → m = n)

/-- Every step keeps every set of settings the part holds within its ranges and its orders (R182, 10.1, 10.2). -/
def Obligations.StepKeepsSettings : Prop :=
  ∀ s t : State, settingsLaw s = true → step s = .next t → settingsLaw t = true

/-- The laws that every step keeps hold after the first power-on reset. The levels of the field lines at reset and the
blank history array are the model's choice (log entries 2 and 4). -/
def Obligations.LawsHoldAtReset : Prop :=
  settled State.reset = true ∧ spindleLaw State.reset = true ∧ bridgeLaw State.reset = true ∧
  clearancesInRange State.reset = true ∧ quotaLaw State.reset = true ∧ slotLaw State.reset = true ∧
  commitInArray State.reset = true ∧ storeLaw State.reset = true ∧ settingsLaw State.reset = true ∧
  receiveLaw State.reset = true

/-! ## The Pit Interlock -/

/-- SET_STAMP makes its value the depot stamp, and is answered OK (R17). SOURCE gives a group whose things stand still to
its new owner; with a moving group it is refused BUSY, and with a code that names no group or no owner BAD_PARAMETER
(R13). -/
def Obligations.StampAndOwnersAreSet : Prop :=
  (∀ (tag : Byte) (stamp : Stamp) (s : State), ready s = true →
     exec (.setStamp tag stamp) s =
       .next (noted s (repliedCode 0x85#8 tag .ok { s with pil := { s.pil with stamp := stamp } }))) ∧
  (∀ (tag : Byte) (group owner : Nat) (s : State), ready s = true →
     exec (.source tag group owner) s =
       .next (match groupOf group, ownerOf owner with
         | some g, some o =>
           if groupBusy s g then repliedCode 0x84#8 tag .busy s
           else noted s (repliedCode 0x84#8 tag .ok { s with pil := { s.pil with owners := s.pil.owners.set o g } })
         | _, _ => repliedCode 0x84#8 tag .badParameter s))

/-- SEAT_AXLE (R5, R6, R148, R149). A PRESENT axle whose tag read has failed, or has not begun and is not held back,
is SEATED with the ID entered and nothing else changes but the store: an open record becomes the seated one, and gives
wheel type, bogie and position; an indexed record is opened where a place is found for it; and for an ID that the
index does not hold a record is created, or, with 512 records or fewer than 2 spare slots, the STORE_FULL flag is set.
The force flag and another ID replace a seated identity: the profile records and the plan go, the tag fields stay, and
the former record is queued if it is DIRTY, its visits uncounted (R98, R117, R150); a record created at a seating that
still waits leaves the index with it. Every other request is answered with the code of R5 or R6 and changes nothing.
That a plan IN_USE is not discarded is R117's. The link that is WAITING while the slot of an indexed record is read,
its place found, a plan already NONE that takes the reason SEAT, and the drop of an opening whose slot is being read as
another axle replaces its own, are the model's choice (log entries 34, 47 and 68). -/
def Obligations.AxleIsSeated : Prop :=
  (∀ (tag : Byte) (axleId : AxleId) (wheelType : Nat) (bogieId : BogieId) (position : Nat) (force : Bool) (s : State),
    ready s = true →
    let request := Instr.seatAxle tag axleId wheelType bogieId position force
    let valid := idValid 10 axleId && idValid 8 bogieId && decide (wheelType ≤ 7 ∧ 1 ≤ position ∧ position ≤ 3)
    let entered : Identity := ⟨axleId, wheelType, bogieId, position, .entered⟩
    let made : Record := ⟨axleId, wheelType, bogieId, position, .inService, .both none, none, 0, 0, 0, 0, []⟩
    (valid = false → exec request s = .next (repliedCode 0x81#8 tag .badParameter s)) ∧
    (valid = true →
      (s.pil.seatState = .vacant → exec request s = .next (repliedCode 0x81#8 tag .notAvailable s)) ∧
      (s.pil.seatState = .present → (s.pil.tagState = .reading ∨ s.pil.tagState = .none ∧ readHeldBack s = true) →
        exec request s = .next (repliedCode 0x81#8 tag .busy s)) ∧
      (s.pil.seatState = .present → (s.pil.tagState = .failed ∨ s.pil.tagState = .none ∧ readHeldBack s = false) →
        noneTripped [.m13] s = true →
        (∀ o : OpenRecord, openFind axleId s = some o →
          exec request s =
            .next (close s (repliedCode 0x81#8 tag .ok
              { s with
                pil := { s.pil with
                  seatState := .seated
                  identity := some ⟨axleId, o.record.wheelType, o.record.bogieId, o.record.position, .entered⟩ }
                ahs := { s.ahs with link := .opened axleId } }))) ∧
        (openFind axleId s = none → s.ahs.link = .none →
          let free := placeAvailable { s with ahs := { s.ahs with opening := none } }
          ∃ t, exec request s = .next t ∧ t.slp.replySlot = some ⟨0x81#8, tag, .fixed .ok []⟩ ∧
            t.pil.seatState = .seated ∧ t.pil.identity = some entered ∧ t.ahs.slots = s.ahs.slots ∧
            t.ahs.queue = s.ahs.queue ∧ t.blu = s.blu ∧ t.pmu = s.pmu ∧ t.tpe = s.tpe ∧ t.tcu = s.tcu ∧ t.sst = s.sst ∧
            ((indexFind axleId s.ahs.index).isSome = true →
              t.ahs.link = .waiting axleId ∧ t.ahs.index = s.ahs.index ∧
              t.ahs.opening = some ⟨axleId, true, none, free⟩) ∧
            (indexFind axleId s.ahs.index = none → s.ahs.index.length < 512 → 2 ≤ spareSlots s →
              indexFind axleId t.ahs.index = some ⟨axleId, none⟩ ∧
              t.ahs.index.length = s.ahs.index.length + 1 ∧
              readRecord axleId t = some made ∧
              (free = true →
                t.ahs.link = .opened axleId ∧ t.ahs.opening = none ∧
                openFind axleId t = some ⟨made, .dirty, false⟩) ∧
              (free = false →
                t.ahs.link = .waiting axleId ∧ t.ahs.opening = some ⟨axleId, true, some made, false⟩)) ∧
            (indexFind axleId s.ahs.index = none → (512 ≤ s.ahs.index.length ∨ spareSlots s < 2) →
              t.ahs = { s.ahs with storeFull := true }))) ∧
      (∀ i : Identity, s.pil.seatState = .seated → s.pil.identity = some i →
        (i.axleId = axleId → exec request s = .next (repliedCode 0x81#8 tag .ok s)) ∧
        (i.axleId ≠ axleId → force = false → exec request s = .next (repliedCode 0x81#8 tag .idConflict s)) ∧
        (i.axleId ≠ axleId → force = true → sweepRunning s = true ∨ turningInProgress s = true →
          exec request s = .next (repliedCode 0x81#8 tag .busy s)))) ∧
    (valid = true → ∀ i : Identity, s.pil.seatState = .seated → s.pil.identity = some i → i.axleId ≠ axleId →
      force = true → sweepRunning s = false → turningInProgress s = false →
      ∃ t, exec request s = .next t ∧ t.slp.replySlot = some ⟨0x81#8, tag, .fixed .ok []⟩ ∧
        t.pil = { s.pil with identity := t.pil.identity } ∧
        (t.pmu.record.l = .none ∧ t.pmu.record.r = .none) ∧
        (s.tpe.plan.state ≠ .inUse → t.tpe.plan = .empty (some .seat)) ∧ t.tpe.work = .idle ∧
        (∀ o : OpenRecord, openFind axleId s = some o →
          t.ahs.link = .opened axleId ∧ t.ahs.storeFull = false ∧
          t.pil.identity = some ⟨axleId, o.record.wheelType, o.record.bogieId, o.record.position, .entered⟩) ∧
        (openFind axleId s = none → t.pil.identity = some entered ∧
          ((indexFind axleId s.ahs.index).isSome = true →
            (∀ o : Opening, s.ahs.opening = some o → o.axleId = axleId → o.created = none) →
            t.ahs.link = .waiting axleId ∧ t.ahs.storeFull = false ∧
            ∃ o, t.ahs.opening = some o ∧ o.axleId = axleId ∧ o.seating = true ∧ o.created = none) ∧
          (∀ o : Opening, s.ahs.link = .waiting o.axleId → s.ahs.opening = some o → o.seating = true →
            o.axleId ≠ axleId → o.created.isSome = true → indexFind o.axleId t.ahs.index = none) ∧
          (indexFind axleId s.ahs.index = none → (∀ o : Opening, s.ahs.opening = some o → o.created = none) →
            (s.ahs.index.length < 512 ∧ 2 ≤ spareSlots s →
              readRecord axleId t = some made ∧ t.ahs.storeFull = false) ∧
            (512 ≤ s.ahs.index.length ∨ spareSlots s < 2 → t.ahs.link = .none ∧ t.ahs.storeFull = true))) ∧
        (∀ (old : AxleId) (o : OpenRecord), seatedRecord s = some old → old ≠ axleId → openFind old s = some o →
          o.state = .dirty → old ∈ t.ahs.queue ∧ openFind old t = some o) ∧
        t.ahs.slots = s.ahs.slots ∧ t.blu = s.blu ∧ t.tcu = s.tcu ∧ t.sst = s.sst))

/-- RELEASE_AXLE, with the sensor off and neither a sweep nor a turning in progress, ends the visit: the seat is VACANT
with its identity and its tag absent, both profile records are NONE, the plan is discarded for SEAT unless it is
IN_USE, and no record is the seated one (R8). The record that was seated counts one visit more, up to 65,535, and its
commit is queued, or, while it is COMMITTING, its changed mark set (R150, R151). A TCU that is DONE or ABORTED when the
axle leaves a SEATED seat is IDLE (R130). The bridges, the lift, the monitors' counts, the settings and the slots stay.
That the reason becomes SEAT also where the plan is already NONE, and where the seat is only PRESENT, is the model's
reading (log entry 47). -/
def Obligations.AxleIsReleased : Prop :=
  ∀ (tag : Byte) (s : State), ready s = true → s.pil.seatState ≠ .vacant → s.pil.presence = false →
    sweepRunning s = false → turningInProgress s = false →
    ∃ t, exec (.releaseAxle tag) s = .next t ∧
      t.slp.replySlot = some ⟨0x82#8, tag, .fixed .ok []⟩ ∧
      t.pil = { s.pil with
        seatState := .vacant, identity := none, tagState := .none, tagAttempts := 0, tagId := none } ∧
      t.pmu = { s.pmu with record := .both .none, turnedSince := false } ∧
      (s.tpe.plan.state ≠ .inUse → t.tpe.plan = .empty (some .seat)) ∧ t.tpe.work = .idle ∧
      t.ahs.link = .none ∧ t.ahs.storeFull = false ∧ t.ahs.slots = s.ahs.slots ∧
      (∀ (id : AxleId) (o : OpenRecord), seatedRecord s = some id → openFind id s = some o →
        ∃ o', openFind id t = some o' ∧
          o'.record = { o.record with visits := min 65535 (o.record.visits + 1) } ∧
          (o.state ≠ .committing → o'.state = .dirty ∧ id ∈ t.ahs.queue) ∧
          (o.state = .committing → o'.state = .committing ∧ o'.changed = true)) ∧
      (∀ id ∈ s.ahs.queue, id ∈ t.ahs.queue) ∧
      (s.pil.seatState = .seated →
        t.tcu.state =
          match s.tcu.state with
          | .done => .idle
          | .aborted => .idle
          | x => x) ∧
      t.blu = s.blu ∧ t.sst = s.sst ∧ t.tcu.spindle = s.tcu.spindle ∧ t.tcu.head = s.tcu.head ∧
      (∀ m, (t.fmu.monitors.get m).count = (s.fmu.monitors.get m).count)

/-- BRIDGES, and the pendant's bridge buttons, start every bridge that is not at the end asked for toward it, each with
its travel timer of 10 s and its fault flag clear (R9, R10, R14). -/
def Obligations.BridgesBegin : Prop :=
  ∀ (s : State), settled s = true → s.pil.pitStop = false → bridgesMoving s = false → s.blu.lift = .holding →
    s.sst.active.clearance ≤ mean s → bothClamps .opened s = true → s.tcu.spindle = .stopped → s.pmu.phase = .idle →
    (s.pil.owners.bridges = .link → canDispatch s = true →
      ∀ (tag : Byte) (direction : Nat) (aim : BridgeEnd), directionOf direction = some aim →
        exec (.bridges tag direction) s =
          .next (noted s (repliedCode 0x83#8 tag (if bothBridges (bridgeAt aim) s then .ok else .accepted)
            (bridgesBegun aim s)))) ∧
    (s.pil.owners.bridges = .pendant → s.slp.resetPending = false →
      exec .pendantBridgesIn s = .next (noted s (bridgesBegun .inLine s)) ∧
      exec .pendantBridgesOut s = .next (noted s (bridgesBegun .out s)))

/-- A moving bridge whose switch at the end it goes to is made stands there, its timer stopped and its outcome COMPLETE
(R11). A bridge at an end whose switch drops is HALTED with its fault flag set and the outcome SWITCH_LOST (R9). A
moving bridge whose travel timer expires is HALTED with its fault flag set and the outcome TIMEOUT (R11). A bridge
that leaves OUT because its switch is lost while the spindle is RUNUP or AT_SPEED sends the spindle to RUNDOWN; a
turning in RUNUP, CUTTING or PAUSED becomes PAUSED(LIFT), and a running sweep ends FAILED(SUPPORT) (R9, R45, R92). -/
def Obligations.BridgeEvents : Prop :=
  (∀ (side : Side) (s : State),
     (∀ e : BridgeEnd, (s.pil.bridge.get side).state = bridgeToward e → visitStays s = true →
       exec (.bridgeSwitchMade side e) s = .next (close s (modBridge side (·.arrived e) s))) ∧
     (∀ e : BridgeEnd, (s.pil.bridge.get side).state = bridgeAt e → s.pmu.phase = .idle → spindleRunning s = false →
       exec (.bridgeSwitchDropped side e) s = .next (close s (modBridge side (·.lost e) s))) ∧
     ((s.pil.bridge.get side).moving = true → (s.pil.bridge.get side).travelTimer.isSome = true →
       exec (.bridgeTravelTimerExpiry side) s =
         .next (close s (modBridge side (fun b =>
           { b with state := .halted, fault := true, travelTimer := none, lastOutcome := .timeout }) s)))) ∧
  (∀ (side : Side) (s : State), (s.pil.bridge.get side).state = .out → spindleRunning s = true →
     ∃ t, exec (.bridgeSwitchDropped side .out) s = .next t ∧
       t.pil.bridge = s.pil.bridge.set ((s.pil.bridge.get side).lost .out) side ∧
       t.tcu.spindle = .rundown ∧ t.tcu.stopTimer = some 2000 ∧
       (s.pmu.phase = .idle → turningLive s = true → t.tcu.state = .paused .lift) ∧
       (s.pmu.phase ≠ .idle → t.pmu.phase = .idle ∧ t.pmu.lastSweep = .failed .support) ∧
       t.blu = s.blu ∧ t.sst = s.sst ∧ t.ahs.slots = s.ahs.slots)

/-- The presence sensor that turns on at a VACANT seat makes it PRESENT, and, unless the tag read is held back, begins it:
READING, the first attempt, its transaction at the back of the gauge queue. A read that was held back begins when what
held it back has gone (R2, R3). The presence sensor that turns off at a PRESENT seat makes it VACANT, its tag fields
absent, and abandons the tag read: an attempt still in the gauge queue is run and its result discarded (R7). At a
SEATED seat with the bridges IN and the lift LOWERED it ends the visit (R7, R8): the seat is VACANT with its identity and
its tag absent, both profile records are NONE, the plan is discarded for SEAT unless it is IN_USE, and no record is the
seated one. The record that was seated counts one visit more, up to 65,535, and its commit is queued, or, while it is
COMMITTING, its changed mark set (R150, R151); where the seat has none, cache and commit queue stay. A TCU that
is DONE or ABORTED is IDLE (R130). With the bridges not both IN, or the lift not LOWERED, the axle stays SEATED and the
condition of M13 is handed. That a plan IN_USE is not discarded is log entry 15's reading (R117), and that the reason
becomes SEAT also where the plan is already NONE is log entry 47's. -/
def Obligations.SensorIsFollowed : Prop :=
  (∀ (s : State), settled s = true → readHeldBack s = false →
     (s.pil.seatState = .vacant → s.pil.tagState = .none →
       exec .presenceOn s = .next (noted s { s with
         pil := { s.pil with presence := true, seatState := .present, tagState := .reading, tagAttempts := 1 }
         gbc := { s.gbc with queue := s.gbc.queue ++ [tagTxn] } })) ∧
     (s.pil.seatState = .present → s.pil.tagState = .none →
       exec .tagReadBegin s = .next (noted s { s with
         pil := { s.pil with tagState := .reading, tagAttempts := 1 }
         gbc := { s.gbc with queue := s.gbc.queue ++ [tagTxn] } }))) ∧
  (∀ (s : State), settled s = true →
     (s.pil.seatState = .present →
       exec .presenceOff s = .next (noted s { s with
         pil := { s.pil with presence := false, seatState := .vacant, tagState := .none, tagAttempts := 0, tagId := none }
         gbc := { s.gbc with queue := s.gbc.queue.map fun t =>
           if t.requester = .pilTag then { t with purpose := .discarded } else t } })) ∧
     (s.pil.seatState = .seated → visitEndConditions s = true →
       ∃ t, exec .presenceOff s = .next t ∧
         t.pil = { s.pil with
           presence := false, seatState := .vacant, identity := none, tagState := .none, tagAttempts := 0, tagId := none } ∧
         t.pmu = { s.pmu with record := .both .none, turnedSince := false } ∧
         (s.tpe.plan.state ≠ .inUse → t.tpe.plan = .empty (some .seat)) ∧ t.tpe.work = .idle ∧
         t.ahs.link = .none ∧ t.ahs.storeFull = false ∧ t.ahs.slots = s.ahs.slots ∧
         (∀ (id : AxleId) (o : OpenRecord), seatedRecord s = some id → openFind id s = some o →
           ∃ o', openFind id t = some o' ∧
             o'.record = { o.record with visits := min 65535 (o.record.visits + 1) } ∧
             (o.state ≠ .committing → o'.state = .dirty ∧ id ∈ t.ahs.queue) ∧
             (o.state = .committing → o'.state = .committing ∧ o'.changed = true)) ∧
         (∀ id ∈ s.ahs.queue, id ∈ t.ahs.queue) ∧
         (seatedRecord s = none → t.ahs.cache = s.ahs.cache ∧ t.ahs.queue = s.ahs.queue) ∧
         t.gbc = { s.gbc with queue := s.gbc.queue.map fun t =>
           if t.requester = .pilTag then { t with purpose := .discarded } else t } ∧
         t.tcu = { s.tcu with state :=
           match s.tcu.state with
           | .done => .idle
           | .aborted => .idle
           | x => x } ∧
         t.blu = s.blu ∧ t.sst = s.sst ∧ (∀ m, (t.fmu.monitors.get m).count = (s.fmu.monitors.get m).count)) ∧
     (s.pil.seatState = .seated → visitEndConditions s = false →
       ∃ t, exec .presenceOff s = .next t ∧ t.pil = { s.pil with presence := false } ∧
         (t.fmu.monitors.get .m13).condition = true ∧ t.blu = s.blu ∧ t.tcu = s.tcu ∧ t.ahs = s.ahs))

/-- When the pit stop state becomes ASSERTED nothing in the pit moves: no bridge, no clamp, not the lift, no head, not the
spindle's drive; no sweep and no reference sweep runs (R15). A turning in RUNUP, CUTTING or PAUSED is then
ENDING(ABORTED) or ABORTED, its outcome INTERRUPTED(PIT_STOP) and its plan BROKEN, and each of its heads is HALTED
where it stands unless it is PARKED (R15, R130, R136). Seat, owners, stamp, settings and slots stay. The heads of a
running sweep are taken to travel, to probe or to be HALTED, as the sweep leaves them. The release changes the pit
stop state alone. -/
def Obligations.PitStopHaltsAll : Prop :=
  ∀ (s : State),
    (s.pil.pitStop = false →
      (∀ side, headInSweep side s = true →
        (s.tcu.head.get side).position.active = true ∨ (s.tcu.head.get side).position = .halted) →
      ∃ t, exec .pitStopAsserted s = .next t ∧
        bridgesMoving t = false ∧ clampsMoving t = false ∧ liftMoving t = false ∧ headsActive t = false ∧
        spindleRunning t = false ∧ sweepRunning t = false ∧ anyReference t = false ∧ turningLive t = false ∧
        (liftMoving s = true → t.blu.lift = .halted ∧ t.blu.lastLift = .pitStop) ∧
        (liftMoving s = false → t.blu.lift = s.blu.lift) ∧
        (sweepRunning s = true → t.pmu.lastSweep = .failed .pitStop) ∧
        (turningLive s = true →
          (t.tcu.state = .ending true ∨ t.tcu.state = .aborted) ∧ t.tcu.lastTurn = .interrupted .pitStop ∧
          t.tpe.plan.state = .broken ∧
          ∀ side, referenceRunning side s = false →
            (t.tcu.head.get side).position =
              if (s.tcu.head.get side).position = .parked then .parked else .halted) ∧
        t.pil = { s.pil with pitStop := true, bridge := t.pil.bridge, clearToMove := t.pil.clearToMove } ∧
        t.sst = s.sst ∧ t.ahs.slots = s.ahs.slots) ∧
    (settled s = true →
      exec .pitStopReleased s = .next (noted s { s with pil := { s.pil with pitStop := false } }))

/-- While the pit stop state is ASSERTED every request that would move something is answered STOPPED and changes nothing
else (R10, R18, R24, R38, R39, R87, R101, R123, R124, R134). -/
def Obligations.PitStopRefuses : Prop :=
  ∀ (tag : Byte) (s : State), ready s = true → s.pil.pitStop = true →
    (∀ d, (directionOf d).isSome = true → exec (.bridges tag d) s = .next (repliedCode 0x83#8 tag .stopped s)) ∧
    (∀ h, exec (.lift tag h) s = .next (repliedCode 0x90#8 tag .stopped s)) ∧
    (∀ h, exec (.lower tag h) s = .next (repliedCode 0x92#8 tag .stopped s)) ∧
    exec (.takeLoad tag) s = .next (repliedCode 0x91#8 tag .stopped s) ∧
    exec (.clampClose tag) s = .next (repliedCode 0x94#8 tag .stopped s) ∧
    exec (.clampOpen tag) s = .next (repliedCode 0x95#8 tag .stopped s) ∧
    (∀ w, (wheelsOf w).isSome = true → exec (.sweep tag w) s = .next (repliedCode 0xA8#8 tag .stopped s)) ∧
    (∀ h, (sideOf h).isSome = true → exec (.referenceSweep tag h) s = .next (repliedCode 0xAA#8 tag .stopped s)) ∧
    (∀ h, (sideOf h).isSome = true → exec (.home tag h) s = .next (repliedCode 0xBC#8 tag .stopped s)) ∧
    exec (.turn tag) s = .next (repliedCode 0xB8#8 tag .stopped s) ∧
    exec (.resume tag) s = .next (repliedCode 0xBA#8 tag .stopped s)

/-! ## The lift and the clamps -/

/-- LIFT, LOWER, TAKE_LOAD and the pendant's jog start a move of a lift at rest, where the lift's own conditions stand and
its height calls for one: the state, the move kind and the target as R25 to R27 and R30 give them. A height above
250,000 µm is brought to it, with CLAMPED in place of ACCEPTED or OK. No monitor of M1 to M5 waits for its stroke and no
sweep runs: then nothing else changes but what follows the lift's state. LIFT, LOWER and TAKE_LOAD taken in motion
redirect the move: the state, the kind and the target become those of the new move, and nothing else changes (R28). A
LIFT within 200 µm of the mean is answered OK: at rest it sets the target alone, in motion the lift comes to rest
ARRIVED (R25); and TAKE_LOAD with all four posts BEARING brings a moving lift to rest LOADED (R27). HALT_LIFT is refused
FAULTED while the lift is HALTED, changes nothing while it is at rest, and brings a moving lift to rest with the
outcome HALT_REQUEST, whoever owns the group and while the pit stop state is ASSERTED (R23, R29). The release of the
button that holds a jog ends it with JOG_ENDED (R30). That any other release changes nothing, that a redirected move is
no stroke start, and that a LIFT at rest takes the target are the model's choice (log entries 32, 35 and 36). -/
def Obligations.LiftMoves : Prop :=
  ((∀ (s : State), settled s = true → liftMoving s = false → s.pmu.phase = .idle →
      noneTripped [.m1, .m2, .m3, .m4, .m5] s = true →
      (canDispatch s = true → liftRefusal .link s = none →
        ∀ (tag : Byte) (height : Nat),
          (mean s + 200 < min height 250000 →
            exec (.lift tag height) s =
              .next (close s (repliedCode 0x90#8 tag (if 250000 < height then .clamped else .accepted)
                (liftStarted .rising .target (min height 250000) s)))) ∧
          (min height 250000 + 200 < mean s →
            exec (.lift tag height) s =
              .next (close s (repliedCode 0x90#8 tag (if 250000 < height then .clamped else .accepted)
                (liftStarted .lowering .target (min height 250000) s)))) ∧
          (0 < height → min height 250000 + 200 < mean s →
            exec (.lower tag height) s =
              .next (close s (repliedCode 0x92#8 tag (if 250000 < height then .clamped else .accepted)
                (liftStarted .lowering .target (min height 250000) s)))) ∧
          (allHome s = false →
            exec (.lower tag 0) s = .next (close s (repliedCode 0x92#8 tag .accepted (liftStarted .lowering .home 0 s)))) ∧
          (allBearing s = false →
            exec (.takeLoad tag) s =
              .next (close s (repliedCode 0x91#8 tag .accepted (liftStarted .rising .load 250000 s))))) ∧
      (s.slp.resetPending = false → liftRefusal .pendant s = none → jogging s = false →
        exec .pendantJogUp s = .next (close s (liftStarted .rising .jog 250000 s)) ∧
        exec .pendantJogDown s = .next (close s (liftStarted .lowering .jog 0 s)))) ∧
   (∀ (tag : Byte) (height : Nat) (s : State), ready s = true → liftRefusal .link s = none →
      let aim := min height 250000
      let acceptedAs := if 250000 < height then Code.clamped else .accepted
      let okAs := if 250000 < height then Code.clamped else .ok
      (liftMoving s = true →
        (mean s + 200 < aim →
          exec (.lift tag height) s =
            .next (close s (repliedCode 0x90#8 tag acceptedAs (liftStarted .rising .target aim s)))) ∧
        (aim + 200 < mean s →
          exec (.lift tag height) s =
            .next (close s (repliedCode 0x90#8 tag acceptedAs (liftStarted .lowering .target aim s)))) ∧
        (0 < height → aim + 200 < mean s →
          exec (.lower tag height) s =
            .next (close s (repliedCode 0x92#8 tag acceptedAs (liftStarted .lowering .target aim s)))) ∧
        exec (.lower tag 0) s = .next (close s (repliedCode 0x92#8 tag .accepted (liftStarted .lowering .home 0 s))) ∧
        (aim ≤ mean s + 200 → mean s ≤ aim + 200 → visitStays s = true →
          exec (.lift tag height) s = .next (close s (repliedCode 0x90#8 tag okAs (liftRested .arrived s)))) ∧
        (allBearing s = false →
          exec (.takeLoad tag) s =
            .next (close s (repliedCode 0x91#8 tag .accepted (liftStarted .rising .load 250000 s)))) ∧
        (allBearing s = true → visitStays s = true →
          exec (.takeLoad tag) s = .next (close s (repliedCode 0x91#8 tag .ok (liftRested .loaded s))))) ∧
      (liftMoving s = false →
        (aim ≤ mean s + 200 → mean s ≤ aim + 200 →
          exec (.lift tag height) s =
            .next (noted s (repliedCode 0x90#8 tag okAs (s.modBlu fun b => { b with target := aim })))) ∧
        (allBearing s = true → exec (.takeLoad tag) s = .next (repliedCode 0x91#8 tag .ok s))))) ∧
  (∀ (s : State), settled s = true → visitStays s = true →
     (canDispatch s = true →
       ∀ tag : Byte,
         (s.blu.lift = .halted → exec (.haltLift tag) s = .next (repliedCode 0x93#8 tag .faulted s)) ∧
         (s.blu.lift = .lowered ∨ s.blu.lift = .holding →
           exec (.haltLift tag) s = .next (repliedCode 0x93#8 tag .ok s)) ∧
         (liftMoving s = true →
           exec (.haltLift tag) s = .next (close s (repliedCode 0x93#8 tag .ok (liftRested .haltRequest s))))) ∧
     (∀ button : JogButton,
       exec (.pendantJogRelease button) s =
         .next (if s.blu.kind = some .jog ∧ s.blu.lift = (match button with | .up => .rising | .down => .lowering) then
             close s (liftRested .jogEnded s)
           else s)))

/-- A lift control period takes the positions and the loads, and finds the zones and the tilt from them (R20, R21, R33).
A move that has arrived, by the table of R31, comes to rest with its outcome, LOWERED or HOLDING by the posts, its
target the mean and its steps 0 (R23); one that has not arrived goes on, with its four levelling steps set (R32). A lift
at rest follows its posts between LOWERED and HOLDING and records no outcome (R23); a HALTED lift stays as it is (R34).
A running sweep goes on while the lift stays HOLDING and no post leaves BEARING. The bridges stand still. A post that
leaves BEARING in the period ends a running sweep FAILED(SUPPORT), with its measuring run, in any phase (R92); with the
spindle RUNUP or AT_SPEED it sends the spindle to RUNDOWN, and a turning is PAUSED(LOAD) (R37). That it ends a sweep
also with the spindle STOPPED or in RUNDOWN, where R37 gives the post no effect beyond its zone, is the model's reading
(log entry 63, DEDUCED). The step of a post is the one R32 gives: the nominal step corrected by its error mode, never
below 0, cut at the end of the post's travel, and 0 in a LOAD move for a post that is BEARING or OVERLOAD; so a post
that lags never steps less than one that leads. -/
def Obligations.LiftPeriodLevels : Prop :=
  (∀ (positions loads : Four Nat) (s : State), spindleRunning s = false →
    (s.pmu.phase = .idle ∨
      (s.blu.lift = .holding ∧ positions.all (· ≤ 500) = false ∧ BearingKept loads s)) →
    bridgesMoving s = false → visitStays s = true →
    let m := (positions.p1 + positions.p2 + positions.p3 + positions.p4) / 4
    let home := positions.all (· ≤ 500)
    let zone := fun post => zoneAfter s.sst.active (s.blu.posts.get post).zone (min (loads.get post) 30000)
    let bearing := [Post.p1, .p2, .p3, .p4].all fun post => zone post == .bearing
    let arrived : Option LiftOutcome :=
      match s.blu.kind, s.blu.lift with
      | some .target, .rising => if s.blu.target ≤ m + 200 then some .arrived else none
      | some .target, .lowering => if m ≤ s.blu.target + 200 then some .arrived else none
      | some .home, .lowering => if home then some .arrived else none
      | some .load, .rising => if bearing then some .loaded else if 249800 ≤ m then some .noLoad else none
      | some .jog, .rising => if 249800 ≤ m then some .jogEnded else none
      | some .jog, .lowering => if home then some .jogEnded else none
      | _, _ => none
    (liftMoving s = true → s.blu.kind = some .load → s.blu.lift = .rising) →
    ∃ t, exec (.liftControlPeriodExpiry positions loads) s = .next t ∧
      t.blu.posts.map PostRecord.position = positions ∧
      t.blu.posts.map PostRecord.load = loads.map (fun x => min x 30000) ∧
      (∀ post, (t.blu.posts.get post).zone = zone post) ∧
      (t.fmu.monitors.get .m5).condition = decide (s.sst.active.tiltLimit < spread t) ∧
      (liftMoving s = true →
        (∀ outcome, arrived = some outcome →
          t.blu.lift = (if home then .lowered else .holding) ∧ t.blu.kind = none ∧
          t.blu.target = m ∧ t.blu.lastLift = outcome ∧ ∀ post, (t.blu.posts.get post).step = 0) ∧
        (arrived = none →
          t.blu.lift = s.blu.lift ∧ t.blu.kind = s.blu.kind ∧ t.blu.target = s.blu.target ∧
          t.blu.lastLift = s.blu.lastLift ∧
          ∀ post, (t.blu.posts.get post).step =
            stepOf s.sst.active (s.blu.lift == .rising) (s.blu.kind == some .load) m (t.blu.posts.get post))) ∧
      (liftMoving s = false → s.blu.kind = none →
        t.blu.lift = (if s.blu.lift = .halted then .halted else if home then .lowered else .holding) ∧
        t.blu.kind = none ∧ t.blu.target = s.blu.target ∧ t.blu.lastLift = s.blu.lastLift ∧
        ∀ post, (t.blu.posts.get post).step = (s.blu.posts.get post).step) ∧
      t.pil.bridge = s.pil.bridge ∧ t.blu.clamp = s.blu.clamp ∧ t.tcu = s.tcu ∧ t.pmu = s.pmu ∧ t.ahs = s.ahs ∧
      t.sst = s.sst) ∧
  (∀ (positions loads : Four Nat) (post : Post) (s : State), spindleRunning s = true ∨ s.pmu.phase ≠ .idle →
    visitStays s = true →
    let zone := fun post => zoneAfter s.sst.active (s.blu.posts.get post).zone (min (loads.get post) 30000)
    (s.blu.posts.get post).zone = .bearing → zone post ≠ .bearing →
    ∃ t, exec (.liftControlPeriodExpiry positions loads) s = .next t ∧
      t.blu.posts.map PostRecord.position = positions ∧
      t.blu.posts.map PostRecord.load = loads.map (fun x => min x 30000) ∧
      (∀ post, (t.blu.posts.get post).zone = zone post) ∧ LoadLost s t ∧
      t.blu.clamp = s.blu.clamp ∧ t.ahs.slots = s.ahs.slots ∧ t.sst = s.sst) ∧
  (∀ (st : Settings) (rising load : Bool) (mean : Int) (p : PostRecord), p.position ≤ 250000 →
    let nominal : Int := 20 * st.liftSpeed
    let c : Int :=
      match st.liftMode with
      | .full => max (-(nominal / 2)) (min (nominal / 2) ((st.kpLift * (mean - p.position)).tdiv 4))
      | .oneStep => if p.position < mean then 20 else if mean < p.position then -20 else 0
    (load = true → (p.zone = .bearing ∨ p.zone = .overload) → stepOf st rising load mean p = 0) ∧
    ((load = false ∨ p.zone = .free ∨ p.zone = .taking) →
      (rising = true → (stepOf st rising load mean p : Int) = min (max 0 (nominal + c)) (250000 - p.position)) ∧
      (rising = false → (stepOf st rising load mean p : Int) = min (max 0 (nominal - c)) p.position))) ∧
  (∀ (st : Settings) (mean : Int) (p q : PostRecord), p.position ≤ q.position → q.position ≤ 250000 →
    stepOf st true false mean q ≤ stepOf st true false mean p ∧
    stepOf st false false mean p ≤ stepOf st false false mean q)

/-- A change of one load cell finds that post's zone, from the load saturated at 30,000 daN, and leaves the other posts'
loads (R20, R21). A LOAD move ends at the change by which all four posts are BEARING, LOADED, the lift at rest with its
mean the target; until then it goes on (R27, R31). A change by which the post leaves BEARING ends a running sweep
FAILED(SUPPORT), with its measuring run, in any phase (R92); with the spindle RUNUP or AT_SPEED it sends the spindle to
RUNDOWN, and a turning in RUNUP, CUTTING or PAUSED is PAUSED(LOAD), its heads withdrawing (R37). With the spindle
STOPPED or in RUNDOWN and no sweep running it has no effect beyond the zone: spindle, turning and heads stay as they are
(R37). That a sweep ends there too, where R37 gives the post no effect beyond its zone, is the model's reading (log
entry 63, DEDUCED). A sweep goes on at a change by which no post leaves BEARING. The zone after a change of load is the
one the thresholds give: a load at or above a threshold reaches its zone, and a zone is left downwards only by a load
more than 50 daN below its bottom threshold (R21). The thresholds are those of an ordered set of settings. -/
def Obligations.ZoneFollowsLoad : Prop :=
  (∀ (post : Post) (load : Nat) (positions : Four Nat) (s : State), spindleRunning s = false →
     bridgesMoving s = false → s.blu.kind ≠ some .load → (s.blu.posts.all fun p => p.load ≤ 30000) = true →
     (s.pmu.phase = .idle ∨ BearingKept ((s.blu.posts.map PostRecord.load).set load post) s) →
     ∃ t, exec (.loadChange post load positions) s = .next t ∧
       t.blu.posts.map PostRecord.position = positions ∧
       t.blu.posts.map PostRecord.load = (s.blu.posts.map PostRecord.load).set (min load 30000) post ∧
       (t.blu.posts.get post).zone = zoneAfter s.sst.active (s.blu.posts.get post).zone (min load 30000) ∧
       t.blu.lift = s.blu.lift ∧ t.blu.kind = s.blu.kind ∧ t.blu.target = s.blu.target ∧
       t.blu.lastLift = s.blu.lastLift ∧ t.blu.clamp = s.blu.clamp ∧ t.pil.bridge = s.pil.bridge ∧ t.pmu = s.pmu ∧
       t.tcu = s.tcu ∧ t.gbc = s.gbc ∧ t.tpe = s.tpe ∧ t.ahs = s.ahs ∧ t.sst = s.sst) ∧
  (∀ (post : Post) (load : Nat) (positions : Four Nat) (s : State), spindleRunning s = false →
     bridgesMoving s = false → visitStays s = true → s.blu.kind = some .load →
     (s.blu.posts.all fun p => p.load ≤ 30000) = true →
     (s.pmu.phase = .idle ∨ BearingKept ((s.blu.posts.map PostRecord.load).set load post) s) →
     let loadOf := fun p => if p = post then min load 30000 else (s.blu.posts.get p).load
     let bearing := [Post.p1, .p2, .p3, .p4].all fun p =>
       zoneAfter s.sst.active (s.blu.posts.get p).zone (loadOf p) == .bearing
     ∃ t, exec (.loadChange post load positions) s = .next t ∧ t.blu.posts.map PostRecord.position = positions ∧
       (bearing = true →
         t.blu.lift = (if positions.all (· ≤ 500) then .lowered else .holding) ∧ t.blu.kind = none ∧
         t.blu.target = (positions.p1 + positions.p2 + positions.p3 + positions.p4) / 4 ∧ t.blu.lastLift = .loaded ∧
         ∀ p, (t.blu.posts.get p).step = 0) ∧
       (bearing = false →
         t.blu.lift = s.blu.lift ∧ t.blu.kind = s.blu.kind ∧ t.blu.target = s.blu.target ∧
         t.blu.lastLift = s.blu.lastLift ∧ ∀ p, (t.blu.posts.get p).step = (s.blu.posts.get p).step) ∧
       t.blu.clamp = s.blu.clamp ∧ t.tcu = s.tcu ∧ t.pmu = s.pmu ∧ t.pil.bridge = s.pil.bridge ∧ t.ahs = s.ahs ∧
       t.sst = s.sst) ∧
  (∀ (post : Post) (load : Nat) (positions : Four Nat) (s : State), spindleRunning s = true ∨ s.pmu.phase ≠ .idle →
     let zone := zoneAfter s.sst.active (s.blu.posts.get post).zone (min load 30000)
     (s.blu.posts.get post).zone = .bearing → zone ≠ .bearing →
     ∃ t, exec (.loadChange post load positions) s = .next t ∧ t.blu.posts.map PostRecord.position = positions ∧
       (t.blu.posts.get post).load = min load 30000 ∧ (t.blu.posts.get post).zone = zone ∧ LoadLost s t ∧
       t.blu.lift = s.blu.lift ∧ t.blu.kind = s.blu.kind ∧ t.blu.clamp = s.blu.clamp ∧ t.ahs.slots = s.ahs.slots ∧
       t.sst = s.sst) ∧
  (∀ (st : Settings) (z : Zone) (load : Nat), settingsOrdered st = true →
     (zoneAfter st z load = .overload ↔
       st.overload ≤ load ∨ (z = .overload ∧ st.overload ≤ load + 50)) ∧
     (zoneAfter st z load = .free ↔
       load < st.contact ∧ (z = .free ∨ load + 50 < st.contact)) ∧
     (zoneAfter st z load = .taking ↔
       (st.contact ≤ load ∨ (z ≠ .free ∧ st.contact ≤ load + 50)) ∧ load < st.bearing ∧
         (z = .free ∨ z = .taking ∨ load + 50 < st.bearing)))

/-- CLAMP_CLOSE and CLAMP_OPEN, and the pendant's clamp buttons, start every clamp that is not at the end asked for toward
it, with its move timer (R14, R38, R39). A CLAMP_OPEN that moves a clamp while the lift is RISING or LOWERING first
brings the lift to rest with the outcome HANDSHAKE, in the same action, and the clamps then open and complete as any
other; with both clamps OPEN it is answered OK and the lift goes on (R39). In SENSOR mode a moving clamp whose switch at
its goal is made is at that end; a switch that drops changes its level alone, of which M6 or M7 sees what follows. The
move timer completes a move in TIMED mode; in SENSOR mode it makes the timeout condition present while the monitor takes
action, and completes the move UNCONFIRMED while it is OFF or WARN_ONLY (R41, R42). -/
def Obligations.ClampsMove : Prop :=
  (∀ (s : State), settled s = true → s.pil.pitStop = false → clampsMoving s = false → liftMoving s = false →
     s.pmu.phase = .idle → noneTripped [.m6, .m7] s = true →
     (s.blu.lift = .holding → bothBridges .out s = true → s.pil.seatState = .seated →
       (s.pil.owners.clamps = .link → canDispatch s = true →
         ∀ tag : Byte, exec (.clampClose tag) s =
           .next (close s (repliedCode 0x94#8 tag (if bothClamps .closed s then .ok else .accepted)
             (clampsBegun .closed s)))) ∧
       (s.pil.owners.clamps = .pendant → s.slp.resetPending = false →
         exec .pendantClampsClose s = .next (close s (clampsBegun .closed s)))) ∧
     (s.tcu.spindle = .stopped →
       (s.tcu.head.any fun h => h.position == .inCut || h.position == .probing) = false →
       (s.pil.owners.clamps = .link → canDispatch s = true →
         ∀ tag : Byte, exec (.clampOpen tag) s =
           .next (close s (repliedCode 0x95#8 tag (if bothClamps .opened s then .ok else .accepted)
             (clampsBegun .opened s)))) ∧
       (s.pil.owners.clamps = .pendant → s.slp.resetPending = false →
         exec .pendantClampsOpen s = .next (close s (clampsBegun .opened s))))) ∧
  (∀ (s : State), settled s = true → s.pil.pitStop = false → clampsMoving s = false → liftMoving s = true →
     visitStays s = true → s.pmu.phase = .idle → noneTripped [.m6, .m7] s = true → s.tcu.spindle = .stopped →
     (s.tcu.head.any fun h => h.position == .inCut || h.position == .probing) = false →
     (bothClamps .opened s = false →
       (s.pil.owners.clamps = .link → canDispatch s = true →
         ∀ tag : Byte, exec (.clampOpen tag) s =
             .next (close s (repliedCode 0x95#8 tag .accepted (clampsBegun .opened (liftRested .handshake s)))) ∧
           ∀ (t : State) (side : Side), exec (.clampOpen tag) s = .next t → (s.blu.clamp.get side).state ≠ .opened →
             ∀ i, i = .clampSwitchMade side .opened ∧ s.sst.active.clampMode = .sensor ∨
               i = .clampMoveTimerExpiry side ∧ s.sst.active.clampMode = .timed →
             ∃ u, exec i t = .next u ∧ (u.blu.clamp.get side).state = .opened ∧
               (u.blu.clamp.get side).moveTimer = none ∧ (u.blu.clamp.get side).lastOutcome = .complete ∧
               u.blu.clamp.get side.other = t.blu.clamp.get side.other ∧
               u.blu.lift = (if allHome s then .lowered else .holding) ∧ u.blu.lastLift = .handshake) ∧
       (s.pil.owners.clamps = .pendant → s.slp.resetPending = false →
         exec .pendantClampsOpen s = .next (close s (clampsBegun .opened (liftRested .handshake s))))) ∧
     (bothClamps .opened s = true →
       (s.pil.owners.clamps = .link → canDispatch s = true →
         ∀ tag : Byte, exec (.clampOpen tag) s = .next (repliedCode 0x95#8 tag .ok s)) ∧
       (s.pil.owners.clamps = .pendant → s.slp.resetPending = false → exec .pendantClampsOpen s = .next s))) ∧
  (∀ (side : Side) (s : State),
     (∀ e : ClampEnd, s.sst.active.clampMode = .sensor → (s.blu.clamp.get side).state = clampToward e →
       exec (.clampSwitchMade side e) s =
         .next (close s (modClamp side
           (fun c => ({ c with switches := putClampSwitch c.switches true e } : Clamp).ended .complete) s))) ∧
     (∀ e : ClampEnd,
       exec (.clampSwitchDropped side e) s =
         .next (close s (modClamp side (fun c => { c with switches := putClampSwitch c.switches false e }) s))) ∧
     ((s.blu.clamp.get side).moving = true → (s.blu.clamp.get side).moveTimer.isSome = true →
       (s.sst.active.clampMode = .timed →
         exec (.clampMoveTimerExpiry side) s = .next (close s (modClamp side (·.ended .complete) s))) ∧
       (s.sst.active.clampMode = .sensor →
         (s.sst.active.monitorMode.get (clampMonitor side) = .latched ∨
           s.sst.active.monitorMode.get (clampMonitor side) = .perStroke) →
         exec (.clampMoveTimerExpiry side) s =
           .next (close s (modClamp side (fun c => { c with moveTimer := none, timeout := true }) s))) ∧
       (s.sst.active.clampMode = .sensor →
         (s.sst.active.monitorMode.get (clampMonitor side) = .off ∨
           s.sst.active.monitorMode.get (clampMonitor side) = .warnOnly) →
         exec (.clampMoveTimerExpiry side) s = .next (close s (modClamp side (·.ended .unconfirmed) s)))))

/-! ## The fault monitors -/

/-- CLEAR_FAULT makes every named monitor that has tripped QUIET, if the condition of none of them is present, and leaves
every other monitor; a set that names a bit above M13 is BAD_PARAMETER, and a named monitor that has tripped with its
condition present makes it CONDITION_PRESENT (R60). A lift that is HALTED leaves it at a CLEAR_FAULT that leaves none of
M1 to M5 and M13 LATCHED with the pit stop state CLEAR: it is at rest, LOWERED or HOLDING by its posts (R35). The start
of a monitor's next stroke tests one that is TRIPPED, blanking apart (R58): with its condition absent the command has
the effect it has with the monitor QUIET, and with its condition present the monitor trips again at once under its mode,
the action falling on the stroke that has just begun. So at a lift move, a clamp move, the run up of a turning, the
beginning of a cut, the claim of a head by a reference sweep, and the seating of an axle. -/
def Obligations.FaultsAreCleared : Prop :=
  (∀ (tag : Byte) (set : BitVec 16) (s : State), ready s = true → s.blu.lift ≠ .halted →
     (8192 ≤ set.toNat → exec (.clearFault tag set) s = .next (repliedCode 0xA0#8 tag .badParameter s)) ∧
     (set.toNat < 8192 →
       (∃ m, named set m = true ∧ (s.fmu.monitors.get m).hasTripped = true ∧ (s.fmu.monitors.get m).condition = true) →
       exec (.clearFault tag set) s = .next (repliedCode 0xA0#8 tag .conditionPresent s)) ∧
     (set.toNat < 8192 →
       (∀ m, named set m = true → (s.fmu.monitors.get m).hasTripped = true →
         (s.fmu.monitors.get m).condition = false) →
       ∃ t, exec (.clearFault tag set) s = .next t ∧ t.slp.replySlot = some ⟨0xA0#8, tag, .fixed .ok []⟩ ∧
         (∀ m, t.fmu.monitors.get m =
           if named set m && (s.fmu.monitors.get m).hasTripped then
             { s.fmu.monitors.get m with state := .quiet, timer := none, recurrence := .none }
           else s.fmu.monitors.get m) ∧
         t.pil = s.pil ∧ t.blu = s.blu ∧ t.pmu = s.pmu ∧ t.tcu = s.tcu ∧ t.tpe = s.tpe ∧ t.ahs = s.ahs ∧ t.sst = s.sst)) ∧
  (∀ (tag : Byte) (set : BitVec 16) (s : State), ready s = true → s.blu.lift = .halted → s.pil.pitStop = false →
     visitStays s = true → set.toNat < 8192 →
     (∀ m, named set m = true → (s.fmu.monitors.get m).hasTripped = true →
       (s.fmu.monitors.get m).condition = false) →
     (∀ m ∈ [MonitorId.m1, .m2, .m3, .m4, .m5, .m13], latched m s = true → named set m = true) →
     ∃ t, exec (.clearFault tag set) s = .next t ∧ t.slp.replySlot = some ⟨0xA0#8, tag, .fixed .ok []⟩ ∧
       t.blu.lift = (if allHome s then .lowered else .holding) ∧ t.blu.kind = none ∧ t.blu.target = mean s ∧
       t.blu.lastLift = s.blu.lastLift ∧ t.blu.clamp = s.blu.clamp ∧ t.tcu = s.tcu ∧ t.pil.bridge = s.pil.bridge) ∧
  (∀ (s : State), settled s = true → s.slp.resetPending = false → s.pmu.phase = .idle →
     let waits := fun m => (s.fmu.monitors.get m).state = .tripped
     let again := fun (m : MonitorId) (t : State) =>
       (t.fmu.monitors.get m).count = min 255 ((s.fmu.monitors.get m).count + 1) ∧
       (s.sst.active.monitorMode.get m = .latched → (t.fmu.monitors.get m).state = .latched) ∧
       (s.sst.active.monitorMode.get m = .perStroke → (t.fmu.monitors.get m).state = .tripped)
     let acts := fun m => s.sst.active.monitorMode.get m = .latched ∨ s.sst.active.monitorMode.get m = .perStroke
     (liftRefusal .pendant s = none → liftMoving s = false → jogging s = false →
       ((∀ m ∈ [MonitorId.m1, .m2, .m3, .m4, .m5], waits m → ownerCondition s m = false) →
         exec .pendantJogUp s = exec .pendantJogUp (quieted [.m1, .m2, .m3, .m4, .m5] s)) ∧
       (∀ m ∈ [MonitorId.m1, .m2, .m3, .m4, .m5], waits m → ownerCondition s m = true → acts m →
         ∃ t, exec .pendantJogUp s = .next t ∧ t.blu.lift = .halted ∧ t.blu.lastLift = .tripped ∧ again m t)) ∧
     (s.pil.pitStop = false → s.pil.owners.clamps = .pendant → clampsMoving s = false → s.blu.lift = .holding →
       bothBridges .out s = true → s.pil.seatState = .seated →
       (∀ side, waits (clampMonitor side) → (s.blu.clamp.get side).state ≠ .closed ∧
         ((s.blu.clamp.get side).switches.closedMade && (s.blu.clamp.get side).switches.openMade) = false) →
       exec .pendantClampsClose s = exec .pendantClampsClose (quieted [.m6, .m7] s)) ∧
     (∀ (tag : Byte) (code : Nat) (side : Side), canDispatch s = true → sideOf code = some side →
       s.pil.pitStop = false → s.pil.owners.heads = .link → (s.tcu.head.get side).owner = .none →
       (s.tcu.head.get side).position = .parked → waits (overtravelOf side) →
       ((s.fmu.monitors.get (overtravelOf side)).condition = false →
         exec (.referenceSweep tag code) s = exec (.referenceSweep tag code) (quieted [overtravelOf side] s)) ∧
       ((s.fmu.monitors.get (overtravelOf side)).condition = true → acts (overtravelOf side) →
         ∃ t, exec (.referenceSweep tag code) s = .next t ∧ (t.tcu.head.get side).position = .halted ∧
           (t.pmu.head.get side).reference = .idle ∧ (t.pmu.head.get side).lastReference = .failed .overtravel ∧
           again (overtravelOf side) t)) ∧
     (∀ (interval : Nat) (forcesL forcesR : List Nat) (side : Side), (s.tcu.head.get side).position = .moving →
       (s.tcu.head.get side).dest = some .awaitIndex → waits (forceOf side) →
       ((s.tcu.head.get side).force ≤ s.sst.active.forceLimit →
         exec (.indexEvent interval forcesL forcesR) s =
           exec (.indexEvent interval forcesL forcesR) (quieted [forceOf side] s)) ∧
       (s.sst.active.forceLimit < (s.tcu.head.get side).force → acts (forceOf side) → s.tcu.state = .cutting →
         ∃ t, exec (.indexEvent interval forcesL forcesR) s = .next t ∧ t.tcu.state = .paused .force ∧
           (t.tcu.head.get side).position = .moving ∧ (t.tcu.head.get side).dest = some .retracted ∧
           again (forceOf side) t)) ∧
     (∀ tag : Byte, canDispatch s = true → s.pil.pitStop = false → s.pil.owners.heads = .link → tcuFree s = true →
       (s.tcu.head.all fun h => h.owner == .none) = true → turnBlocked s = false → planFits s = true →
       turnSupported s = true → s.tcu.spindle = .stopped → (s.tcu.head.all fun h => h.position == .parked) = true →
       toolsReady s .l = true → toolsReady s .r = true → s.slp.silenceHold = false →
       exec (.turn tag) s = exec (.turn tag) (quieted [.m8] s)) ∧
     (∀ (tag : Byte) (axleId : AxleId) (wheelType : Nat) (bogieId : BogieId) (position : Nat) (force : Bool),
       canDispatch s = true → idValid 10 axleId = true → idValid 8 bogieId = true → wheelType ≤ 7 → 1 ≤ position →
       position ≤ 3 → s.pil.seatState = .present → s.pil.tagState = .failed → s.pil.presence = true →
       exec (.seatAxle tag axleId wheelType bogieId position force) s =
         exec (.seatAxle tag axleId wheelType bogieId position force) (quieted [.m13] s)))

/-- The expiry of a deglitch timer trips the monitor under its mode: LATCHED, TRIPPED or WARNED, the trip count one higher
up to 255, the timer stopped; a mode that takes no action changes nothing but the monitors and the line. It trips so
from DEGLITCH, and again from LATCHED or TRIPPED where the condition has returned (R50, R51). What a trip does (3.4): of
M1 to M5 the lift is HALTED and a sweep ends FAILED(SUPPORT); of M6 or M7 the clamp is FAILED unless it is HALTED, and a
sweep it held ends so too; of M8 a sweep on its measuring run ends FAILED(SLIP); of each of these the spindle's drive is
off and a turning is PAUSED with the cause LIFT, CLAMP or SLIP, its heads withdrawing (R52 to R54). Of M9 or M10 the
head withdraws from the cut, its pass INCOMPLETE, and with scope PIT the other too; a turning that is CUTTING is
PAUSED(FORCE) (R55). Of M11 or M12 a head that travels or probes is HALTED, and the sweep or reference sweep that uses
it ends FAILED(OVERTRAVEL) (R56). A trip of M13 halts everything in the pit that moves: lift, clamps, bridges, sweeps
and heads, but for heads a sweep sends home; and a turning is ENDING(ABORTED) or ABORTED with the outcome
INTERRUPTED(PRESENCE_LOST) and its plan BROKEN (R57, R136). -/
def Obligations.MonitorsTrip : Prop :=
  (∀ (m : MonitorId) (s : State), tripDue m s = true →
     ∃ t, exec (.deglitchTimerExpiry m) s = .next t ∧
       (s.sst.active.monitorMode.get m ≠ .off →
         (t.fmu.monitors.get m).count = min 255 ((s.fmu.monitors.get m).count + 1)) ∧
       (s.sst.active.monitorMode.get m = .latched →
         (t.fmu.monitors.get m).state = .latched ∧ (t.fmu.monitors.get m).timer = none) ∧
       (s.sst.active.monitorMode.get m = .perStroke →
         (t.fmu.monitors.get m).state = .tripped ∧ (t.fmu.monitors.get m).timer = none) ∧
       (s.sst.active.monitorMode.get m = .warnOnly →
         t.blu = s.blu ∧ t.tcu = s.tcu ∧ t.pmu = s.pmu ∧ t.pil.bridge = s.pil.bridge ∧ t.ahs = s.ahs ∧
         (settled s = true → (t.fmu.monitors.get m).state = .warned ∧ (t.fmu.monitors.get m).timer = none)) ∧
       t.sst = s.sst ∧ t.ahs.slots = s.ahs.slots) ∧
  (∀ (m : MonitorId) (s : State), tripDue m s = true →
     (s.sst.active.monitorMode.get m = .latched ∨ s.sst.active.monitorMode.get m = .perStroke) →
     let withdraws := fun (t : State) (side : Side) =>
       (s.tcu.head.get side).approaching = true ∨ (s.tcu.head.get side).position = .inCut →
         (t.tcu.head.get side).position = .moving ∧ (t.tcu.head.get side).dest = some .retracted ∧
         (passStatus side s = some .active → passStatus side t = some .incomplete)
     let pauses := fun (cause : PauseCause) (t : State) =>
       turningLive s = true → t.tcu.state = .paused cause ∧ (s.pmu.phase = .idle → ∀ side, withdraws t side)
     ∃ t, exec (.deglitchTimerExpiry m) s = .next t ∧
       (m ∈ [MonitorId.m1, .m2, .m3, .m4, .m5] →
         t.blu.lift = .halted ∧ spindleRunning t = false ∧ (s.blu.lift ≠ .halted → bridgesMoving t = false) ∧
         (liftMoving s = true → t.blu.lastLift = .tripped) ∧ pauses .lift t ∧
         (sweepRunning s = true → t.pmu.phase = .idle ∧ t.pmu.lastSweep = .failed .support)) ∧
       (∀ side, m = clampMonitor side → (s.blu.clamp.get side).state ≠ .halted →
         (t.blu.clamp.get side).state = .failed ∧ t.blu.clamp.get side.other = s.blu.clamp.get side.other ∧
         ((s.blu.clamp.get side).state ≠ .failed →
           spindleRunning t = false ∧ pauses .clamp t ∧
           ((s.blu.clamp.get side).state = .closed → sweepRunning s = true →
             t.pmu.phase = .idle ∧ t.pmu.lastSweep = .failed .support))) ∧
       (m = .m8 → spindleRunning t = false ∧ pauses .slip t ∧
         (s.tcu.measuring = true → sweepRunning s = true →
           t.pmu.phase = .idle ∧ t.pmu.lastSweep = .failed .slip)) ∧
       (∀ side, m = forceOf side → (t.tcu.head.get side).position ≠ .inCut ∧ t.tcu.spindle = s.tcu.spindle ∧
         t.tcu.state = (if s.tcu.state = .cutting then .paused .force else s.tcu.state) ∧ withdraws t side ∧
         (s.sst.active.scope.get side = .side → t.tcu.head.get side.other = s.tcu.head.get side.other) ∧
         (s.sst.active.scope.get side = .pit → withdraws t side.other)) ∧
       (∀ side, m = overtravelOf side →
         (s.pmu.phase = .idle → anyReference s = false →
           (t.tcu.head.get side).position ≠ .moving ∧ (t.tcu.head.get side).position ≠ .probing) ∧
         ((s.tcu.head.get side).position = .moving ∨ (s.tcu.head.get side).position = .probing →
           (t.tcu.head.get side).position = .halted) ∧
         (headInSweep side s = true → t.pmu.phase = .idle ∧ t.pmu.lastSweep = .failed .overtravel) ∧
         (headInSweep side s = false → t.pmu.phase = s.pmu.phase ∧ t.pmu.lastSweep = s.pmu.lastSweep) ∧
         (referenceRunning side s = true →
           (t.pmu.head.get side).reference = .idle ∧ (t.pmu.head.get side).lastReference = .failed .overtravel)) ∧
       (m = .m13 → t.blu.lift = .halted ∧ clampsMoving t = false ∧ spindleRunning t = false ∧ sweepRunning t = false ∧
         anyReference t = false ∧ turningLive t = false ∧ (s.blu.lift ≠ .halted → bridgesMoving t = false) ∧
         (∀ side, ((s.tcu.head.get side).position.active = true → (t.tcu.head.get side).position = .halted) ∧
           (headInSweep side s = false → (t.tcu.head.get side).position.active = false)) ∧
         (turningLive s = true →
           (t.tcu.state = .ending true ∨ t.tcu.state = .aborted) ∧ t.tcu.lastTurn = .interrupted .presenceLost ∧
           t.tpe.plan.state = .broken)))

/-! ## The gauge bus -/

/-- The oldest transaction begins when the bus is IDLE: RUNNING, in phase ADDRESS with nothing sent or received (R68);
with no transaction in the queue, or on a bus that is not IDLE, nothing begins. At the end of a transaction its record
leaves the queue, the bus is IDLE, the result is handed, and the next record is begun (R68, R73); at the end of a
recovery the STOP that the part has sent stands behind its clock pulses (R72). A result that is not looked at changes
nothing more: not the last reach code nor the overtravel condition, where it is that of a head state read, which is the
model's choice (log entry 12; R84 beside R73 and R83). A head's MODE write that returns OK is noted for the sweep, and
in a reference sweep is followed by RING_START and the first state read (R88, R101). A state read sets the last reach
code and the overtravel condition (R84); it is followed by a block read of up to 16 samples, or by the next state read
while none is available (R83). A block read appends its samples, within the capacity of the list, and is followed by a
state read. Overrun ends the work FAILED(OVERRUN), a result other than OK FAILED(BUS), which leaves a reference sweep's
calibration and offset (R83, R101). No requester keeps a transaction back, and no other one of the head is in the queue.
That a begin is a command of its own, and that the first state read follows RING_START in the same action, are the
model's choice (log entries 1 and 11). -/
def Obligations.TransactionsRun : Prop :=
  (∀ (s : State), settled s = true →
     exec .gaugeTransactionBegin s =
       .next (if s.gbc.bus = .idle ∧ s.gbc.queue ≠ [] then
           { s with gbc := { s.gbc with bus := .running, run := some ⟨.address, 0, [], none, [.start]⟩ } }
         else s)) ∧
  (∀ (t : Txn) (rest : List Txn) (s : State), settled s = true → s.gbc.queue = t :: rest → t.purpose = .discarded →
     s.gbc.held = .both [] → s.gbc.clockHeld = false →
     ((∃ r, s.gbc.run = some r ∧ r.phase = .closing ∧ r.result.isSome = true ∧ s.gbc.bus = .running) →
       exec .gaugeTransactionEnd s =
         .next { s with gbc := { busWith rest s.gbc with clockHeld := false, waitTimer := none } }) ∧
     (s.gbc.bus = .recovering →
       exec .gaugeTransactionEnd s =
         .next { s with gbc := { busWith rest s.gbc with
           clockHeld := false, waitTimer := none, recovery := s.gbc.recovery ++ [.stop] } })) ∧
  (∀ (side : Side) (t : Txn) (rest : List Txn) (result : TxnResult) (data : List Byte) (s : State),
     txnEnding s = some (t, rest, result, data) → t.requester = .pmu side → s.gbc.held = .both [] →
     (rest.all fun x => x.requester != .pmu side) = true →
     let ended := fun (queue : List Txn) (u : State) =>
       exec .gaugeTransactionEnd s = .next (close s { u with gbc :=
         { busWith queue s.gbc with clockHeld := false, waitTimer := none } })
     let fails := fun (w : Work) (reason : Reason) =>
       (w = .sweep → sweepRunning s = true →
         ∃ u, exec .gaugeTransactionEnd s = .next u ∧ u.pmu.phase = .idle ∧ u.pmu.lastSweep = .failed reason) ∧
       (w = .reference → referenceRunning side s = true →
         ∃ u, exec .gaugeTransactionEnd s = .next u ∧ (u.pmu.head.get side).reference = .idle ∧
           (u.pmu.head.get side).lastReference = .failed reason ∧
           (u.pmu.head.get side).calibration = (s.pmu.head.get side).calibration ∧ u.sst = s.sst)
     (result = .ok →
       (t.purpose = .mode .sweep → ended rest (modPmuHead side (fun h => { h with modeOk := true }) s)) ∧
       (t.purpose = .mode .reference →
         ended (rest ++ [ringStartTxn side .reference, stateReadTxn side .reference]) s) ∧
       (∀ w : Work, t.purpose = .command w → ended rest s) ∧
       (∀ (w : Work) (available flags : Byte), t.purpose = .stateRead w → data = [available, flags] →
         let seen := handCondition (overtravelOf side) (decide (flags.toNat % 4 = 3))
           (modPmuHead side (fun h => { h with lastReach := some (flags.toNat % 4) }) s)
         (flags.getLsbD 6 = true → fails w .overrun) ∧
         (flags.getLsbD 6 = false → available ≠ 0#8 →
           ended (rest ++ [blockReadTxn side (min 16 available.toNat) w]) seen) ∧
         (flags.getLsbD 6 = false → available = 0#8 → flags.getLsbD 7 = false →
           ended (rest ++ [stateReadTxn side w]) seen)) ∧
       (∀ w : Work, t.purpose = .blockRead w →
         (w = .sweep → s.pmu.phase = .profileScan →
           let list := (s.pmu.head.get side).profile ++ samplesOf false data
           (list.length ≤ 256 → ended (rest ++ [stateReadTxn side w])
             (modPmuHead side (fun h => { h with profile := list }) s)) ∧
           (256 < list.length → fails w .overrun)) ∧
         (w = .reference ∨ s.pmu.phase ≠ .profileScan →
           let list := (s.pmu.head.get side).ring ++ samplesOf true data
           (list.length ≤ 128 → ended (rest ++ [stateReadTxn side w])
             (modPmuHead side (fun h => { h with ring := list }) s)) ∧
           (128 < list.length → fails w .overrun)))) ∧
     (result ≠ .ok → ∀ w : Work,
       (t.purpose = .mode w ∨ t.purpose = .command w ∨ t.purpose = .stateRead w ∨ t.purpose = .blockRead w) →
       fails w .bus))

/-- A byte of the part's own transaction moves its run on, and stands on the lines as R66 has it (R66, R69 to R71). In
ADDRESS the part sends the head's or the reader's address with direction 0, or with direction 1 for a READ without a
select part; not acknowledged, a STOP ends it ABSENT; acknowledged, the write bytes follow, or the read bytes. In WRITE
it sends the write bytes in the order of the record; one that is not acknowledged is followed by the STOP, REJECTED; the
last ends a WRITE with the STOP, OK, and turns a READ with a repeated START. In TURN it sends the address with direction
1. In READ it keeps the byte and sends ACK, but NACK and the STOP, OK, after the last. Nothing but the run changes. A
record of the shapes of R66 so goes through its bytes in their order: `runLaw` holds of every run that begins, is kept by
every byte, and of a run that closes OK says that all its bytes have stood on the lines as R66 has them. That the value
of a byte the part sends, and the acknowledge of one it receives, are the part's own whatever the event carries is the
model's choice (log entry 69). -/
def Obligations.ByteMovesRun : Prop :=
  (∀ (value : Byte) (ack : Bool) (t : Txn) (rest : List Txn) (r : Run) (s : State), settled s = true →
    s.gbc.bus = .running → s.gbc.queue = t :: rest → s.gbc.run = some r → s.gbc.clockHeld = false →
    let onLine := fun events : List LineEvent => ({ r with line := r.line ++ events } : Run)
    let first := byte (2 * t.address + if t.direction = .read ∧ t.writeBytes = [] then 1 else 0)
    let second := byte (2 * t.address + 1)
    ∃ r', exec (.gaugeBusByte value ack) s = .next { s with gbc := { s.gbc with run := some r' } } ∧
      (r.phase = .address →
        (ack = false → r' = { onLine [.sent first false, .stop] with phase := .closing, result := some .absent }) ∧
        (ack = true → r' = { onLine [.sent first true] with
          phase := if t.direction = .read ∧ t.writeBytes = [] then .read else .write })) ∧
      (∀ b, r.phase = .write → t.writeBytes[r.sent]? = some b →
        (ack = false → r' = { onLine [.sent b false, .stop] with phase := .closing, result := some .rejected }) ∧
        (ack = true → r.sent + 1 < t.writeBytes.length → r' = { onLine [.sent b true] with sent := r.sent + 1 }) ∧
        (ack = true → r.sent + 1 = t.writeBytes.length → t.direction = .write →
          r' = { onLine [.sent b true, .stop] with sent := r.sent + 1, phase := .closing, result := some .ok }) ∧
        (ack = true → r.sent + 1 = t.writeBytes.length → t.direction = .read →
          r' = { onLine [.sent b true, .start] with sent := r.sent + 1, phase := .turn })) ∧
      (r.phase = .turn →
        (ack = false → r' = { onLine [.sent second false, .stop] with phase := .closing, result := some .absent }) ∧
        (ack = true → r' = { onLine [.sent second true] with phase := .read })) ∧
      (r.phase = .read →
        (r.received.length + 1 < t.readLength →
          r' = { onLine [.received value true] with received := r.received ++ [value] }) ∧
        (t.readLength ≤ r.received.length + 1 →
          r' = { onLine [.received value false, .stop] with
            received := r.received ++ [value], phase := .closing, result := some .ok })) ∧
      (r.phase = .closing → r' = r) ∧
      (t.shaped = true → runLaw t r = true → runLaw t r' = true)) ∧
  (∀ (t : Txn), runLaw t ⟨.address, 0, [], none, [.start]⟩ = true) ∧
  (∀ (t : Txn) (r : Run), runLaw t r = true → r.phase = .closing → r.result = some .ok →
    r.received.length = t.readLength ∧
    r.line =
      (match t.direction, t.writeBytes with
        | .write, bytes => .start :: .sent (byte (2 * t.address)) true :: bytes.map fun b => LineEvent.sent b true
        | .read, [] => [.start, .sent (byte (2 * t.address + 1)) true]
        | .read, bytes => (.start :: .sent (byte (2 * t.address)) true :: bytes.map fun b => LineEvent.sent b true) ++
            [.start, .sent (byte (2 * t.address + 1)) true]) ++
      (r.received.zipIdx.map fun x => LineEvent.received x.1 (decide (x.2 + 1 < r.received.length))) ++ [.stop])

/-- A tag attempt that returns OK with data that passes the checks of R3 seats the PRESENT axle: the seat is SEATED with
the identity from the tag, the tag state READ and the last tag outcome READ (R4). Its record is open, and then it is
the seated one, which gives wheel type, bogie and position. A tag attempt that fails is followed by the next, up to
three; the third leaves the tag state FAILED with the last tag outcome FAILED (R3). -/
def Obligations.TagAttemptEnds : Prop :=
  (∀ (t : Txn) (r : Run) (axleId : AxleId) (bogieId : BogieId) (wheelType position : Nat) (o : OpenRecord) (s : State),
     s.gbc.bus = .running → s.gbc.queue = [t] → t.requester = .pilTag → t.purpose = .tagAttempt →
     s.gbc.run = some r → r.phase = .closing → r.result = some .ok →
     tagData r.received = some (axleId, bogieId, wheelType, position) → s.gbc.clockHeld = false →
     s.pil.seatState = .present → s.pil.tagState = .reading → noneTripped [.m13] s = true →
     openFind axleId s = some o →
     ∃ u, exec .gaugeTransactionEnd s = .next u ∧
       u.pil.seatState = .seated ∧ u.pil.tagState = .read ∧ u.pil.tagId = some axleId ∧ u.pil.lastTag = .read ∧
       u.pil.identity = some ⟨axleId, o.record.wheelType, o.record.bogieId, o.record.position, .tag⟩ ∧
       u.ahs.link = .opened axleId ∧ u.gbc.queue = [] ∧ u.gbc.bus = .idle ∧
       u.blu = s.blu ∧ u.tcu = s.tcu ∧ u.pmu = s.pmu ∧ u.sst = s.sst) ∧
  (∀ (t : Txn) (r : Run) (result : TxnResult) (s : State), settled s = true →
     s.gbc.bus = .running → s.gbc.queue = [t] → t.requester = .pilTag → t.purpose = .tagAttempt →
     s.gbc.run = some r → r.phase = .closing → r.result = some result →
     (result ≠ .ok ∨ tagData r.received = none) → s.gbc.clockHeld = false →
     s.pil.seatState = .present → s.pil.tagState = .reading →
     (s.pil.tagAttempts < 3 →
       exec .gaugeTransactionEnd s = .next (noted s { s with
         pil := { s.pil with tagAttempts := s.pil.tagAttempts + 1 }
         gbc := { busWith [tagTxn] s.gbc with clockHeld := false, waitTimer := none } })) ∧
     (3 ≤ s.pil.tagAttempts →
       exec .gaugeTransactionEnd s = .next (noted s { s with
         pil := { s.pil with tagState := .failed, lastTag := .failed }
         gbc := { busWith [] s.gbc with clockHeld := false, waitTimer := none } })))

/-- A device that holds the clock of the part's transaction starts the wait timer of 25 ms; its release stops the timer;
its expiry with the clock held sends the bus to RECOVERING, the part having sent nothing there yet. When the clock is
then released the part sends nine clock pulses with the data line released, and when its STOP behind them has been sent
the recovery ends WAIT_TIMEOUT (R72). A loss of arbitration while the address, a write byte or the byte at the turn is
sent makes the bus OBSERVING what the other master sends, and the record is kept for a retry while fewer than three have
been used (R74, R75); while data is read, or the transaction closes, no bit is compared. An unexpected START in any
phase is such a loss, the next byte being an address byte; an unexpected STOP ends its observation at once, and the
retry begins (R76). With three retries used the transaction ends LOST and the record leaves the queue (R75). An
unexpected condition in the recovery ends it WAIT_TIMEOUT, the bus OBSERVING or IDLE (R72, R76). LOST and WAIT_TIMEOUT
end the work they serve FAILED(BUS) (R83). A head that the part itself addressed when the STOP came gets its notice
(R74, R79). No reference sweep runs where a STOP ends the observation, and no requester keeps a transaction back. What
an unexpected START or STOP leaves observed, and that a STOP in the recovery starts no quiet timer, are the model's
reading (log entries 27 and 28); that all nine pulses stand on the lines from the release on is its choice (log entry
70). -/
def Obligations.ArbitrationIsLost : Prop :=
  (∀ (s : State), settled s = true →
     (s.gbc.bus = .running →
       exec .clockHold s = .next { s with gbc := { s.gbc with clockHeld := true, waitTimer := some 25 } }) ∧
     (s.gbc.bus ≠ .recovering ∨ s.gbc.clockHeld = false →
       exec .clockRelease s = .next { s with gbc := { s.gbc with clockHeld := false, waitTimer := none } }) ∧
     (s.gbc.bus = .recovering → s.gbc.clockHeld = true →
       exec .clockRelease s = .next { s with gbc := { s.gbc with
         clockHeld := false, waitTimer := none, recovery := s.gbc.recovery ++ List.replicate 9 .pulse } }) ∧
     (s.gbc.bus = .running → s.gbc.waitTimer.isSome = true → s.gbc.clockHeld = true →
       exec .waitTimerExpiry s = .next { s with gbc := { s.gbc with
         bus := .recovering, run := none, waitTimer := none, recovery := [] } }) ∧
     (s.gbc.clockHeld = false → exec .waitTimerExpiry s = .next s)) ∧
  (∀ (s : State), s.gbc.bus = .running → s.gbc.waitTimer.isSome = true → s.gbc.clockHeld = true → s.gbc.queue ≠ [] →
     ∃ u v w, exec .waitTimerExpiry s = .next u ∧ exec .clockRelease u = .next v ∧ exec .gaugeTransactionEnd v = .next w ∧
       u.gbc.bus = .recovering ∧ u.gbc.recovery = [] ∧ v.gbc.bus = .recovering ∧
       v.gbc.recovery = List.replicate 9 .pulse ∧ w.gbc.recovery = List.replicate 9 .pulse ++ [.stop] ∧
       w.gbc.bus ≠ .recovering) ∧
  (∀ (t : Txn) (rest : List Txn) (r : Run) (s : State), settled s = true → s.gbc.bus = .running →
     s.gbc.queue = t :: rest → s.gbc.run = some r →
     let own : Sides Bool := ⟨decide (t.address = 0x31), decide (t.address = 0x32)⟩
     let lost := fun (queue : List Txn) (o : Observation) => noted s { s with gbc := { s.gbc with
       queue := queue, bus := .observing, run := none, clockHeld := false,
       waitTimer := none, observation := some o, foreignFlag := true, quietTimer := none } }
     let losses := fun queue : List Txn =>
       (r.phase = .address → exec .arbitrationLoss s = .next (lost queue ⟨true, .both false, true⟩)) ∧
       (r.phase = .write → exec .arbitrationLoss s = .next (lost queue ⟨true, own, false⟩)) ∧
       (r.phase = .turn → exec .arbitrationLoss s = .next (lost queue ⟨true, own, true⟩)) ∧
       exec (.unexpectedStartStop .start) s = .next (lost queue ⟨true, .both false, true⟩) ∧
       (anyReference s = false →
         ∃ u, exec (.unexpectedStartStop .stop) s = .next u ∧
           u.gbc = { busWith queue s.gbc with
             clockHeld := false, waitTimer := none, observation := none, foreignFlag := true, quietTimer := some 1000 } ∧
           (∀ side, (u.pmu.head.get side).calibration =
             if (r.phase = .write ∨ r.phase = .turn) ∧ own.get side = true then .stale
             else (s.pmu.head.get side).calibration) ∧
           u.pmu.phase = s.pmu.phase ∧ u.pmu.record = s.pmu.record ∧ u.pil = s.pil ∧ u.blu = s.blu ∧ u.tcu = s.tcu ∧
           u.tpe = s.tpe ∧ u.ahs = s.ahs ∧ u.sst = s.sst)
     (t.retries < 3 → losses ({ t with retries := t.retries + 1 } :: rest)) ∧
     (3 ≤ t.retries → t.purpose = .discarded → s.gbc.held = .both [] → losses rest) ∧
     (r.phase = .read ∨ r.phase = .closing → exec .arbitrationLoss s = .next s)) ∧
  (∀ (t : Txn) (rest : List Txn) (s : State), settled s = true → s.gbc.bus = .recovering →
     s.gbc.queue = t :: rest → t.purpose = .discarded → s.gbc.held = .both [] →
     exec (.unexpectedStartStop .start) s =
       .next (noted s { s with gbc := { s.gbc with
         queue := rest, bus := .observing, run := none, clockHeld := false, waitTimer := none,
         observation := some ⟨true, .both false, true⟩, foreignFlag := true, quietTimer := none } }) ∧
     exec (.unexpectedStartStop .stop) s =
       .next { s with gbc := { busWith rest s.gbc with clockHeld := false, waitTimer := none } }) ∧
  (∀ (side : Side) (t : Txn) (rest : List Txn) (w : Work) (s : State), s.gbc.queue = t :: rest →
     t.requester = .pmu side →
     (t.purpose = .mode w ∨ t.purpose = .command w ∨ t.purpose = .stateRead w ∨ t.purpose = .blockRead w) →
     let fails := fun i : Instr =>
       (w = .sweep → sweepRunning s = true →
         ∃ u, exec i s = .next u ∧ u.pmu.phase = .idle ∧ u.pmu.lastSweep = .failed .bus) ∧
       (w = .reference → referenceRunning side s = true →
         ∃ u, exec i s = .next u ∧ (u.pmu.head.get side).reference = .idle ∧
           (u.pmu.head.get side).lastReference = .failed .bus ∧ u.sst = s.sst)
     (∀ r, s.gbc.bus = .running → s.gbc.run = some r → 3 ≤ t.retries →
       (r.phase = .address ∨ r.phase = .write ∨ r.phase = .turn → fails .arbitrationLoss) ∧
       ∀ c, fails (.unexpectedStartStop c)) ∧
     (s.gbc.bus = .recovering →
       (s.gbc.clockHeld = false → fails .gaugeTransactionEnd) ∧ ∀ c, fails (.unexpectedStartStop c)))

/-- A START of another master on an IDLE bus begins an observation; in one it is a repeated START; on a bus with a
transaction of the part it is the unexpected START of R76 (R65, R77). An address byte in an observation marks the head
it names. The STOP that ends an observation hands a head notice to each head it has seen addressed, and to both where
its START was not seen; so does the timeout of an observation that a reset began, at which the part sends nine clock
pulses and a STOP as in a recovery (R72, R80). The bus is IDLE, or the oldest transaction runs, and the quiet timer of 1
s starts (R77 to R80). A head with a notice is STALE; where it was VERIFIED, its sweep goes on with the flag that marks
it (R79, R85). Its reference sweep ends FAILED(STALE) (R101). A head without a notice stays as it is, and so does one
that was STALE and runs no reference sweep (R79, R85). The quiet timer's expiry clears the foreign flag (R78). A STOP on
an IDLE bus, and the timeout with no such observation, change nothing. That a STOP on an IDLE bus starts no quiet timer,
where R78 starts it at each foreign STOP, and that a START in an observation begun unseen awaits an address byte, are
the model's choice (log entry 28). That a notice ends the reference sweep of a head already STALE, by R101's table,
where R79 and R85 say that it changes nothing in the PMU, is the model's reading (log entry 59, DEDUCED). -/
def Obligations.ForeignIsObserved : Prop :=
  (∀ (s : State), settled s = true →
     (s.gbc.bus = .idle →
       exec .foreignStart s =
         .next (noted s { s with gbc := { s.gbc with
           bus := .observing, run := none, waitTimer := none, observation := some ⟨true, ⟨false, false⟩, true⟩,
           foreignFlag := true, quietTimer := none } }) ∧
       exec .foreignStop s = .next s) ∧
     (s.gbc.bus = .running ∨ s.gbc.bus = .recovering →
       exec .foreignStart s = exec (.unexpectedStartStop .start) s ∧
       exec .foreignStop s = exec (.unexpectedStartStop .stop) s) ∧
     (∀ o : Observation, s.gbc.bus = .observing → s.gbc.observation = some o →
       exec .foreignStart s =
         .next { s with gbc := { s.gbc with observation := some { o with addressNext := true } } } ∧
       (o.seen = true → exec .resetObservationTimeout s = .next s) ∧
       ∀ (value : Byte) (ack : Bool), o.addressNext = true →
         exec (.gaugeBusByte value ack) s =
           .next { s with gbc := { s.gbc with observation := some { o with
             addressed := ⟨o.addressed.l || value.toNat / 2 == 0x31, o.addressed.r || value.toNat / 2 == 0x32⟩,
             addressNext := false } } }) ∧
     (s.gbc.bus ≠ .observing → exec .resetObservationTimeout s = .next s) ∧
     (s.gbc.quietTimer.isSome = true →
       exec .quietTimerExpiry s =
         .next (noted s { s with gbc := { s.gbc with foreignFlag := false, quietTimer := none } })) ∧
     (s.gbc.quietTimer = none → exec .quietTimerExpiry s = .next s)) ∧
  (∀ (o : Observation) (s : State), s.gbc.bus = .observing → s.gbc.observation = some o →
     ∀ i, i = .foreignStop ∨ i = .resetObservationTimeout ∧ o.seen = false →
       let told := fun side => !o.seen || o.addressed.get side
       let sent := if i = .resetObservationTimeout then List.replicate 9 .pulse ++ [.stop] else s.gbc.recovery
       ∃ t, exec i s = .next t ∧
         t.gbc.observation = none ∧ t.gbc.quietTimer = some 1000 ∧ t.gbc.foreignFlag = s.gbc.foreignFlag ∧
         t.gbc.recovery = sent ∧
         (anyReference s = false →
           t.gbc = { busWith s.gbc.queue s.gbc with
             run := if s.gbc.queue.isEmpty then s.gbc.run else some ⟨.address, 0, [], none, [.start]⟩,
             observation := none, quietTimer := some 1000, recovery := sent } ∧ t.tcu = s.tcu) ∧
         (∀ side,
           (told side = false → t.pmu.head.get side = s.pmu.head.get side) ∧
           (told side = true →
             let h := s.pmu.head.get side
             let stale := { h with
               calibration := .stale,
               staleDuring := h.staleDuring || (headInSweep side s && h.calibration == .verified) }
             t.pmu.head.get side =
               if referenceRunning side s then { stale with reference := .idle, lastReference := .failed .stale }
               else stale) ∧
           (told side = true → (s.pmu.head.get side).calibration = .stale → referenceRunning side s = false →
             t.pmu.head.get side = s.pmu.head.get side)) ∧
         t.pmu.phase = s.pmu.phase ∧ t.pmu.record = s.pmu.record ∧ t.blu = s.blu ∧ t.ahs = s.ahs ∧ t.sst = s.sst)

/-! ## Profile measurement -/

/-- SWEEP, where its conditions stand, claims the selected heads: the sweep is CLAIMING, each selected head is owned by
MEASURE and MOVING to its scan start, its lists are empty and MODE SCAN is placed for it (R86 to R88). The lift, the
clamps, the bridges and the history store stay. The gauge queue is empty and M11 and M12 wait for no stroke. The order
L before R in the queue is the model's choice (log entry 49). -/
def Obligations.SweepBegins : Prop :=
  ∀ (tag : Byte) (code : Nat) (w : Wheels) (s : State), ready s = true → wheelsOf code = some w →
    s.pil.pitStop = false → s.pil.owners.heads = .link → s.pmu.phase = .idle → s.pil.seatState = .seated →
    bothClamps .closed s = true → holdingBearing s = true → tcuFree s = true →
    (∀ side, w.has side = true →
      (s.tcu.head.get side).owner = .none ∧ (s.tcu.head.get side).position = .parked ∧
      (s.pmu.head.get side).calibration = .verified ∧ latched (overtravelOf side) s = false) →
    noneTripped [.m11, .m12] s = true → s.gbc.queue = [] → s.gbc.held = .both [] →
    ∃ t, exec (.sweep tag code) s = .next t ∧
      t.slp.replySlot = some ⟨0xA8#8, tag, .fixed .accepted []⟩ ∧
      t.pmu.phase = .claiming ∧ t.pmu.selected = some w ∧ t.pmu.settle = 0 ∧
      (∀ side, w.has side = true →
        (t.tcu.head.get side).owner = .measure ∧ (t.tcu.head.get side).position = .moving ∧
        (t.tcu.head.get side).dest = some .scanStart ∧
        (t.pmu.head.get side).profile = [] ∧ (t.pmu.head.get side).ring = []) ∧
      (∀ side, w.has side = false → t.tcu.head.get side = s.tcu.head.get side) ∧
      t.gbc.queue = ([Side.l, .r].filter w.has).map (fun side => modeTxn side .scan (.mode .sweep)) ∧
      t.tcu.state = s.tcu.state ∧ t.tcu.spindle = s.tcu.spindle ∧ t.pmu.record = s.pmu.record ∧
      t.blu = s.blu ∧ t.pil.bridge = s.pil.bridge ∧ t.ahs = s.ahs ∧ t.tpe = s.tpe ∧ t.sst = s.sst

/-- HALT_SWEEP ends a running sweep at once: phase IDLE, the outcome FAILED(HALTED), each swept wheel's record FAILED
with that reason and the samples it had, and the plan discarded unless it is IN_USE (R92, R93, R98, R117). It ends every
running reference sweep FAILED(HALTED) too: the head that is not HALTED is PARKED, and the calibration and the offset
stay (R92, R101). With no sweep and no reference sweep running HALT_SWEEP is answered OK and changes nothing. That the
head is PARKED at once, still owned until its move to park ends, is the model's reading (log entry 13), and so is that
the plan's reason becomes SWEEP also where the plan is already NONE (log entry 47). -/
def Obligations.SweepIsHalted : Prop :=
  ∀ (tag : Byte) (s : State), ready s = true →
    (s.pmu.phase = .idle → anyReference s = false → exec (.haltSweep tag) s = .next (repliedCode 0xA9#8 tag .ok s)) ∧
    (∀ w, s.pmu.phase ≠ .idle → s.pmu.selected = some w →
      ∃ t, exec (.haltSweep tag) s = .next t ∧ t.slp.replySlot = some ⟨0xA9#8, tag, .fixed .ok []⟩ ∧
        t.pmu.phase = .idle ∧ t.pmu.selected = none ∧ t.pmu.lastSweep = .failed .halted ∧
        (∀ side, t.pmu.record.get side =
          if w.has side then
            .failed .halted (s.pmu.head.get side).staleDuring (s.pmu.head.get side).profile.length
          else s.pmu.record.get side) ∧
        (s.tpe.plan.state ≠ .inUse → t.tpe.plan = .empty (some .sweep)) ∧
        t.blu = s.blu ∧ t.pil.bridge = s.pil.bridge ∧ t.sst = s.sst ∧ t.ahs.slots = s.ahs.slots) ∧
    (∀ side, referenceRunning side s = true →
      ∃ t, exec (.haltSweep tag) s = .next t ∧ t.slp.replySlot = some ⟨0xA9#8, tag, .fixed .ok []⟩ ∧
        (t.pmu.head.get side).reference = .idle ∧ (t.pmu.head.get side).lastReference = .failed .halted ∧
        (t.pmu.head.get side).calibration = (s.pmu.head.get side).calibration ∧
        ((s.tcu.head.get side).position ≠ .halted →
          (t.tcu.head.get side).position = .parked ∧ (t.tcu.head.get side).owner = (s.tcu.head.get side).owner) ∧
        ((s.tcu.head.get side).position = .halted → (s.tcu.head.get side).owner = .measure →
          (t.tcu.head.get side).position = .halted ∧ (t.tcu.head.get side).owner = .none) ∧
        (s.pmu.phase = .idle → s.gbc.held = .both [] →
          (∀ x ∈ s.gbc.queue, x.requester = .pmu side → { x with purpose := .discarded } ∈ t.gbc.queue) ∧
          t.pmu.record = s.pmu.record ∧ t.tpe = s.tpe ∧ t.tcu.spindle = s.tcu.spindle)) ∧
    (∀ side, ∃ t, exec (.haltSweep tag) s = .next t ∧ referenceRunning side t = false ∧ t.sst = s.sst ∧ t.blu = s.blu)

/-- REFERENCE_SWEEP, where its conditions stand, claims its head: owner MEASURE, PROBING where it stands, its ring list
empty and its reference state RUNNING, with MODE REFERENCE placed (R101). Of a sweep of both wheels or of one:
PROFILE_SCAN begins when every claimed head is PROBING with its MODE write OK and the spindle is STOPPED: SCAN_START and
the first state read are placed for each (R83, R88). A completing read completes the list of its head. When the list of
every claimed head is complete in PROFILE_SCAN, the first failed check, L before R, ends the sweep FAILED; otherwise the
phase is RING_WAIT, the claimed heads go to the taping line with MODE RING placed, and the measuring run begins at 10
m/min, or is refused and the sweep FAILED(SUPPORT) (R89, R90, R140). When every ring list is, the sweep fails or is
COMPUTING, its run finished, the rim temperatures of the wheels swept taken, the claimed heads on their way to park
(R90, R91). A head that is not claimed stays as it is. A completing read of a reference sweep fixes its outcome: FAILED
by the checks of a ring list; REFERENCE_FAIL, the head STALE, with reach code 0 or 2 or an error above 510; or VERIFIED
with the new offset (R102). That the first state read is placed with SCAN_START, where a reference sweep's head stands
at its end, and the order L before R, are the model's choice (log entries 11, 13 and 49). That the results of the MODE
PARK writes of the entry to COMPUTING are discarded, as R93 says, while the sweep runs on, where R83 and R92 end a sweep
in any phase for a result other than OK, is the model's reading (log entry 64, DEDUCED). -/
def Obligations.ScansBegin : Prop :=
  (∀ (tag : Byte) (code : Nat) (side : Side) (s : State), ready s = true → sideOf code = some side →
     s.pil.pitStop = false → s.pil.owners.heads = .link → (s.tcu.head.get side).owner = .none →
     (s.tcu.head.get side).position = .parked → latched (overtravelOf side) s = false →
     noneTripped [overtravelOf side] s = true → heldBy (.pmu side) s = 0 → s.gbc.held.get side = [] →
     exec (.referenceSweep tag code) s =
       .next (close s (repliedCode 0xAA#8 tag .accepted
         (modPmuHead side (fun h => { h with ring := [], reference := .running })
           (modHead side (fun h => { h with owner := .measure, position := .probing, dest := none })
             { s with gbc := { s.gbc with
               queue := s.gbc.queue ++ [modeTxn side .reference (.mode .reference)] } }))))) ∧
  (∀ (w : Wheels) (s : State), settled s = true → s.pmu.phase = .claiming → s.pmu.selected = some w →
     (∀ side, w.has side = true →
       (s.tcu.head.get side).position = .probing ∧ (s.pmu.head.get side).modeOk = true) →
     s.tcu.spindle = .stopped → s.gbc.queue = [] → s.gbc.held = .both [] →
     exec .profileScanBegin s =
       .next (noted s { s with
         pmu := { s.pmu with phase := .profileScan }
         gbc := { s.gbc with queue := ([Side.l, .r].filter w.has).flatMap fun side =>
           [scanStartTxn side s.sst.active.scanStep, stateReadTxn side .sweep] } })) ∧
  (∀ (side : Side) (t : Txn) (rest : List Txn) (flags : Byte) (s : State),
     txnEnding s = some (t, rest, .ok, [0#8, flags]) → t.requester = .pmu side → s.gbc.held = .both [] →
     (rest.all fun x => x.requester == .pilTag) = true → flags.getLsbD 6 = false → flags.getLsbD 7 = true →
     (∀ w : Wheels, t.purpose = .stateRead .sweep → s.pmu.selected = some w → w.has side = true →
       (w.has side.other = true → (s.pmu.head.get side.other).listDone = false →
         exec .gaugeTransactionEnd s =
           .next (close s (handCondition (overtravelOf side) (decide (flags.toNat % 4 = 3))
             (modPmuHead side (fun h => { h with listDone := true, lastReach := some (flags.toNat % 4) })
               { s with gbc := { busWith rest s.gbc with clockHeld := false, waitTimer := none } })))) ∧
       ((w.has side.other = true → (s.pmu.head.get side.other).listDone = true) →
         let fails := fun (reason : Reason) =>
           ∃ u, exec .gaugeTransactionEnd s = .next u ∧ u.pmu.phase = .idle ∧ u.pmu.lastSweep = .failed reason
         (s.pmu.phase = .profileScan →
           let check := fun side =>
             if w.has side then profileCheck s.sst.active.zTl (s.pmu.head.get side).profile else none
           (∀ reason, check .l = some reason → fails reason) ∧
           (∀ reason, check .l = none → check .r = some reason → fails reason) ∧
           (check .l = none → check .r = none → (bothClamps .closed s && bothBridges .out s) = false →
             fails .support) ∧
           (check .l = none → check .r = none → (bothClamps .closed s && bothBridges .out s) = true →
             tcuFree s = true → noneTripped [.m8] s = true →
             ∃ u, exec .gaugeTransactionEnd s = .next u ∧ u.pmu.phase = .ringWait ∧ u.tcu.measuring = true ∧
               u.tcu.state = .measureRun (leftState s.tcu.state) ∧
               (s.tcu.spindle = .stopped → u.tcu.spindle = .runup 10) ∧
               (s.tcu.spindle ≠ .stopped → u.tcu.spindle = s.tcu.spindle) ∧
               u.gbc.queue =
                 rest ++ ([Side.l, .r].filter w.has).map (fun side => modeTxn side .ring (.mode .sweep)) ∧
               (∀ side, w.has side = true →
                 (u.tcu.head.get side).position = .moving ∧ (u.tcu.head.get side).dest = some .tapingLine ∧
                 (u.pmu.head.get side).diameter = handedDiameter side s ∧ (u.pmu.head.get side).modeOk = false) ∧
               (∀ side, w.has side = false →
                 u.tcu.head.get side = s.tcu.head.get side ∧ u.pmu.head.get side = s.pmu.head.get side) ∧
               u.blu = s.blu ∧ u.ahs = s.ahs ∧ u.tpe = s.tpe)) ∧
         (s.pmu.phase = .ringScan →
           let check := fun side => if w.has side then ringCheck (s.pmu.head.get side).ring else none
           (∀ reason, check .l = some reason → fails reason) ∧
           (∀ reason, check .l = none → check .r = some reason → fails reason) ∧
           (check .l = none → check .r = none →
             ∃ u, exec .gaugeTransactionEnd s = .next u ∧ u.pmu.phase = .computing ∧ u.tcu.measuring = false ∧
               (s.tcu.measuring = true → spindleRunning u = false) ∧
               u.gbc.queue = rest ++ ([Side.l, .r].filter w.has).map (fun side => modeTxn side .park .discarded) ∧
               (∀ side, w.has side = true →
                 (u.tcu.head.get side).position = .moving ∧ (u.tcu.head.get side).dest = some .park ∧
                 u.pmu.taken.get side =
                   some ((s.pmu.rim.get side).value, decide ((s.pmu.rim.get side).state ≠ .live))) ∧
               (∀ side, w.has side = false →
                 u.tcu.head.get side = s.tcu.head.get side ∧ u.pmu.taken.get side = s.pmu.taken.get side) ∧
               u.blu = s.blu ∧ u.ahs = s.ahs ∧ u.tpe = s.tpe)))) ∧
     (t.purpose = .stateRead .reference → referenceRunning side s = true →
       let list := (s.pmu.head.get side).ring
       let offset := 2 * s.sst.active.probeOffset.get side
       let error := divHalfAway (list.map fun x => (x.r : Int) + offset).sum 128 - s.sst.active.rRef
       ∃ u, exec .gaugeTransactionEnd s = .next u ∧ (u.pmu.head.get side).reference = .idle ∧
         ((s.tcu.head.get side).position ≠ .halted →
           (u.tcu.head.get side).position = .parked ∧ u.gbc.queue = rest ++ [modeTxn side .park .discarded]) ∧
         (∀ reason, ringCheck list = some reason →
           (u.pmu.head.get side).lastReference = .failed reason ∧
           (u.pmu.head.get side).calibration = (s.pmu.head.get side).calibration ∧ u.sst = s.sst) ∧
         (ringCheck list = none →
           (flags.toNat % 4 = 0 ∨ flags.toNat % 4 = 2 ∨ 510 < error ∨ error < -510 →
             (u.pmu.head.get side).lastReference = .referenceFail ∧
             (u.pmu.head.get side).calibration = .stale ∧ u.sst = s.sst) ∧
           (flags.toNat % 4 ≠ 0 → flags.toNat % 4 ≠ 2 → error ≤ 510 → -510 ≤ error →
             (u.pmu.head.get side).lastReference = .verified ∧ (u.pmu.head.get side).calibration = .verified ∧
             u.sst.active.probeOffset.get side = max (-255) (min 255 (divHalfAway (offset - error) 2)) ∧
             u.sst.active.probeOffset.get side.other = s.sst.active.probeOffset.get side.other)))) ∧
  (∀ (zTl : Nat) (list : List Sample), profileCheck zTl list = none ↔
     16 ≤ list.length ∧ list.Pairwise (fun a b => a.pos < b.pos) ∧ (∀ a, list.head? = some a → a.pos ≤ zTl) ∧
       ∀ b, list.getLast? = some b → zTl ≤ b.pos) ∧
  (∀ list : List Sample, ringCheck list = none ↔ list.map Sample.pos = List.range 128)

/-- The extraction of a sweep, of both wheels or of one, that succeeds ends it DONE: the record of each wheel swept is
VALID with the figures of the extraction, the diameter corrected to 20 °C, the out-of-round depth of the ring list and
the rim temperature taken; an AS_TURNED sweep of both wheels whose diameters differ by more than axle_tol carries
MISMATCH, and a SERVICEABLE wheel's verdict is then TURN (R91, R94 to R99). The seated axle's record, where the seat
has one, is handed FOUND, or CHECKED where the records are AS_TURNED, with a part for each wheel swept without
CAL_STALE_DURING; with no part nothing is handed, and with no record the entry is skipped (R100). An extraction that
fails, L before R, ends the sweep FAILED with its reason. The record of a wheel not swept stays. What a measurement
entry changes in its record is R145's: the last diameters of its parts, and for CHECKED the loss since a TURNED entry,
the due mark that both diameters have met, and the last work kind. No entry decreases the loss, which stays at most
1,000,000 (R143). -/
def Obligations.ExtractionEndsSweep : Prop :=
  (∀ (w : Wheels) (s : State), s.pmu.phase = .computing → s.pmu.selected = some w →
    (∀ (x : Sides Extract) (temp : Sides (Int × Bool)),
      (∀ side, w.has side = true →
        extractSide side s = .ok (x.get side) ∧ s.pmu.taken.get side = some (temp.get side)) →
      let d20 := fun side => d20Of (x.get side).d (temp.get side).1
      let oor := fun side => outOfRound (s.pmu.head.get side).ring
      let mismatch := s.pmu.turnedSince && w == .both && decide (s.sst.active.axleTol < (d20 .l - d20 .r).natAbs)
      let judged := fun side => verdictOf (seatedType s) (d20 side) (x.get side) (oor side)
      let verdict := fun side => if mismatch && judged side == some .serviceable then some .turn else judged side
      let part := fun side =>
        if !w.has side || (s.pmu.head.get side).staleDuring then none
        else some (⟨d20 side, (x.get side).h, (x.get side).t, (x.get side).qR, oor side, verdict side⟩ : WheelPart)
      let entry : EntryBody :=
        if s.pmu.turnedSince then .checked ⟨part .l, part .r⟩ mismatch else .found ⟨part .l, part .r⟩ mismatch
      ∃ t, exec .sweepExtractionDone s = .next t ∧ t.pmu.phase = .idle ∧ t.pmu.lastSweep = .done ∧
        (∀ side, w.has side = false → t.pmu.record.get side = s.pmu.record.get side) ∧
        (∀ side, w.has side = true → ∃ f, t.pmu.record.get side = .valid f ∧
          f.d = (x.get side).d ∧ f.h = (x.get side).h ∧ f.t = (x.get side).t ∧ f.qR = (x.get side).qR ∧
          f.d20 = d20 side ∧ f.temp = (temp.get side).1 ∧ f.tempHeld = (temp.get side).2 ∧ f.oor = oor side ∧
          f.kind = (if s.pmu.turnedSince then .asTurned else .asFound) ∧
          f.calStale = (s.pmu.head.get side).staleDuring ∧ f.samples = (s.pmu.head.get side).profile.length ∧
          f.mismatch = mismatch ∧ f.verdict = verdict side) ∧
        (part .l = none → part .r = none → t.ahs.cache = s.ahs.cache ∧ t.pmu.entrySkipped = false) ∧
        ((part .l).isSome = true ∨ (part .r).isSome = true →
          t.pmu.turnedSince = false ∧ t.pmu.entrySkipped = (seatedRecord s).isNone ∧
          (seatedRecord s = none → t.ahs.cache = s.ahs.cache) ∧
          ∀ id o, seatedRecord s = some id → openFind id s = some o →
            ∃ o', openFind id t = some o' ∧ o'.record = appendEntry entry s.pil.stamp o.record ∧
              (o.state ≠ .committing → o'.state = .dirty) ∧ (o.state = .committing → o'.changed = true)) ∧
        t.blu = s.blu ∧ t.sst = s.sst ∧ t.ahs.slots = s.ahs.slots) ∧
    (∀ reason, (w.has .l = true ∧ extractSide .l s = .error reason ∨
        (w.has .l = true → ∃ x, extractSide .l s = .ok x) ∧ w.has .r = true ∧ extractSide .r s = .error reason) →
      ∃ t, exec .sweepExtractionDone s = .next t ∧ t.pmu.phase = .idle ∧ t.pmu.lastSweep = .failed reason ∧
        (∀ side, t.pmu.record.get side =
          if w.has side then
            .failed reason (s.pmu.head.get side).staleDuring (s.pmu.head.get side).profile.length
          else s.pmu.record.get side))) ∧
  (∀ (part : Sides (Option WheelPart)) (mismatch : Bool) (stamp : Stamp) (r : Record),
    let now := fun side => match part.get side with | some p => some p.d20 | none => r.lastD.get side
    let least := fun (a b : Option Int) =>
      match a, b with
      | some x, some y => some (min x y)
      | some x, none => some x
      | none, y => y
    let found := appendEntry (.found part mismatch) stamp r
    let checked := appendEntry (.checked part mismatch) stamp r
    (∀ side, found.lastD.get side = now side ∧ checked.lastD.get side = now side) ∧
    found.loss = r.loss ∧ found.state = r.state ∧ found.lastWork = r.lastWork ∧
    found.turnings = r.turnings ∧ checked.turnings = r.turnings ∧ checked.lastWork = some .checked ∧
    (∀ old new : Int, r.lastWork = some .turned → least r.lastD.l r.lastD.r = some old →
      least (now .l) (now .r) = some new → (checked.loss : Int) = min 1000000 (r.loss + max 0 (old - new))) ∧
    (r.lastWork ≠ some .turned ∨ least r.lastD.l r.lastD.r = none → r.loss ≤ 1000000 → checked.loss = r.loss) ∧
    (∀ (limit : Int) (source : AxleId), r.state = .turnDue limit source →
      checked.state =
        match now .l, now .r with
        | some a, some b => if max a b ≤ limit then .inService else .turnDue limit source
        | _, _ => .turnDue limit source) ∧
    (r.state = .inService ∨ r.state = .condemned → checked.state = r.state)) ∧
  (∀ (body : EntryBody) (stamp : Stamp) (r : Record), r.loss ≤ 1000000 →
    r.loss ≤ (appendEntry body stamp r).loss ∧ (appendEntry body stamp r).loss ≤ 1000000)

/-- A reading of a rim sensor is its value, brought into −30.0 to +60.0 °C, and the sensor is LIVE; a fault of a LIVE
sensor holds the last value for 10 s; the expiry leaves 20.0 °C and DEFAULTED (R97). Nothing else changes. A cutting
force reading is taken up to 5,000 daN, and changes nothing but what M9 or M10 sees (R49). From the samples of a
profile, its radii offset, in rising z about the taping line: the extraction finds the taping line radius, the flange
tip and the two points at which the profile falls through r_t and r_q, and from them D, h, t and qR; it fails
NO_FLANGE where the tip is not before the taping line, and NO_FLANK where a point is not found or r_q is not above r_t
(R94, R95). The out-of-round depth is the largest radius less the smallest (R96). D20 and the verdict are those of
R99. That the quotient is what is rounded, and that a pair lies at or before the taping line, are the model's choice
(log entries 18 and 19). -/
def Obligations.ReadingsAreTaken : Prop :=
  (∀ (side : Side) (s : State), settled s = true →
     (∀ value : Int, exec (.rimTemperatureReading side value) s =
       .next { s with pmu := { s.pmu with
         rim := s.pmu.rim.set ⟨max (-300) (min 600 value), .live, none⟩ side } }) ∧
     ((s.pmu.rim.get side).state = .live →
       exec (.rimSensorFault side) s =
         .next { s with pmu := { s.pmu with
           rim := s.pmu.rim.set ⟨(s.pmu.rim.get side).value, .held, some 10000⟩ side } }) ∧
     ((s.pmu.rim.get side).state = .held → (s.pmu.rim.get side).holdTimer.isSome = true →
       exec (.rimHoldTimerExpiry side) s =
         .next { s with pmu := { s.pmu with rim := s.pmu.rim.set ⟨200, .defaulted, none⟩ side } })) ∧
  (∀ (side : Side) (value : Nat) (s : State),
     exec (.forceReadingChange side value) s =
       .next (close s (modHead side (fun h => { h with force := min value 5000 }) s))) ∧
  (∀ (side : Side) (s : State),
     extractSide side s = extract s.sst.active.zTl s.sst.active.gauge s.sst.active.qOff
       ((s.pmu.head.get side).profile.map fun x =>
         ((x.pos : Int), (x.r : Int) + 2 * s.sst.active.probeOffset.get side))) ∧
  (∀ (zTl g qOff : Int) (list : List (Int × Int)), (list.Pairwise fun a b => a.1 < b.1) →
     ((∃ a ∈ list, a.1 ≤ zTl) → (∃ b ∈ list, zTl ≤ b.1) →
       ∃ rTl tip, IsTapingRadius zTl list rTl ∧ IsFlangeTip list tip) ∧
     ∀ (rTl : Int) (tip : Int × Int), IsTapingRadius zTl list rTl → IsFlangeTip list tip →
       let thick := IsCrossing (rTl + g) tip.1 zTl list
       let slope := IsCrossing (tip.2 - qOff) tip.1 zTl list
       (zTl ≤ tip.1 → extract zTl g qOff list = .error .noFlange) ∧
       (tip.1 < zTl →
         (∀ zThk zQ, thick zThk → rTl + g < tip.2 - qOff → slope zQ →
           extract zTl g qOff list = .ok ⟨2 * rTl, tip.2 - rTl, zThk, zThk - zQ⟩) ∧
         ((∀ z, ¬thick z) ∨ tip.2 - qOff ≤ rTl + g ∨ (∀ z, ¬slope z) →
           extract zTl g qOff list = .error .noFlank))) ∧
  (∀ ring : List Sample, ring ≠ [] →
     ∃ a ∈ ring, ∃ b ∈ ring, outOfRound ring = (a.r : Int) - b.r ∧ ∀ x ∈ ring, b.r ≤ x.r ∧ x.r ≤ a.r) ∧
  (∀ d temp : Int, RoundsHalfAway (d - d20Of d temp) (d * 115 * (temp - 200)) 100000000) ∧
  (∀ (w : WheelType) (d20 : Int) (x : Extract) (oor : Int),
     verdictOf w d20 x oor =
       if w.dScrap = 0 then none
       else if d20 < w.dScrap then some .condemn
       else if x.h ≤ w.hMax ∧ w.tMin ≤ x.t ∧ x.t ≤ w.tMax ∧ w.qRMin ≤ x.qR ∧ oor ≤ w.oorMax then some .serviceable
       else some .turn)

/-! ## The turning plan -/

/-- PLAN, where its conditions stand, takes its inputs: any plan is discarded and the plan work is COMPUTING (R105,
R106). The end of the computation (R107 to R112): an axle whose record is CONDEMNED has its plan refused CONDEMNED; a
target below the scrap diameter refuses the plan CONDEMN, and hands the seated record, which is open, a CONDEMNED
entry with the target, its state then CONDEMNED, no commit being queued for it (R110, R159); a depth above the limit
refuses it TOO_DEEP; two depths of 0 make it NOT_NEEDED; otherwise, with no sibling due, it is READY with the figures
of stages 1 to 3 and the passes of stage 6. The inputs hold, in ascending order of axle ID, each other record of the
bogie that is not CONDEMNED and has a last diameter, with the smaller one (R111). Those more than bogie_tol above the
target, the first eight, are the siblings due: the plan carries SIBLING_DUE, and the marks are judged in that order,
each on its open record by the table of R112; a mark whose record is not in the store is skipped. The first whose
record is to be opened leaves the plan work MARKING with it and those behind it (R112, R158); with none the plan is
READY. No mark waits before. The ascending order is that of the character codes (log entry 17). -/
def Obligations.PlanIsComputed : Prop :=
  (∀ (tag : Byte) (i : Identity) (l r : ProfileFigures) (s : State), ready s = true → s.tpe.work = .idle →
     s.pmu.phase = .idle → turningInProgress s = false → s.pil.seatState = .seated → s.pil.identity = some i →
     s.pmu.record.l = .valid l → s.pmu.record.r = .valid r → l.calStale = false → r.calStale = false →
     (s.sst.active.wheelType i.wheelType).dScrap ≠ 0 → (seatedRecord s).isSome = true →
     exec (.plan tag) s =
       .next (noted s (repliedCode 0xB0#8 tag .accepted { s with tpe := { s.tpe with
         plan := .empty none, work := .computing,
         inputs := some (planInputs i ⟨wheelInput l, wheelInput r⟩ s) } }))) ∧
  (∀ (p : PlanInputs) (s : State), settled s = true → s.tpe.work = .computing → s.tpe.inputs = some p →
     s.tpe.computed = none → s.tpe.marks = [] → s.ahs.opening = none → turningInProgress s = false →
     let f := planFigures p
     (∀ r, readRecord p.axleId s = some r → r.state = .condemned →
       exec .planComputationEnd s = .next (noted s { s with tpe := { s.tpe with
         plan := ⟨.refused, some .condemned, some f, none⟩, work := .idle, inputs := none,
         lastPlan := .refused .condemned } })) ∧
     ((∀ r, readRecord p.axleId s = some r → r.state ≠ .condemned) →
       (f.target < p.dScrap →
         ∃ t, exec .planComputationEnd s = .next t ∧ t.tpe.plan = ⟨.refused, some .condemn, some f, none⟩ ∧
           t.tpe.work = .idle ∧ t.tpe.lastPlan = .refused .condemn ∧ t.ahs.slots = s.ahs.slots ∧ t.pil = s.pil ∧
           (∀ id o, seatedRecord s = some id → openFind id s = some o →
             ∃ o', openFind id t = some o' ∧
               o'.record = appendEntry (.condemned f.target) s.pil.stamp o.record ∧
               o'.record.state = .condemned ∧ o'.record.lastD = o.record.lastD ∧ o'.record.loss = o.record.loss ∧
               (o.state ≠ .committing → o'.state = .dirty) ∧ (o.state = .committing → o'.changed = true) ∧
               (s.slp.resetPending = false → t.ahs.queue = s.ahs.queue))) ∧
       (p.dScrap ≤ f.target → (p.depthLimit < f.depth.l ∨ p.depthLimit < f.depth.r) →
         exec .planComputationEnd s = .next (noted s { s with tpe := { s.tpe with
           plan := ⟨.refused, some .tooDeep, some f, none⟩, work := .idle, inputs := none,
           lastPlan := .refused .tooDeep } })) ∧
       (p.dScrap ≤ f.target → f.depth.l = 0 → f.depth.r = 0 → 0 ≤ p.depthLimit →
         exec .planComputationEnd s = .next (noted s { s with tpe := { s.tpe with
           plan := ⟨.notNeeded, none, some f, none⟩, work := .idle, inputs := none, lastPlan := .notNeeded } })) ∧
       (p.dScrap ≤ f.target → f.depth.l ≤ p.depthLimit → f.depth.r ≤ p.depthLimit → (f.depth.l ≠ 0 ∨ f.depth.r ≠ 0) →
         marksDue p f.target = [] →
         exec .planComputationEnd s = .next (noted s { s with tpe := { s.tpe with
           plan := ⟨.ready, none, some f, some (planCut p f)⟩, work := .idle, inputs := none, lastPlan := .ready } })) ∧
       (∀ (now later : List Mark), p.dScrap ≤ f.target → f.depth.l ≤ p.depthLimit → f.depth.r ≤ p.depthLimit →
         (f.depth.l ≠ 0 ∨ f.depth.r ≠ 0) → marksDue p f.target = now ++ later → now ++ later ≠ [] →
         s.slp.resetPending = false → (now.map Mark.axleId).Nodup →
         (∀ m ∈ now, (indexFind m.axleId s.ahs.index).isSome = true → isOpen m.axleId s = true) →
         (∀ m, later.head? = some m → (indexFind m.axleId s.ahs.index).isSome = true ∧ isOpen m.axleId s = false) →
         let f' := { f with siblingDue := true }
         ∃ t, exec .planComputationEnd s = .next t ∧
           (later = [] → t.tpe = { s.tpe with
             plan := ⟨.ready, none, some f', some (planCut p f')⟩
             work := .idle, inputs := none, computed := none, marks := [], lastPlan := .ready }) ∧
           (∀ m, later.head? = some m →
             t.tpe = { s.tpe with
               work := .marking, inputs := none, computed := some (f', planCut p f'), marks := later } ∧
             ∃ o, t.ahs.opening = some o ∧ o.axleId = m.axleId ∧ o.seating = false ∧ o.created = none) ∧
           (∀ m ∈ now, ∀ o : OpenRecord, (indexFind m.axleId s.ahs.index).isSome = true →
             openFind m.axleId s = some o →
             let placed :=
               match o.record.state with
               | .inService => true
               | .turnDue limit _ => decide (m.limit < limit)
               | .condemned => false
             (placed = true → ∃ o', openFind m.axleId t = some o' ∧
               o'.record = appendEntry (.marked m.limit m.source) s.pil.stamp o.record ∧
               o'.record.state = .turnDue m.limit m.source ∧
               (o.state ≠ .committing → o'.state = .dirty ∧ m.axleId ∈ t.ahs.queue) ∧
               (o.state = .committing → o'.state = .committing ∧ o'.changed = true)) ∧
             (placed = false → later = [] → openFind m.axleId t = some o)) ∧
           t.ahs.slots = s.ahs.slots ∧ t.ahs.index = s.ahs.index ∧ t.pil = s.pil ∧ t.blu = s.blu ∧ t.pmu = s.pmu ∧
           t.tcu = s.tcu ∧ t.sst = s.sst))) ∧
  (∀ (p : PlanInputs) (target : Int),
     marksDue p target = ((p.siblings.filter fun x => decide (p.bogieTol < x.least - target)).take 8).map fun x =>
       ⟨x.axleId, target + p.bogieTol, p.axleId⟩) ∧
  (∀ (i : Identity) (wheel : Sides WheelInput) (s : State), (slotLaw s && storeLaw s) = true →
     let siblings := (planInputs i wheel s).siblings
     (siblings.Pairwise fun x y => idBefore x.axleId y.axleId = true) ∧
     ∀ x : Sibling, x ∈ siblings ↔
       ∃ r, (indexFind x.axleId s.ahs.index).isSome = true ∧ readRecord x.axleId s = some r ∧ x.axleId ≠ i.axleId ∧
         r.bogieId = i.bogieId ∧ r.state ≠ .condemned ∧ leastDiameter r.lastD = some x.least)

/-- R108 and R109: the reduction a wheel requires is the largest of three figures, the thickness it lacks by the factor k
in 1/256, rounded up, twice its out-of-round depth with the clean-up allowance, and twice the height its flange lacks.
The axle target is the smaller of the two differences D20 − R rounded down to a multiple of 10 µm, and the depth of a
wheel is half of what it loses, rounded up; in every case D20 − 2 depth ≤ D_target ≤ D20 − R for both wheels. The D20 of
a wheel is its diameter less its correction to 20 °C, rounded half away, and the plan is TEMP_HELD where either record is
(R107). The inputs are the two profile records, the profile of the seated axle's wheel type and the plan settings, as
PLAN takes them (R106). -/
def Obligations.TargetServesBothWheels : Prop :=
  (∀ (p : PlanInputs),
    let f := planFigures p
    (∀ side, let w := p.wheel.get side
      RoundsHalfAway (w.d - f.d20.get side) (w.d * 115 * (w.temp - 200)) 100000000 ∧
      ∃ thick : Int, p.k * max 0 (p.tT - w.t) ≤ 256 * thick ∧ 256 * thick < p.k * max 0 (p.tT - w.t) + 256 ∧
        f.required.get side = max thick (max (2 * (w.oor + p.cMin)) (2 * max 0 (p.hT - w.h)))) ∧
    f.tempHeld = (p.wheel.l.tempHeld || p.wheel.r.tempHeld) ∧
    f.target % 10 = 0 ∧
    f.target ≤ min (f.d20.l - f.required.l) (f.d20.r - f.required.r) ∧
    min (f.d20.l - f.required.l) (f.d20.r - f.required.r) < f.target + 10 ∧
    ∀ side, f.d20.get side - f.target ≤ 2 * f.depth.get side ∧
      2 * f.depth.get side ≤ f.d20.get side - f.target + 1 ∧
      f.d20.get side - 2 * f.depth.get side ≤ f.target ∧ f.target ≤ f.d20.get side - f.required.get side) ∧
  (∀ (i : Identity) (l r : ProfileFigures) (s : State),
    let p := planInputs i ⟨wheelInput l, wheelInput r⟩ s
    let st := s.sst.active
    let w := st.wheelType i.wheelType
    let profile := st.profile w.profileIndex
    p.wheel = ⟨⟨l.d, l.h, l.t, l.oor, l.temp, l.tempHeld⟩, ⟨r.d, r.h, r.t, r.oor, r.temp, r.tempHeld⟩⟩ ∧
    p.hT = profile.hT ∧ p.tT = profile.tT ∧ p.k = profile.k ∧ p.dScrap = w.dScrap ∧ p.cMin = st.cMin ∧
    p.finishDepth = st.finishDepth ∧ p.depthLimit = st.depthLimit ∧ p.bogieTol = st.bogieTol ∧
    p.ta = st.ta ∧ p.tb = st.tb ∧ p.tc = st.tc ∧ p.aMax = st.aMax ∧ p.speed = st.bandSpeed ∧ p.force = st.bandForce)

/-- R114 and R115: the passes of a plan are the split of each wheel's depth, fitted to common steps. The finish pass is the
smaller of the depth and the finishing depth; the rough passes are as many as the rough depth divided by a_max, rounded
up; they sum to the rough depth, each is the floor of their share or 1 µm more, the greater ones first, and none is above
a_max; a depth of 0 has no passes. Within the depth limit of 15,000 µm and a_max of at least 1,000 µm a list holds at most
16 passes. The a_max of a wheel is that of its band, which its rim temperature gives against TA ≤ TB ≤ TC, and which the
plan records also for a wheel without passes (R113). The steps are as many as the longer list has passes, and a wheel cuts
its passes in the last of them, one in each step. The speed is the lowest that the bands of the wheels with passes give,
and each wheel with passes has the force target of its band, a wheel without passes none. -/
def Obligations.DepthIsSplit : Prop :=
  (∀ (p : PlanInputs) (f : PlanFigures),
    let c := planCut p f
    (∀ side,
      let temp := (p.wheel.get side).temp
      let passes := c.passes.get side
      let band := c.band.get side
      (p.ta ≤ p.tb → p.tb ≤ p.tc →
        (band = .a ↔ temp < p.ta) ∧ (band = .b ↔ p.ta ≤ temp ∧ temp < p.tb) ∧
        (band = .c ↔ p.tb ≤ temp ∧ temp < p.tc) ∧ (band = .d ↔ p.tc ≤ temp)) ∧
      passes.map Pass.depth = passDepths (f.depth.get side).toNat p.finishDepth (p.aMax.get band) ∧
      (∀ k, k < passes.length → (passes.map Pass.step)[k]? = some (c.steps - passes.length + k + 1)) ∧
      (passes ≠ [] → c.speed ≤ p.speed.get band) ∧
      c.force.get side = if passes = [] then none else some (p.force.get band)) ∧
    c.steps = max c.passes.l.length c.passes.r.length ∧
    ((∃ side, c.passes.get side ≠ []) → ∃ side, c.passes.get side ≠ [] ∧ c.speed = p.speed.get (c.band.get side))) ∧
  ∀ (depth finish aMax : Nat), 0 < aMax →
    passDepths 0 finish aMax = [] ∧
    (0 < depth → ∃ rough extra,
      passDepths depth finish aMax = rough ++ [min depth finish] ∧
      rough.length * aMax < depth - min depth finish + aMax ∧ depth - min depth finish ≤ rough.length * aMax ∧
      rough.sum = depth - min depth finish ∧
      extra = (depth - min depth finish) % rough.length ∧
      rough = List.replicate extra ((depth - min depth finish) / rough.length + 1) ++
        List.replicate (rough.length - extra) ((depth - min depth finish) / rough.length) ∧
      (∀ x ∈ rough, x ≤ aMax)) ∧
    (passDepths depth finish aMax).sum = depth ∧
    (depth ≤ 15000 → 1000 ≤ aMax → 0 < finish → (passDepths depth finish aMax).length ≤ 16)

/-! ## Turning -/

/-- TURN, where its conditions stand, begins the turning: RUNUP toward the plan's speed, the plan IN_USE, both profile
records SUPERSEDED, both heads owned by TURN, every pass PENDING and the revolution counter 0 (R124, R125). M8 waits
for no stroke. -/
def Obligations.TurningBegins : Prop :=
  ∀ (tag : Byte) (s : State), ready s = true → s.pil.pitStop = false → s.pil.owners.heads = .link → tcuFree s = true →
    s.pmu.phase = .idle → (s.tcu.head.all fun h => h.owner == .none) = true → turnBlocked s = false →
    planFits s = true → turnSupported s = true → s.tcu.spindle = .stopped →
    (s.tcu.head.all fun h => h.position == .parked) = true → toolsReady s .l = true → toolsReady s .r = true →
    s.slp.silenceHold = false → noneTripped [.m8] s = true →
    ∃ t, exec (.turn tag) s = .next t ∧ t.slp.replySlot = some ⟨0xB8#8, tag, .fixed .accepted []⟩ ∧
      t.tcu.state = .runup ∧ t.tcu.spindle = .runup (planSpeed s) ∧ t.tcu.stopTimer = none ∧
      t.tcu.revolutions = 0 ∧ t.tcu.progress = some (newProgress s) ∧
      t.tcu.head = s.tcu.head.map (fun h => { h with owner := .turn }) ∧
      t.tpe.plan = { s.tpe.plan with state := .inUse } ∧
      t.pmu = { s.pmu with record := s.pmu.record.map ProfileRecord.supersede } ∧
      t.blu = s.blu ∧ t.pil.bridge = s.pil.bridge ∧ t.ahs = s.ahs ∧ t.sst = s.sst

/-- R133: PAUSE in RUNUP or CUTTING makes the turning PAUSED(PAUSE), the spindle keeping its state and the heads
withdrawing as R132 gives; in PAUSED it is answered OK and nothing changes; in any other state it is refused
NOT_AVAILABLE. It is taken whoever owns the heads and while the pit stop state is ASSERTED. -/
def Obligations.TurningIsPaused : Prop :=
  ∀ (tag : Byte) (s : State), ready s = true →
    ((s.tcu.state = .runup ∨ s.tcu.state = .cutting) →
      ∃ t, exec (.pause tag) s = .next t ∧ t.slp.replySlot = some ⟨0xB9#8, tag, .fixed .ok []⟩ ∧
        t.tcu.state = .paused .pause ∧ t.tcu.spindle = s.tcu.spindle ∧
        (∀ side,
          if (s.tcu.head.get side).approaching || (s.tcu.head.get side).position == .inCut then
            t.tcu.head.get side = (s.tcu.head.get side).moveTo .retracted ∧
            (passStatus side s = some .active → passStatus side t = some .incomplete)
          else t.tcu.head.get side = s.tcu.head.get side) ∧
        t.tpe = s.tpe ∧ t.blu = s.blu ∧ t.pmu = s.pmu ∧ t.ahs = s.ahs ∧ t.sst = s.sst) ∧
    (turningPaused s = true → exec (.pause tag) s = .next (repliedCode 0xB9#8 tag .ok s)) ∧
    (turningLive s = false → exec (.pause tag) s = .next (repliedCode 0xB9#8 tag .notAvailable s))

/-- RESUME, where its conditions stand, takes a PAUSED turning on (R134). With the spindle STOPPED or in RUNDOWN a new
run is begun toward the plan's speed, M8 waiting for no stroke, and the TCU is RUNUP. With the spindle AT_SPEED the TCU
is CUTTING and the step continues: an INCOMPLETE pass of the step is re-cut, its head going to the start of the pass, at
axial position 0 and at its depth below the surface that the COMPLETE passes have left (R126), and so does a pass of the
step that its tool has held back, still PENDING (R126, R137). Where every pass of the step is COMPLETE with its head
AT_WORK, the turning enters ENDING(DONE) after the last step; before it, with no later pass of a worn tool, the next
step begins (R129). That a spindle which already runs up keeps its run, that a PENDING pass of the step begins with
those re-cut, and that the surface from which a pass starts is the one the COMPLETE passes alone have left are the
model's readings (log entries 43, 56 and 62, DEDUCED). -/
def Obligations.TurningIsResumed : Prop :=
  ∀ (tag : Byte) (s : State), ready s = true → s.pil.pitStop = false → s.pil.owners.heads = .link →
    turnBlocked s = false → turningPaused s = true → turnSupported s = true → toolsFit s .l = true →
    toolsFit s .r = true → s.slp.silenceHold = false →
    (∀ v, s.tcu.spindle = .runup v →
      exec (.resume tag) s =
        .next (noted s (repliedCode 0xBA#8 tag .ok { s with tcu := { s.tcu with state := .runup } }))) ∧
    (s.tcu.spindle = .stopped ∨ s.tcu.spindle = .rundown → noneTripped [.m8] s = true →
      ∃ t, exec (.resume tag) s = .next t ∧ t.slp.replySlot = some ⟨0xBA#8, tag, .fixed .ok []⟩ ∧
        t.tcu = { s.tcu with
          state := .runup, spindle := .runup (planSpeed s), stopTimer := none, runEvents := 0, interval := 0 } ∧
        t.blu = s.blu ∧ t.pmu = s.pmu ∧ t.tpe = s.tpe ∧ t.ahs = s.ahs) ∧
    (∀ v p, s.tcu.spindle = .atSpeed v → s.tcu.progress = some p →
      (∀ side i, passInStep p.step (planPasses side s) = some i →
        (passStatuses side s)[i - 1]? = some .incomplete ∨ (passStatuses side s)[i - 1]? = some .pending →
        ∃ t, exec (.resume tag) s = .next t ∧ t.slp.replySlot = some ⟨0xBA#8, tag, .fixed .ok []⟩ ∧
          t.tcu.state = .cutting ∧ (t.tcu.head.get side).position = .moving ∧
          (t.tcu.head.get side).dest = some .passStart ∧ passStatus side t = some .active ∧
          (∀ q, (planPasses side s)[i - 1]? = some q →
            (t.tcu.head.get side).passStart = some ⟨0, depthCut side s, q.depth⟩)) ∧
      (∀ c, s.tpe.plan.cut = some c → sideStepDone p.step s .l = true → sideStepDone p.step s .r = true →
        (p.step = c.steps →
          ∃ t, exec (.resume tag) s = .next t ∧ t.slp.replySlot = some ⟨0xBA#8, tag, .fixed .ok []⟩ ∧
            t.tcu.state = .ending false ∧ t.tcu.lastTurn = .complete ∧ t.tcu.spindle = .rundown) ∧
        (p.step ≠ c.steps → wornForLater p.step s .l = false → wornForLater p.step s .r = false →
          ∃ t, exec (.resume tag) s = .next t ∧ t.slp.replySlot = some ⟨0xBA#8, tag, .fixed .ok []⟩ ∧
            t.tcu.state = .cutting ∧ t.tcu.progress.map Progress.step = some (p.step + 1) ∧
            ∀ side, (passInStep (p.step + 1) (planPasses side s)).isSome = true →
              (t.tcu.head.get side).position = .moving ∧ (t.tcu.head.get side).dest = some .passStart)))

/-- ABORT ends a turning in RUNUP, CUTTING or PAUSED: the outcome INTERRUPTED(ABORT), the plan BROKEN, the spindle's drive
off, every head that is not PARKED or HALTED on its way to park, and, where the seat has its record, a TURNED entry
with the flag INTERRUPTED at the end of its list (R130, R131, R135). In ENDING it is answered OK and changes nothing;
in any other state it is refused NOT_AVAILABLE. That a HALTED head stays where it stands is the model's choice (log
entry 14). -/
def Obligations.TurningIsAborted : Prop :=
  ∀ (tag : Byte) (s : State), ready s = true →
    (turningLive s = true → s.slp.resetPending = false →
      ∃ t, exec (.abort tag) s = .next t ∧ t.slp.replySlot = some ⟨0xBB#8, tag, .fixed .ok []⟩ ∧
        (t.tcu.state = .ending true ∨ t.tcu.state = .aborted) ∧ t.tcu.lastTurn = .interrupted .abort ∧
        t.tpe.plan = { s.tpe.plan with state := .broken } ∧ spindleRunning t = false ∧
        (∀ side, (s.tcu.head.get side).position ≠ .parked → (s.tcu.head.get side).position ≠ .halted →
          (t.tcu.head.get side).position = .moving ∧ (t.tcu.head.get side).dest = some .park) ∧
        (∀ side, passStatus side s = some .active → t.tcu.state = .ending true → passStatus side t = some .incomplete) ∧
        (∀ id o, seatedRecord s = some id → openFind id s = some o →
          ∃ o', openFind id t = some o' ∧
            o'.record = appendEntry (turnedEntry true (forSides breakPass s)) s.pil.stamp o.record) ∧
        t.blu = s.blu ∧ t.pil.bridge = s.pil.bridge ∧ t.sst = s.sst ∧ t.ahs.slots = s.ahs.slots) ∧
    (∀ ab, s.tcu.state = .ending ab → exec (.abort tag) s = .next (repliedCode 0xBB#8 tag .ok s)) ∧
    (turningInProgress s = false → exec (.abort tag) s = .next (repliedCode 0xBB#8 tag .notAvailable s))

/-- HOME, and the pendant's heads button for each head that it may, sends a RETRACTED or HALTED head that nobody owns to
park; HOME leaves a PARKED one, is refused BUSY for an owned head, NOT_AVAILABLE for one that is MOVING, IN_CUT, PROBING
or AT_WORK, and BAD_PARAMETER for a code that names no head (R14, R123). A slide move ends where it was going: at the
park station PARKED if the park switch is made, released where its measuring is over, the head of a reference sweep too;
at the scan start or the taping line PROBING; withdrawn RETRACTED; at the start of a pass waiting for the index event;
beside the wheel AT_WORK (R122, R126). The arrival at the park station by which each head is PARKED or HALTED, the
spindle STOPPED, takes a turning in ENDING to DONE, its plan SPENT, or to ABORTED, both heads released, and sets the
turned-since-sweep flag (R130). The arrival AT_WORK that ends a step while CUTTING goes on by R129: after the last step
the turning enters ENDING(DONE) with its TURNED entry, and each head neither PARKED nor HALTED is sent to park (R130,
R131); before it, with a worn tool of a wheel that has a later pass, it is PAUSED(EDGE) with the spindle in RUNDOWN;
otherwise the next step begins. The model's readings and choices: a reference sweep's head is released at the end of its
move (log entry 13); a HALTED head stays where it stands at the entry to ENDING(DONE), beside R130's words that each
head not PARKED becomes MOVING toward park (14); a move to park that ends without its switch changes nothing (23); the
flag is set also where the visit has ended meanwhile (53); an arrival AT_WORK of a PAUSED turning changes the head only
(55); a pass starts from the surface that the COMPLETE passes alone have left (62); an arrival in the RUNUP after a
RESUME leaves the end of the step to AT_SPEED (66). -/
def Obligations.HeadsTravel : Prop :=
  (∀ (tag : Byte) (code : Nat) (s : State), ready s = true → sideOf code = none →
     exec (.home tag code) s = .next (repliedCode 0xBC#8 tag .badParameter s)) ∧
  (∀ (s : State), settled s = true → s.pil.pitStop = false →
     (∀ (tag : Byte) (code : Nat) (side : Side), canDispatch s = true → sideOf code = some side →
       s.pil.owners.heads = .link →
       let h := s.tcu.head.get side
       (h.owner ≠ .none → exec (.home tag code) s = .next (repliedCode 0xBC#8 tag .busy s)) ∧
       (h.owner = .none → h.position = .parked → exec (.home tag code) s = .next (repliedCode 0xBC#8 tag .ok s)) ∧
       (h.owner = .none → h.position = .retracted ∨ h.position = .halted →
         exec (.home tag code) s =
           .next (noted s (repliedCode 0xBC#8 tag .accepted (modHead side (·.moveTo .park) s)))) ∧
       (h.owner = .none →
         h.position = .moving ∨ h.position = .inCut ∨ h.position = .probing ∨ h.position = .atWork →
         exec (.home tag code) s = .next (repliedCode 0xBC#8 tag .notAvailable s))) ∧
     (s.pil.owners.heads = .pendant → s.slp.resetPending = false →
       exec .pendantHeadsHome s =
         .next (noted s { s with tcu := { s.tcu with head := s.tcu.head.map fun h =>
           if h.owner = .none ∧ (h.position = .retracted ∨ h.position = .halted) then h.moveTo .park else h } }))) ∧
  (∀ (side : Side) (switch : Bool) (s : State), (s.tcu.head.get side).position = .moving →
     (s.tcu.head.get side).dest = some .park →
     (switch = false → settled s = true → exec (.headMoveEnd side switch) s = .next s) ∧
     (switch = true →
       ∃ t, exec (.headMoveEnd side switch) s = .next t ∧ (t.tcu.head.get side).position = .parked ∧
         (t.tcu.head.get side).dest = none ∧ (t.fmu.monitors.get (overtravelOf side)).condition = false ∧
         (headInSweep side s = false → referenceRunning side s = false → (s.tcu.head.get side).owner = .measure →
           (t.tcu.head.get side).owner = .none) ∧
         (let other := (s.tcu.head.get side.other).position
          if s.tcu.spindle = .stopped ∧ (other = .parked ∨ other = .halted) then
            ∀ ab, s.tcu.state = .ending ab →
              t.tcu.state = (if ab then .aborted else .done) ∧ t.pmu.turnedSince = true ∧
              t.tpe.plan = (if ab then s.tpe.plan else { s.tpe.plan with state := .spent }) ∧
              ∀ x, (t.tcu.head.get x).owner = .none ∧ (t.tcu.head.get x).passIndex = none
          else t.tcu.state = s.tcu.state ∧ t.tpe = s.tpe ∧ t.pmu = s.pmu) ∧
         t.blu = s.blu ∧ t.tcu.spindle = s.tcu.spindle ∧ t.ahs = s.ahs)) ∧
  (∀ (side : Side) (switch : Bool) (s : State), (s.tcu.head.get side).position = .parked →
     (s.tcu.head.get side).dest = some .stow →
     let ended := !headInSweep side s && !referenceRunning side s && (s.tcu.head.get side).owner == .measure
     exec (.headMoveEnd side switch) s =
       .next (close s (modHead side (fun h =>
         { h with dest := none, owner := if ended then .none else h.owner }) s))) ∧
  (∀ (side : Side) (switch : Bool) (d : HeadDest) (s : State), (s.tcu.head.get side).position = .moving →
     (s.tcu.head.get side).dest = some d →
     (d = .retracted → exec (.headMoveEnd side switch) s =
       .next (close s (modHead side (fun h => { h with position := .retracted, dest := none }) s))) ∧
     (d = .scanStart ∨ d = .tapingLine → exec (.headMoveEnd side switch) s =
       .next (close s (modHead side (fun h => { h with position := .probing, dest := none }) s))) ∧
     (d = .passStart → exec (.headMoveEnd side switch) s =
       .next (close s (modHead side (fun h => { h with dest := some .awaitIndex }) s))) ∧
     (d = .atWork → s.tcu.state ≠ .cutting → exec (.headMoveEnd side switch) s =
       .next (close s (modHead side (fun h => { h with position := .atWork, dest := none }) s)))) ∧
  (∀ (side : Side) (switch : Bool) (p : Progress) (c : PlanCut) (s : State),
     (s.tcu.head.get side).position = .moving → (s.tcu.head.get side).dest = some .atWork →
     s.tcu.state = .cutting → s.tcu.progress = some p → s.tpe.plan.cut = some c →
     let there := modHead side (fun h => { h with position := .atWork, dest := none }) s
     let stepDone := [Side.l, .r].all (sideStepDone p.step there)
     let worn := [Side.l, .r].any (wornForLater p.step there)
     (stepDone = false → exec (.headMoveEnd side switch) s = .next (close s there)) ∧
     (stepDone = true → p.step = c.steps →
       ∃ t, exec (.headMoveEnd side switch) s = .next t ∧ t.tcu.state = .ending false ∧ t.tcu.lastTurn = .complete ∧
         spindleRunning t = false ∧ t.tpe = s.tpe ∧ t.blu = s.blu ∧ t.pmu = s.pmu ∧ t.sst = s.sst ∧
         (∀ x, let h := there.tcu.head.get x
           if h.position = .parked ∨ h.position = .halted then t.tcu.head.get x = h
           else (t.tcu.head.get x).position = .moving ∧ (t.tcu.head.get x).dest = some .park) ∧
         (seatedRecord s = none → t.ahs = s.ahs) ∧
         ∀ id o, seatedRecord s = some id → openFind id s = some o →
           ∃ o', openFind id t = some o' ∧
             o'.record = appendEntry (turnedEntry false s) s.pil.stamp o.record ∧
             (o.state ≠ .committing → o'.state = .dirty) ∧ (o.state = .committing → o'.changed = true)) ∧
     (stepDone = true → p.step ≠ c.steps → worn = true →
       ∃ t, exec (.headMoveEnd side switch) s = .next t ∧ t.tcu.state = .paused .edge ∧ spindleRunning t = false ∧
         t.tcu.progress = some p ∧ t.tcu.head = there.tcu.head ∧ t.tpe = s.tpe ∧ t.blu = s.blu ∧ t.pmu = s.pmu ∧
         t.ahs = s.ahs ∧ t.sst = s.sst) ∧
     (stepDone = true → p.step ≠ c.steps → worn = false →
       ∃ t, exec (.headMoveEnd side switch) s = .next t ∧ t.tcu.state = .cutting ∧ t.tcu.spindle = s.tcu.spindle ∧
         t.tcu.progress.map Progress.step = some (p.step + 1) ∧ t.tpe = s.tpe ∧ t.blu = s.blu ∧ t.pmu = s.pmu ∧
         t.ahs = s.ahs ∧ t.sst = s.sst ∧
         ∀ x, (passInStep (p.step + 1) (planPasses x s) = none → t.tcu.head.get x = there.tcu.head.get x) ∧
           ∀ i q, passInStep (p.step + 1) (planPasses x s) = some i → (planPasses x s)[i - 1]? = some q →
             (t.tcu.head.get x).position = .moving ∧ (t.tcu.head.get x).dest = some .passStart ∧
             (t.tcu.head.get x).passIndex = some i ∧
             (t.tcu.head.get x).passStart = some ⟨0, depthCut x s, q.depth⟩ ∧
             (i ≤ (passStatuses x s).length → passStatus x t = some .active)))

/-- INDEX_EDGE and TOOL_CHANGED (R138), of a head that is not IN_CUT while the TCU is not CUTTING. INDEX_EDGE of a tool
that is not EXHAUSTED counts one edge used, sets the edge count to 0 and leaves the tool USABLE, or EXHAUSTED where
the edges used then equal the edges per insert; TOOL_CHANGED sets both counts to 0 and the tool USABLE. A head that is
no head is BAD_PARAMETER, and a head IN_CUT, a TCU that is CUTTING, and for INDEX_EDGE an EXHAUSTED tool are refused
NOT_AVAILABLE. That the edges used count on beyond the 8 of their range is the model's reading (log entry 46). -/
def Obligations.EdgeIsIndexed : Prop :=
  ∀ (tag : Byte) (code : Nat) (s : State), ready s = true →
    (sideOf code = none →
      exec (.indexEdge tag code) s = .next (repliedCode 0xBD#8 tag .badParameter s) ∧
      exec (.toolChanged tag code) s = .next (repliedCode 0xBE#8 tag .badParameter s)) ∧
    (∀ side, sideOf code = some side →
      ((s.tcu.head.get side).position = .inCut ∨ s.tcu.state = .cutting →
        exec (.indexEdge tag code) s = .next (repliedCode 0xBD#8 tag .notAvailable s) ∧
        exec (.toolChanged tag code) s = .next (repliedCode 0xBE#8 tag .notAvailable s)) ∧
      ((s.tcu.head.get side).tool = .exhausted →
        exec (.indexEdge tag code) s = .next (repliedCode 0xBD#8 tag .notAvailable s)) ∧
      ((s.tcu.head.get side).position ≠ .inCut → s.tcu.state ≠ .cutting →
        ((s.tcu.head.get side).tool ≠ .exhausted →
          exec (.indexEdge tag code) s =
            .next (noted s (repliedCode 0xBD#8 tag .ok (modHead side (fun h =>
              { h with
                edgesUsed := h.edgesUsed + 1
                edgeCount := 0
                tool := if h.edgesUsed + 1 = s.sst.active.edgesPerInsert then .exhausted else .usable }) s)))) ∧
        exec (.toolChanged tag code) s =
          .next (noted s (repliedCode 0xBE#8 tag .ok
            (modHead side (fun h => { h with edgesUsed := 0, edgeCount := 0, tool := .usable }) s)))))

/-- An index event takes the interval and counts the run's events, and restarts the stop timer of a spindle in RUNDOWN
(R120, R121). Of each head, independently (R127): one IN_CUT has a revolution on the edge, and z_done one feed further
with a new feed from the force of the revolution; or, where the travel is done, the pass COMPLETE and the head on its
way to AT_WORK (R128, R129). One that waits at the start of its pass goes IN_CUT with z_done 0, f_start clamped into the
range of the feeds, the revolutions remaining, and its blanking (R59, R126). Any other stays. The revolution counter
counts an event at which a head was IN_CUT, once. In RING_WAIT, with the spindle AT_SPEED and every swept head PROBING
with its MODE write OK, the event is counted, and the second places RING_START and the first state read for each swept
head and begins RING_SCAN; without these it is not counted (R90). M9 and M10 wait for no stroke. The readings of a
revolution as operands, the order L before R and the place of the first state read are the model's choice (log entries
8, 11 and 49). -/
def Obligations.IndexEventIsTaken : Prop :=
  (∀ (interval : Nat) (forcesL forcesR : List Nat) (s : State), headInCut s = false → s.pmu.phase ≠ .ringWait →
     (∀ side, (s.tcu.head.get side).dest ≠ some .awaitIndex) →
     exec (.indexEvent interval forcesL forcesR) s =
       .next (close s { s with tcu := { s.tcu with
         interval := interval
         runEvents := min 2 (s.tcu.runEvents + 1)
         stopTimer := if s.tcu.spindle = .rundown then some 2000 else s.tcu.stopTimer } })) ∧
  (∀ (interval : Nat) (forces : Sides (List Nat)) (p : Progress) (s : State), s.tcu.progress = some p →
     noneTripped [.m9, .m10] s = true →
     ∃ t, exec (.indexEvent interval forces.l forces.r) s = .next t ∧
       t.tcu.interval = interval ∧ t.tcu.runEvents = min 2 (s.tcu.runEvents + 1) ∧
       t.tcu.stopTimer = (if s.tcu.spindle = .rundown then some 2000 else s.tcu.stopTimer) ∧
       (headInCut s = false → t.tcu.revolutions = s.tcu.revolutions) ∧
       (headInCut s = true → s.tcu.revolutions < 4294967295 → t.tcu.revolutions = s.tcu.revolutions + 1) ∧
       (∀ side,
         let before := s.tcu.head.get side
         let after := t.tcu.head.get side
         let edge := min 65535 (before.edgeCount + 1)
         (∀ z, before.position = .inCut → before.zDone = some z →
           after.edgeCount = edge ∧
           after.tool = (if before.tool = .usable ∧ s.sst.active.edgeLife ≤ edge then .worn else before.tool) ∧
           (p.lProf ≤ z + before.feed →
             after.position = .moving ∧ after.dest = some .atWork ∧ after.zDone = none ∧ after.remaining = none ∧
             after.feed = before.feed ∧
             (passStatus side s = some .active → passStatus side t = some .complete)) ∧
           (z + before.feed < p.lProf →
             after.position = .inCut ∧ after.zDone = some (z + before.feed) ∧
             after.feed = newFeed s.sst.active (forceTarget side s) (forces.get side) before ∧
             after.remaining = some (min 65535 (natDivCeil (p.lProf - (z + before.feed)) after.feed)))) ∧
         (before.position = .moving → before.dest = some .awaitIndex →
           let feed := (clampInt s.sst.active.fMin s.sst.active.fMax s.sst.active.fStart).toNat
           after = { before with
             position := .inCut, dest := none, feed := feed, zDone := some 0
             remaining := some (min 65535 (natDivCeil p.lProf feed))
             blankLeft := s.sst.active.toolBlanking.get side }) ∧
         (before.position ≠ .inCut → before.dest ≠ some .awaitIndex → after = before)) ∧
       (s.pmu.phase ≠ .ringWait → t.pmu = s.pmu ∧ t.gbc = s.gbc) ∧
       t.tcu.state = s.tcu.state ∧ t.tcu.spindle = s.tcu.spindle ∧ t.tpe = s.tpe ∧
       t.blu = s.blu ∧ t.ahs = s.ahs ∧ t.sst = s.sst) ∧
  (∀ (interval : Nat) (forcesL forcesR : List Nat) (w : Wheels) (s : State), s.pmu.phase = .ringWait →
     s.pmu.selected = some w → headInCut s = false → (∀ side, (s.tcu.head.get side).dest ≠ some .awaitIndex) →
     ∃ t, exec (.indexEvent interval forcesL forcesR) s = .next t ∧ t.tcu.head = s.tcu.head ∧
       let counted := atSpeed s && [Side.l, .r].all fun side =>
         !w.has side || ((s.tcu.head.get side).position == .probing && (s.pmu.head.get side).modeOk)
       (counted = false → t.pmu = s.pmu ∧ t.gbc = s.gbc) ∧
       (counted = true → s.pmu.settle = 0 → t.pmu = { s.pmu with settle := 1 } ∧ t.gbc = s.gbc) ∧
       (counted = true → s.pmu.settle = 1 → t.pmu = { s.pmu with settle := 2, phase := .ringScan } ∧
         (s.gbc.queue = [] → s.gbc.held = .both [] →
           t.gbc = { s.gbc with queue := ([Side.l, .r].filter w.has).flatMap fun side =>
             [ringStartTxn side .sweep, stateReadTxn side .sweep] })))

/-- R128's law: the new feed lies between f_min and f_max, and differs from a feed that lies there by at most 100 in FULL
and 10 in ONE_STEP; a force above the target never raises it, and one below never lowers it. -/
def Obligations.FeedStaysInRange : Prop :=
  ∀ (st : Settings) (target : Nat) (readings : List Nat) (h : Head), st.fMin ≤ st.fMax →
    st.fMin ≤ newFeed st target readings h ∧ newFeed st target readings h ≤ st.fMax ∧
    (st.fMin ≤ h.feed → h.feed ≤ st.fMax →
      (st.feedMode = .full →
        newFeed st target readings h ≤ h.feed + 100 ∧ h.feed ≤ newFeed st target readings h + 100) ∧
      (st.feedMode = .oneStep →
        newFeed st target readings h ≤ h.feed + 10 ∧ h.feed ≤ newFeed st target readings h + 10) ∧
      (readings ≠ [] → (∀ x ∈ readings, target ≤ x) → target ≤ 5000 → newFeed st target readings h ≤ h.feed) ∧
      (readings ≠ [] → (∀ x ∈ readings, x ≤ target) → h.feed ≤ newFeed st target readings h))

/-- The roller surface speed is the mean of the two roller pairs; a spindle in RUNUP that comes within 2 % of its target
is AT_SPEED and no longer blanks M8, and a turning in RUNUP that has begun no step goes on to CUTTING with step 1, in
which each head with a pass and a USABLE tool begins it (R59, R120, R121, R125, R126, R137). One that has begun a step,
its RUNUP following a RESUME, becomes CUTTING and continues the step (R125, R134): an INCOMPLETE pass of the step is
re-cut, its head going to its start; where the step has ended, the step-end test of R129 is made: after the last step
ENDING(DONE), before it PAUSED(EDGE) with the spindle in RUNDOWN for a worn tool of a wheel with a later pass, and
otherwise the next step. A head whose tool is not USABLE begins and re-cuts no pass and stays as it is (R137). Outside
RUNUP of the spindle only the speed changes. The stop timer of a spindle in RUNDOWN makes it STOPPED (R120). A turning
in ENDING whose heads are PARKED or HALTED is then DONE, its plan SPENT, or ABORTED, and both heads are released (R130);
a measuring run not asked for returns to the state it left; one asked for that waited runs up to 10 m/min between closed
clamps and withdrawn bridges, and without them its sweep ends FAILED(SUPPORT) (R45, R140). The model's readings
(DEDUCED): the turning becomes CUTTING, and stays so without a pause, while a tool holds a pass back (log entry 44); a
pass so held back, PENDING or INCOMPLETE, begins when the step continues with a USABLE tool (56); the flag
`pmu.turnedSince` is set at every leave of ENDING, also where the turning's visit has ended meanwhile, where R98 and
R130 speak of a turning of this visit (53); a pass starts from the surface that the COMPLETE passes alone have left
(62); a step whose end fell in the RUNUP ends at AT_SPEED (66). -/
def Obligations.SpindleFollowsRollers : Prop :=
  (∀ (pairL pairR : Nat) (s : State),
     (spindleTarget s = none ∨ (∃ v, s.tcu.spindle = .atSpeed v) →
       exec (.rollerSpeedChange pairL pairR) s =
         .next (close s { s with tcu := { s.tcu with rollerSpeed := (pairL + pairR) / 2 } })) ∧
     (∀ v, s.tcu.spindle = .runup v → withinTarget ((pairL + pairR) / 2) v = true →
       ∃ t, exec (.rollerSpeedChange pairL pairR) s = .next t ∧ t.fmu.slipBlanked = false ∧
         t.tcu.rollerSpeed = (pairL + pairR) / 2 ∧ t.blu = s.blu ∧
         (s.tcu.state ≠ .runup → t.tcu.spindle = .atSpeed v ∧ t.tcu.state = s.tcu.state ∧ t.tcu.head = s.tcu.head) ∧
         (∀ p, s.tcu.state = .runup → s.tcu.progress = some p → p.step = 0 →
           t.tcu.spindle = .atSpeed v ∧ t.tcu.state = .cutting ∧ t.tcu.progress.map Progress.step = some 1 ∧
           ∀ side,
             if (passInStep 1 (planPasses side s)).isSome ∧ (s.tcu.head.get side).tool = .usable then
               (t.tcu.head.get side).position = .moving ∧ (t.tcu.head.get side).dest = some .passStart
             else t.tcu.head.get side = s.tcu.head.get side) ∧
         (∀ p, s.tcu.state = .runup → s.tcu.progress = some p → p.step ≠ 0 →
           let stepDone := [Side.l, .r].all (sideStepDone p.step s)
           let worn := [Side.l, .r].any (wornForLater p.step s)
           (stepDone = false →
             t.tcu.spindle = .atSpeed v ∧ t.tcu.state = .cutting ∧ t.tcu.progress.map Progress.step = some p.step ∧
             ∀ side,
               let again := fun i => (s.tcu.head.get side).tool = .usable ∧
                 passInStep p.step (planPasses side s) = some i ∧
                 ((passStatuses side s)[i - 1]? = some .incomplete ∨ (passStatuses side s)[i - 1]? = some .pending)
               (∀ i q, again i → (planPasses side s)[i - 1]? = some q →
                 (t.tcu.head.get side).position = .moving ∧ (t.tcu.head.get side).dest = some .passStart ∧
                 (t.tcu.head.get side).passStart = some ⟨0, depthCut side s, q.depth⟩ ∧
                 passStatus side t = some .active) ∧
               ((∀ i, ¬again i) → t.tcu.head.get side = s.tcu.head.get side)) ∧
           (∀ c, stepDone = true → s.tpe.plan.cut = some c →
             (p.step = c.steps →
               t.tcu.state = .ending false ∧ t.tcu.lastTurn = .complete ∧ t.tcu.spindle = .rundown) ∧
             (p.step ≠ c.steps → worn = true →
               t.tcu.state = .paused .edge ∧ t.tcu.spindle = .rundown ∧ t.tcu.stopTimer = some 2000 ∧
               t.tcu.progress = some p ∧ t.tcu.head = s.tcu.head) ∧
             (p.step ≠ c.steps → worn = false →
               t.tcu.spindle = .atSpeed v ∧ t.tcu.state = .cutting ∧
               t.tcu.progress.map Progress.step = some (p.step + 1) ∧
               ∀ side, (passInStep (p.step + 1) (planPasses side s)).isSome = true →
                 (t.tcu.head.get side).position = .moving ∧ (t.tcu.head.get side).dest = some .passStart)))) ∧
     (∀ v, s.tcu.spindle = .runup v → withinTarget ((pairL + pairR) / 2) v = false →
       ∃ t, exec (.rollerSpeedChange pairL pairR) s = .next t ∧
         t.tcu = { s.tcu with rollerSpeed := (pairL + pairR) / 2 } ∧ t.blu = s.blu ∧ t.pmu = s.pmu)) ∧
  (∀ (s : State), s.tcu.spindle = .rundown → s.tcu.stopTimer.isSome = true → s.tcu.measuring = false →
     ∃ t, exec .stopTimerExpiry s = .next t ∧ t.tcu.spindle = .stopped ∧ t.tcu.stopTimer = none ∧
       t.blu = s.blu ∧ t.sst = s.sst ∧ t.ahs = s.ahs ∧
       (∀ left, s.tcu.state = .measureRun left →
         t.tcu.state = (match left with | .idle => .idle | .done => .done | .aborted => .aborted)) ∧
       (∀ ab, s.tcu.state = .ending ab →
         (∀ side, (s.tcu.head.get side).position = .parked ∨ (s.tcu.head.get side).position = .halted) →
         t.tcu.state = (if ab then .aborted else .done) ∧ t.pmu.turnedSince = true ∧
         (ab = false → t.tpe.plan = { s.tpe.plan with state := .spent }) ∧
         ∀ side, (t.tcu.head.get side).owner = .none)) ∧
  (∀ (left : LeftState) (s : State), s.tcu.spindle = .rundown → s.tcu.stopTimer.isSome = true →
     s.tcu.measuring = true → s.tcu.state = .measureRun left →
     ((bothClamps .closed s && bothBridges .out s) = true → noneTripped [.m8] s = true →
       ∃ t, exec .stopTimerExpiry s = .next t ∧
         t.tcu = { s.tcu with spindle := .runup 10, stopTimer := none, runEvents := 0, interval := 0 } ∧
         t.pmu = s.pmu ∧ t.blu = s.blu ∧ t.ahs = s.ahs ∧ t.sst = s.sst) ∧
     ((bothClamps .closed s && bothBridges .out s) = false → sweepRunning s = true →
       ∃ t, exec .stopTimerExpiry s = .next t ∧ t.tcu.spindle = .stopped ∧ t.tcu.measuring = false ∧
         t.tcu.state = left.state ∧ t.pmu.phase = .idle ∧ t.pmu.lastSweep = .failed .support))

/-! ## The history store -/

/-- A request that reads is answered OK, and its fields are left to be taken as the sending of the reply begins (R63, R104,
R119, R160, R161, R172, R175, R183). Nothing but the reply slot changes. That LIST_BOGIE is answered OK also for a bogie
ID with other characters than 0-9 and A-Z is the model's reading (log entry 41: R161 gives no refusal for characters). -/
def Obligations.ReadsAreServed : Prop :=
  ∀ (tag : Byte) (s : State), ready s = true →
    exec (.status tag) s = .next (replied 0xC8#8 tag (.late .status) s) ∧
    exec (.readFaults tag) s = .next (replied 0xA1#8 tag (.late .readFaults) s) ∧
    exec (.readPlan tag) s = .next (replied 0xB1#8 tag (.late .readPlan) s) ∧
    (∀ (code : Nat) (side : Side), sideOf code = some side →
      exec (.readProfile tag code) s = .next (replied 0xAB#8 tag (.late (.readProfile side)) s)) ∧
    (s.ahs.store = .ready →
      (∀ bogieId : BogieId, exec (.listBogie tag bogieId) s = .next (replied 0xC1#8 tag (.late (.listBogie bogieId)) s)) ∧
      ∀ (axleId : AxleId) (start : Nat) (r : Record), idValid 10 axleId = true →
        (indexFind axleId s.ahs.index).isSome = true → readRecord axleId s = some r → start ≤ r.entries.length →
        exec (.readHistory tag axleId start) s = .next (replied 0xC0#8 tag (.late (.readHistory axleId start)) s)) ∧
    ∀ addr : SettingAddr, (settingOf addr).isSome = true →
      exec (.getSetting tag 0 addr) s = .next (replied 0xD1#8 tag (.late (.getSetting false addr)) s) ∧
      (s.sst.store ≠ .writing → s.sst.image.isSome = true →
        exec (.getSetting tag 1 addr) s = .next (replied 0xD1#8 tag (.late (.getSetting true addr)) s))

/-- RETIRE_AXLE of a record that owes no commit and is neither seated nor waited for takes it out of the store: its slot is
FREE, its index entry and its open copy are gone, and it is not found any more (R162). Of one that owes a commit it is
refused BUSY, and of the seated one and of one that a seating waits for NOT_AVAILABLE (R162); that the last holds also
while the slot of the record is being read, its place found, is the model's choice (log entry 67). CORRECT_HISTORY of an open record
appends an ENTERED entry to it, with the depot stamp and the next serial, and the diameters given are its last diameters
(R144, R146, R163). -/
def Obligations.HistoryIsMended : Prop :=
  ∀ (tag : Byte) (axleId : AxleId) (s : State), ready s = true → s.ahs.store = .ready → idValid 10 axleId = true →
    (∀ e : IndexEntry, indexFind axleId s.ahs.index = some e → commitOwed axleId s = false →
      seatedOrWaited axleId s = false →
      ∃ t, exec (.retireAxle tag axleId) s = .next t ∧
        t = noted s (repliedCode 0xC2#8 tag .ok { s with ahs := { s.ahs with
          slots := match e.slot with | some n => putSlot n none s.ahs.slots | none => s.ahs.slots
          index := s.ahs.index.filter fun x => x.axleId != axleId
          cache := s.ahs.cache.filter fun o => o.record.axleId != axleId } }) ∧
        readRecord axleId t = none) ∧
    (commitOwed axleId s = true → exec (.retireAxle tag axleId) s = .next (repliedCode 0xC2#8 tag .busy s)) ∧
    (commitOwed axleId s = false → seatedOrWaited axleId s = true →
      exec (.retireAxle tag axleId) s = .next (repliedCode 0xC2#8 tag .notAvailable s)) ∧
    (∀ (l r : Option Nat) (o : OpenRecord), openFind axleId s = some o →
      (indexFind axleId s.ahs.index).isSome = true → openingWaits s = false → (l.isSome = true ∨ r.isSome = true) →
      (∀ d, l = some d ∨ r = some d → 500000 ≤ d ∧ d ≤ 1200000 ∧
        ((s.sst.active.wheelType o.record.wheelType).dNew = 0 ∨
          d ≤ (s.sst.active.wheelType o.record.wheelType).dNew)) →
      ∃ t o', exec (.correctHistory tag axleId l r) s = .next t ∧ openFind axleId t = some o' ∧
        t.slp.replySlot = some ⟨0xC3#8, tag, .fixed .ok []⟩ ∧
        o'.record.entries = o.record.entries.drop (o.record.entries.length + 1 - 24) ++
          [⟨.entered ⟨l.map fun n => n, r.map fun n => n⟩, s.pil.stamp, o.record.nextSerial⟩] ∧
        o'.record.nextSerial = (o.record.nextSerial + 1) % 65536 ∧
        (∀ d, l = some d → o'.record.lastD.l = some (d : Int)) ∧ (l = none → o'.record.lastD.l = o.record.lastD.l) ∧
        (∀ d, r = some d → o'.record.lastD.r = some (d : Int)) ∧ (r = none → o'.record.lastD.r = o.record.lastD.r) ∧
        o'.record.state = o.record.state ∧ o'.state ≠ .clean ∧
        t.ahs.slots = s.ahs.slots ∧ t.ahs.index = s.ahs.index ∧ t.ahs.queue = s.ahs.queue ∧
        t.pil = s.pil ∧ t.blu = s.blu ∧ t.pmu = s.pmu ∧ t.tpe = s.tpe ∧ t.tcu = s.tcu ∧ t.sst = s.sst)

/-- COMMIT queues, behind those that wait, every open record that is DIRTY and neither COMMITTING nor queued, once each, and
is answered ACCEPTED where it has queued one, otherwise OK; while the store is LOADING it is refused BUSY (R164, R165). -/
def Obligations.DirtyRecordsAreQueued : Prop :=
  ∀ (tag : Byte) (s : State), ready s = true →
    (s.ahs.store = .loading → exec (.commit tag) s = .next (repliedCode 0xC4#8 tag .busy s)) ∧
    (s.ahs.store = .ready →
      ∃ added : List AxleId, added.Nodup ∧
        (∀ id, id ∈ added ↔ id ∉ s.ahs.queue ∧
          (∃ o ∈ s.ahs.cache, o.record.axleId = id ∧ o.state = .dirty) ∧
          (openFind id s).map (·.state) ≠ some .committing) ∧
        exec (.commit tag) s =
          .next (noted s (repliedCode 0xC4#8 tag (if added = [] then .ok else .accepted)
            { s with ahs := { s.ahs with queue := s.ahs.queue ++ added } })))

/-- A commit from its begin to its end (R153 to R156). It begins with the oldest queued record, which it writes to the free
good slot of lowest number; the end of the write begins the verify. A verify that agrees makes the new slot VALID and
the old one FREE in one action, and the record CLEAN, or DIRTY and queued again where it was changed meanwhile; one
that disagrees makes the slot BAD and tries the next free good slot, and a second fails the commit: the record is
DIRTY and the index stays. A commit that finds no free good slot, at its first write or at its retry, fails so too (R154,
R155, R156). A record that is CLEAN when its turn comes leaves the queue without a write (R153). No opening waits. -/
def Obligations.CommitsRun : Prop :=
  ∀ (s : State), settled s = true → slotLaw s = true → s.ahs.opening = none →
    (∀ (id : AxleId) (rest : List AxleId) (o : OpenRecord) (n : Nat), s.ahs.commit = none → s.ahs.store = .ready →
      s.sst.store = .idle → s.ahs.queue = id :: rest → openFind id s = some o → o.state ≠ .clean →
      lowestFree s.ahs.slots = some n →
      slotAt n s.ahs.slots = none ∧ (∀ k, slotAt k s.ahs.slots = none → n ≤ k) ∧
      ∃ t, exec .commitBegin s = .next t ∧ t.ahs.queue = rest ∧ t.ahs.commit = some ⟨id, n, .write, false, 0⟩ ∧
        slotAt n t.ahs.slots = some (.written o.record) ∧ (∀ k, k ≠ n → slotAt k t.ahs.slots = slotAt k s.ahs.slots) ∧
        openFind id t = some { o with state := .committing, changed := false } ∧ t.ahs.index = s.ahs.index) ∧
    (∀ (id : AxleId) (rest : List AxleId) (o : OpenRecord), s.ahs.commit = none → s.ahs.store = .ready →
      s.sst.store = .idle → s.ahs.queue = id :: rest → openFind id s = some o →
      (o.state = .clean →
        exec .commitBegin s = .next (noted s { s with ahs := { s.ahs with queue := rest } })) ∧
      (o.state ≠ .clean → (∀ k, k < 544 → slotAt k s.ahs.slots ≠ none) →
        ∃ t, exec .commitBegin s = .next t ∧ t.ahs.queue = rest ∧ t.ahs.commit = none ∧
          t.ahs.lastCommit = .failed id 0 ∧ openFind id t = some { o with state := .dirty, changed := false } ∧
          t.ahs.slots = s.ahs.slots ∧ t.ahs.index = s.ahs.index)) ∧
    (∀ c : Commit, s.ahs.commit = some c →
      exec .slotWriteDone s = .next { s with ahs := { s.ahs with commit := some { c with stage := .verify } } }) ∧
    (∀ (c : Commit) (o : OpenRecord) (r : Record), s.ahs.commit = some c → c.stage = .verify →
      openFind c.axleId s = some o → slotAt c.slot s.ahs.slots = some (.written r) → c.slot < 544 →
      (∃ t, exec (.commitVerifyDone true) s = .next t ∧ t.ahs.commit = none ∧
        t.ahs.lastCommit = .committed c.axleId c.bads ∧ slotAt c.slot t.ahs.slots = some (.valid r) ∧
        indexFind c.axleId t.ahs.index =
          (indexFind c.axleId s.ahs.index).map (fun e => { e with slot := some c.slot }) ∧
        (∀ e n, indexFind c.axleId s.ahs.index = some e → e.slot = some n → n ≠ c.slot →
          slotAt n t.ahs.slots = none) ∧
        (∀ k, k ≠ c.slot → (∀ e, indexFind c.axleId s.ahs.index = some e → e.slot ≠ some k) →
          slotAt k t.ahs.slots = slotAt k s.ahs.slots) ∧
        (o.changed = false → openFind c.axleId t = some { o with state := .clean } ∧ t.ahs.queue = s.ahs.queue) ∧
        (o.changed = true →
          openFind c.axleId t = some { o with state := .dirty, changed := false } ∧ c.axleId ∈ t.ahs.queue)) ∧
      (∀ n, c.retry = false → lowestFree (putSlot c.slot (some .bad) s.ahs.slots) = some n →
        ∃ t, exec (.commitVerifyDone false) s = .next t ∧
          t.ahs.commit = some ⟨c.axleId, n, .write, true, c.bads + 1⟩ ∧ slotAt c.slot t.ahs.slots = some .bad ∧
          slotAt n t.ahs.slots = some (.written o.record) ∧ t.ahs.index = s.ahs.index ∧ t.ahs.queue = s.ahs.queue) ∧
      (c.retry = true ∨ (∀ k, k < 544 → slotAt k s.ahs.slots ≠ none) →
        ∃ t, exec (.commitVerifyDone false) s = .next t ∧ t.ahs.commit = none ∧
          t.ahs.lastCommit = .failed c.axleId (c.bads + 1) ∧ slotAt c.slot t.ahs.slots = some .bad ∧
          openFind c.axleId t = some { o with state := .dirty, changed := false } ∧
          (∀ k, k ≠ c.slot → slotAt k t.ahs.slots = slotAt k s.ahs.slots) ∧
          t.ahs.index = s.ahs.index ∧ t.ahs.queue = s.ahs.queue))

/-- A record whose slot has been read joins the cache CLEAN; it becomes the seated record where a seating waits for it, with
its wheel type, bogie and position in the seat record (R4, R148), and takes the mark where a sibling mark waits for it:
a MARKED entry, its commit queued, and the plan READY after the last mark (R112, R158). A mark whose record is retired
while its opening waits is skipped when its place comes, no record being closed for it. The start-up scan frees every
WRITTEN slot, makes a VALID slot of a bad check BAD, counted as a loss, and finds the index from the rest (R165). -/
def Obligations.RecordsAreFound : Prop :=
  ∀ (s : State), settled s = true →
    (∀ (o : Opening) (e : IndexEntry) (n : Nat) (r : Record), s.ahs.opening = some o → o.placed = true →
      isOpen o.axleId s = false → indexFind o.axleId s.ahs.index = some e → e.slot = some n →
      slotAt n s.ahs.slots = some (.valid r) → r.axleId = o.axleId →
      (o.seating = true →
        exec .recordOpenComplete s = .next (noted s { s with
          pil := { s.pil with identity := s.pil.identity.map fun i =>
            { i with wheelType := r.wheelType, bogieId := r.bogieId, position := r.position } }
          ahs := { s.ahs with
            opening := none, link := .opened o.axleId, cache := s.ahs.cache ++ [⟨r, .clean, false⟩] } })) ∧
      (∀ (m : Mark) (f : PlanFigures) (c : PlanCut), o.seating = false → s.tpe.marks = [m] → m.axleId = o.axleId →
        s.tpe.computed = some (f, c) → r.state = .inService →
        ∃ t o', exec .recordOpenComplete s = .next t ∧ openFind o.axleId t = some o' ∧
          o'.record = appendEntry (.marked m.limit m.source) s.pil.stamp r ∧
          o'.record.state = .turnDue m.limit m.source ∧ o.axleId ∈ t.ahs.queue ∧
          t.tpe.plan = ⟨.ready, none, some f, some c⟩ ∧ t.tpe.work = .idle ∧ t.tpe.lastPlan = .ready ∧
          t.ahs.opening = none ∧ t.ahs.slots = s.ahs.slots)) ∧
    (∀ (c : Commit) (o : OpenRecord) (m : Mark) (f : PlanFigures) (k : PlanCut), s.ahs.commit = some c →
      c.stage = .verify → openFind c.axleId s = some o → o.changed = false → seatedRecord s ≠ some c.axleId →
      s.ahs.opening = some ⟨m.axleId, false, none, false⟩ → indexFind m.axleId s.ahs.index = none →
      s.tpe.marks = [m] → s.tpe.computed = some (f, k) →
      ∃ t, exec (.commitVerifyDone true) s = .next t ∧ t.ahs.opening = none ∧ t.tpe.marks = [] ∧
        t.tpe.plan = ⟨.ready, none, some f, some k⟩ ∧ t.tpe.work = .idle ∧
        t.ahs.cache.length = s.ahs.cache.length ∧
        openFind c.axleId t = some { o with state := .clean } ∧ t.ahs.queue = s.ahs.queue) ∧
    (∀ bads : List Nat, s.ahs.store = .loading → slotLaw s = true →
      ∃ t, exec (.startupScanEnd bads) s = .next t ∧ t.ahs.store = .ready ∧
        (∀ n, slotAt n t.ahs.slots =
          match slotAt n s.ahs.slots with
          | some (.written _) => none
          | some (.valid r) => if bads.contains n then some .bad else some (.valid r)
          | some .bad => some .bad
          | none => none) ∧
        (∀ id n, (⟨id, some n⟩ : IndexEntry) ∈ t.ahs.index ↔
          ∃ r, slotAt n t.ahs.slots = some (.valid r) ∧ r.axleId = id) ∧
        t.ahs.scanLosses = (s.ahs.slots.filter fun p =>
          bads.contains p.1 && (match p.2 with | .valid _ => true | _ => false)).length ∧
        t.pil = s.pil ∧ t.blu = s.blu ∧ t.pmu = s.pmu ∧ t.tpe = s.tpe ∧ t.tcu = s.tcu ∧ t.sst = s.sst)

/-! ## The settings -/

/-- SET_SETTING with an address and a value that are allowed, where nothing holds the setting, gives it the value that
R182 takes, and no other setting another value; the reply carries the value taken, OK, or CLAMPED where it is not the
value sent (R181, R182). The value taken is, of all those that the setting's range and the orders of its group allow
as the others stand, the one nearest to the value sent (R182). The refusals change nothing. Its owner acts at once. A
changed load threshold finds every zone afresh, and a post that leaves BEARING takes a driven spindle down and pauses
a turning for LOAD (R22). A change of mode acts on the monitor by the table of R61, and one that ends the action of M6
or M7 completes a clamp whose timeout stands (R41). A changed probe offset makes its head STALE (R85). A plan input
discards a READY plan and plan work, even where the value is the present one, and no other setting touches the plan
(R118). A changed edge life makes WORN the USABLE tools that have reached it, but IN_CUT; changed edges per insert
make EXHAUSTED the tools that have used them (R137). A changed f_min or f_max clamps the feeds (R141). The silence
timeout starts or stops its timer (R176). -/
def Obligations.SettingIsSet : Prop :=
  (∀ (tag : Byte) (addr : SettingAddr) (value : Int) (s : State), ready s = true →
    (settingOf addr = none → exec (.setSetting tag addr value) s = .next (repliedCode 0xD0#8 tag .badParameter s)) ∧
    ∀ x : Setting, settingOf addr = some x →
      (badValue x value = true → exec (.setSetting tag addr value) s = .next (repliedCode 0xD0#8 tag .badParameter s)) ∧
      (badValue x value = false →
        (s.sst.store ≠ .idle ∨ (isPlanInput s x && planInUse s) = true →
          exec (.setSetting tag addr value) s = .next (repliedCode 0xD0#8 tag .busy s)) ∧
        (s.sst.store = .idle → (isPlanInput s x && planInUse s) = false →
          (settingHeld s x = true → exec (.setSetting tag addr value) s = .next (repliedCode 0xD0#8 tag .notAvailable s)) ∧
          (settingHeld s x = false → settingsGood s.sst.active = true → workLaw s = true →
            ∃ t v, exec (.setSetting tag addr value) s = .next t ∧ v = takenValue s.sst.active x value ∧
              t.slp.replySlot = some ⟨0xD0#8, tag, .fixed (if v = value then .ok else .clamped) (be 4 v)⟩ ∧
              readSetting t.sst.active x = v ∧
              (∀ y, y ≠ x → readSetting t.sst.active y = readSetting s.sst.active y) ∧
              t.sst = { s.sst with active := t.sst.active } ∧ t.ahs.slots = s.ahs.slots ∧
              let old := readSetting s.sst.active x
              (x = .contact ∨ x = .bearing ∨ x = .overload →
                (∀ post, (t.blu.posts.get post).zone =
                  if v = old then (s.blu.posts.get post).zone
                  else zoneAfresh t.sst.active (s.blu.posts.get post).load) ∧
                ((∃ post, (s.blu.posts.get post).zone = .bearing ∧ (t.blu.posts.get post).zone ≠ .bearing) →
                  spindleRunning s = true →
                  spindleRunning t = false ∧ (turningLive s = true → t.tcu.state = .paused .load))) ∧
              (∀ m, x = .monitorMode m →
                let was := s.sst.active.monitorMode.get m
                let mode := t.sst.active.monitorMode.get m
                let before := s.fmu.monitors.get m
                let after := t.fmu.monitors.get m
                (mode = .off → if was = .off then after = before else
                  after.state = .quiet ∧ after.timer = none ∧ after.recurrence = .none ∧ after.count = before.count) ∧
                (clampsMoving s = false → mode ≠ .off →
                  (was = .off → before.state = .quiet →
                    if ownerCondition s m && !blanked s m then
                      after.state = .deglitch ∧ after.timer = some (s.sst.active.deglitch.get m)
                    else after.state = .quiet) ∧
                  (was ≠ .off → before.state ≠ .warned → after = before) ∧
                  (was = .warnOnly → before.state = .warned →
                    if mode = .warnOnly then after = before
                    else after.state = .deglitch ∧ after.timer = some (s.sst.active.deglitch.get m))) ∧
                (∀ side, m = clampMonitor side → (mode = .off ∨ mode = .warnOnly) → mode ≠ was →
                  (s.blu.clamp.get side).moving = true → (s.blu.clamp.get side).timeout = true →
                  t.blu.clamp.get side = (s.blu.clamp.get side).ended .unconfirmed)) ∧
              (∀ side, x = .probeOffset side →
                (t.pmu.head.get side).calibration =
                  if v = old then (s.pmu.head.get side).calibration else .stale) ∧
              (isPlanInput s x = true →
                if s.tpe.plan.state = .ready ∨ s.tpe.work ≠ .idle then
                  t.tpe.plan = .empty (some .settings) ∧ t.tpe.work = .idle
                else t.tpe = s.tpe) ∧
              (isPlanInput s x = false → s.pmu.phase = .idle → t.tpe = s.tpe) ∧
              (∀ side,
                (x = .edgeLife → (t.tcu.head.get side).tool =
                  if v ≠ old ∧ (s.tcu.head.get side).tool = .usable ∧ (s.tcu.head.get side).position ≠ .inCut ∧
                    v ≤ (s.tcu.head.get side).edgeCount then .worn else (s.tcu.head.get side).tool) ∧
                (x = .edgesPerInsert → (t.tcu.head.get side).tool =
                  if v ≠ old ∧ v ≤ (s.tcu.head.get side).edgesUsed then .exhausted
                  else (s.tcu.head.get side).tool) ∧
                (x = .fMin ∨ x = .fMax → (t.tcu.head.get side).feed =
                  if v = old then (s.tcu.head.get side).feed
                  else (clampInt t.sst.active.fMin t.sst.active.fMax (s.tcu.head.get side).feed).toNat)) ∧
              (x = .silenceTimeout → t.slp.silenceTimer = if v = 0 then none else some v.toNat) ∧
              (x ≠ .silenceTimeout → t.slp.silenceTimer = s.slp.silenceTimer))))) ∧
  (∀ (st : Settings) (addr : SettingAddr) (x : Setting) (value : Int), settingOf addr = some x →
    badValue x value = false → settingsGood st = true →
    let v := takenValue st x value
    settingsGood (writeSetting st v x) = true ∧ readSetting (writeSetting st v x) x = v ∧
    (settingRange x).1 ≤ v ∧ v ≤ (settingRange x).2 ∧
    ∀ z : Int, badValue x z = false → settingsGood (writeSetting st z x) = true → readSetting (writeSetting st z x) x = z →
      (v - value).natAbs ≤ (z - value).natAbs)

/-- The image (R184, R185, R187). STORE_SETTINGS snapshots the settings and the tool counters with the autoload flag;
the programming makes the image bad at once; a read-back that agrees makes the snapshot the image, and one that
disagrees leaves none. LOAD_SETTINGS replaces the active settings by the image's, DEFAULT_SETTINGS by the defaults,
and without an image LOAD_SETTINGS is refused NOT_AVAILABLE; the edge counts, the edges used and the tool states stay
(R139), and the image stays. The owners act on what has changed (R187): changed load thresholds find every zone
afresh, and a post that leaves BEARING takes a driven spindle down and pauses a turning for LOAD (R22, R37); a head
whose offset has changed is STALE (R85); the monitors take their modes by the table of R61; a changed f_min or f_max
clamps the feeds (R141); a changed silence timeout starts or stops its timer (R176); a READY plan and plan work are
discarded (R118). -/
def Obligations.SettingsAreStored : Prop :=
  ∀ (tag : Byte) (s : State), settled s = true →
    let owners := fun (st : Settings) (t : State) =>
      let old := s.sst.active
      (∀ post, (t.blu.posts.get post).zone =
        if old.contact = st.contact ∧ old.bearing = st.bearing ∧ old.overload = st.overload then
          (s.blu.posts.get post).zone
        else zoneAfresh st (s.blu.posts.get post).load) ∧
      ((∃ post, (s.blu.posts.get post).zone = .bearing ∧ (t.blu.posts.get post).zone ≠ .bearing) →
        spindleRunning s = true → spindleRunning t = false ∧ (turningLive s = true → t.tcu.state = .paused .load)) ∧
      (∀ side, (t.pmu.head.get side).calibration =
        if old.probeOffset.get side = st.probeOffset.get side then (s.pmu.head.get side).calibration else .stale) ∧
      (∀ side, (t.tcu.head.get side).feed =
        if old.fMin = st.fMin ∧ old.fMax = st.fMax then (s.tcu.head.get side).feed
        else (clampInt st.fMin st.fMax (s.tcu.head.get side).feed).toNat) ∧
      t.slp.silenceTimer =
        (if old.silenceTimeout = st.silenceTimeout then s.slp.silenceTimer
         else if st.silenceTimeout = 0 then none else some st.silenceTimeout) ∧
      (if s.tpe.plan.state = .ready ∨ s.tpe.work ≠ .idle then
         t.tpe.plan = .empty (some .settings) ∧ t.tpe.work = .idle
       else t.tpe = s.tpe) ∧
      ∀ m,
        let was := old.monitorMode.get m
        let mode := st.monitorMode.get m
        let before := s.fmu.monitors.get m
        let after := t.fmu.monitors.get m
        (mode = .off → was ≠ .off →
          after.state = .quiet ∧ after.timer = none ∧ after.recurrence = .none ∧ after.count = before.count) ∧
        (mode ≠ .off → ownerCondition t m = ownerCondition s m → blanked t m = blanked s m →
          (was = .off → before.state = .quiet →
            if ownerCondition s m && !blanked s m then
              after.state = .deglitch ∧ after.timer = some (st.deglitch.get m)
            else after.state = .quiet) ∧
          (was ≠ .off → before.state ≠ .warned → after = before) ∧
          (was = .warnOnly → before.state = .warned →
            if mode = .warnOnly then after = before
            else after.state = .deglitch ∧ after.timer = some (st.deglitch.get m)))
    (canDispatch s = true → s.sst.store = .idle → ∀ (code : Nat) (set : Bool), autoloadOf code = some set →
      exec (.storeSettings tag code) s =
        .next (noted s (repliedCode 0xD2#8 tag .accepted { s with sst := { s.sst with
          store := .pending, snapshot := some ⟨s.sst.active, s.tcu.head.map Head.tools, set⟩ } }))) ∧
    (s.sst.store = .pending → s.ahs.store = .ready → s.ahs.commit = none →
      exec .settingsProgrammingBegin s =
        .next (noted s { s with sst := { s.sst with store := .writing, image := none } })) ∧
    (s.sst.store = .writing → ∀ agrees : Bool,
      exec (.settingsReadbackDone agrees) s =
        .next (noted s { s with sst := { s.sst with
          store := .idle
          image := if agrees then s.sst.snapshot else none
          snapshot := none
          lastOutcome := if agrees then .stored else .storeFailed } })) ∧
    (canDispatch s = true → s.sst.store = .idle → planInUse s = false →
      (settingsHeld s = true →
        exec (.loadSettings tag) s = .next (repliedCode 0xD3#8 tag .notAvailable s) ∧
        exec (.defaultSettings tag) s = .next (repliedCode 0xD4#8 tag .notAvailable s)) ∧
      (settingsHeld s = false →
        (s.sst.image = none → exec (.loadSettings tag) s = .next (repliedCode 0xD3#8 tag .notAvailable s)) ∧
        (∀ i : Image, s.sst.image = some i → workLaw s = true →
          ∃ t, exec (.loadSettings tag) s = .next t ∧ t.slp.replySlot = some ⟨0xD3#8, tag, .fixed .ok []⟩ ∧
            t.sst = { s.sst with active := i.settings, lastOutcome := .loaded } ∧ owners i.settings t ∧
            t.pil.bridge = s.pil.bridge ∧ t.ahs.slots = s.ahs.slots ∧
            ∀ side, (t.tcu.head.get side).tools = (s.tcu.head.get side).tools) ∧
        (workLaw s = true → ∃ t, exec (.defaultSettings tag) s = .next t ∧ t.slp.replySlot = some ⟨0xD4#8, tag, .fixed .ok []⟩ ∧
          t.sst = { s.sst with active := .defaults, lastOutcome := .defaulted } ∧ owners .defaults t ∧
          t.pil.bridge = s.pil.bridge ∧ t.ahs.slots = s.ahs.slots ∧
          ∀ side, (t.tcu.head.get side).tools = (s.tcu.head.get side).tools)))

/-! ## The supervisor link -/

/-- R178: the silence flag is cleared by a good frame, which leaves the silence hold; RESUME_LINK clears the hold, is answered
OK, and changes nothing else; any reset clears both. -/
def Obligations.SilenceHoldIsCleared : Prop :=
  (∀ (f : Frame) (s : State), ∃ t, exec (.goodFrame f) s = .next t ∧ t.slp.silenceFlag = false ∧
    t.slp.silenceHold = s.slp.silenceHold) ∧
  (∀ (tag : Byte) (s : State), ready s = true →
    exec (.resumeLink tag) s =
      .next (noted s (repliedCode 0xC9#8 tag .ok { s with slp := { s.slp with silenceHold := false } }))) ∧
  (∀ (lines : FieldLines) (s : State),
    (∃ t, exec (.powerOnReset lines) s = .next t ∧ t.slp.silenceFlag = false ∧ t.slp.silenceHold = false) ∧
    (∃ t, exec (.pinReset lines) s = .next t ∧ t.slp.silenceFlag = false ∧ t.slp.silenceHold = false) ∧
    (resetReady s = true →
      ∃ t, exec (.linkResetEffect lines) s = .next t ∧ t.slp.silenceFlag = false ∧ t.slp.silenceHold = false))

/-- The silence timer's expiry sets the silence flag. In REPORT mode nothing else changes. In HOLD mode the silence hold is
set, a moving lift comes to rest, sweeps and reference sweeps end, and a turning in RUNUP or CUTTING is PAUSED(SILENCE)
with the spindle's drive off (R36, R92, R133, R177). -/
def Obligations.SilenceExpires : Prop :=
  ∀ (s : State), s.slp.silenceTimer.isSome = true →
    (s.sst.active.silenceMode = .report → settled s = true →
      exec .silenceTimerExpiry s =
        .next (noted s { s with slp := { s.slp with silenceTimer := none, silenceFlag := true } })) ∧
    (s.sst.active.silenceMode = .hold →
      ∃ t, exec .silenceTimerExpiry s = .next t ∧
        t.slp.silenceFlag = true ∧ t.slp.silenceHold = true ∧ t.slp.silenceTimer = none ∧
        liftMoving t = false ∧ (liftMoving s = true → t.blu.lastLift = .silence) ∧
        sweepRunning t = false ∧ anyReference t = false ∧
        (sweepRunning s = true → t.pmu.lastSweep = .failed .silence) ∧
        (s.tcu.state = .runup ∨ s.tcu.state = .cutting → t.tcu.state = .paused .silence ∧ spindleRunning t = false) ∧
        t.pil.bridge = s.pil.bridge ∧ t.blu.clamp = s.blu.clamp ∧ t.sst = s.sst ∧ t.ahs.slots = s.ahs.slots)

/-- The receiver and the receive queue (R168 to R170, R176). A good frame joins a queue of fewer than four frames and is
discarded by a full one; it restarts the silence timer and clears the silence flag. HUNTING, only SYNC begins a frame;
in a frame a byte is kept with the gap timer running, a length above 248 or a frame whose CRC differs is discarded, and
the last byte of a good frame hands it on. A line error, and the gap timer's expiry, discard what there is of a frame.
That GOOD_FRAME, given while the receiver is in a frame, leaves that frame and its gap timer is the model's choice (log
entry 61). -/
def Obligations.FramesAreReceived : Prop :=
  ∀ (s : State), settled s = true →
    let accepted := fun f u => noted s { u with slp := { u.slp with
      queue := if s.slp.queue.length < 4 then s.slp.queue ++ [f] else s.slp.queue
      silenceFlag := false
      silenceTimer := if s.sst.active.silenceTimeout = 0 then none else some s.sst.active.silenceTimeout } }
    let hunting : State := { s with slp := { s.slp with receiver := .hunting, gapTimer := none } }
    let inside := fun bytes => ({ s with slp := { s.slp with receiver := .inFrame bytes, gapTimer := some 5 } } : State)
    (∀ f, exec (.goodFrame f) s = .next (accepted f s)) ∧
    (s.slp.receiver = .hunting →
      exec .lineError s = .next s ∧
      ∀ value, exec (.byteReceived value) s = .next (if value = 0xA5#8 then inside [] else s)) ∧
    (∀ bytes, s.slp.receiver = .inFrame bytes →
      exec .lineError s = .next hunting ∧
      (s.slp.gapTimer.isSome = true → exec .gapTimerExpiry s = .next hunting) ∧
      ∀ value : Byte,
        let now := bytes ++ [value]
        let len := (now.getD 0 0#8).toNat
        (248 < len → exec (.byteReceived value) s = .next hunting) ∧
        (len ≤ 248 → now.length < len + 5 → exec (.byteReceived value) s = .next (inside now)) ∧
        (len ≤ 248 → len + 5 ≤ now.length → frameOf now = none → exec (.byteReceived value) s = .next hunting) ∧
        (∀ f, len ≤ 248 → len + 5 ≤ now.length → frameOf now = some f →
          exec (.byteReceived value) s = .next (accepted f hunting)))

/-- The dispatch of the frame at the front of the receive queue is the request it carries, as a command of its own, on the
part without that frame; a frame that is no request is answered with its code. With a reply in the reply slot, with
reset pending, or with an empty queue nothing is dispatched (R171, R172). -/
def Obligations.FrontFrameIsDispatched : Prop :=
  ∀ (s : State), settled s = true →
    (canDispatch s = false ∨ s.slp.queue = [] → exec .dispatch s = .next s) ∧
    ∀ (f : Frame) (rest : List Frame), canDispatch s = true → s.slp.queue = f :: rest →
      (∀ i : Instr, Decode.frame f = .ok i →
        exec .dispatch s = exec i { s with slp := { s.slp with queue := rest } }) ∧
      (∀ code : Code, Decode.frame f = .error code →
        exec .dispatch s = .next (repliedCode (if f.kind.toNat < 0x7F then f.kind + 0x80#8 else 0xFF#8) f.tag code
          { s with slp := { s.slp with queue := rest } }))

/-- The transmitter (R172 to R174). An IDLE transmitter begins the reply in the slot, whose late fields are taken then, or a
due report. When a frame ends and a reply and a due report both wait, the other kind of frame follows; one that waits
alone follows; otherwise the transmitter is IDLE. -/
def Obligations.FramesAreSent : Prop :=
  ∀ (s : State), settled s = true →
    let sendReply := fun (l : LastFrame) r => ({ s with slp := { s.slp with
      replySlot := none, transmitter := .sendingReply (replyFrame s r), lastFrame := l } } : State)
    let sendReport := fun (l : LastFrame) => ({ s with slp := { s.slp with
      reportDue := false, transmitter := .sendingReport (reportFrame s), lastFrame := l } } : State)
    let idle := fun (l : LastFrame) => ({ s with slp := { s.slp with transmitter := .idle, lastFrame := l } } : State)
    (∀ r, s.slp.transmitter = .idle → s.slp.replySlot = some r →
      exec .sendingReply s = .next (sendReply s.slp.lastFrame r)) ∧
    (s.slp.transmitter = .idle → s.slp.reportDue = true →
      exec .sendingReport s = .next (sendReport s.slp.lastFrame)) ∧
    (∀ bytes, s.slp.transmitter = .sendingReply bytes →
      (s.slp.reportDue = true → exec .frameSent s = .next (sendReport .reply)) ∧
      (∀ r, s.slp.reportDue = false → s.slp.replySlot = some r → exec .frameSent s = .next (sendReply .reply r)) ∧
      (s.slp.reportDue = false → s.slp.replySlot = none → exec .frameSent s = .next (idle .reply))) ∧
    (∀ bytes, s.slp.transmitter = .sendingReport bytes →
      (∀ r, s.slp.replySlot = some r → exec .frameSent s = .next (sendReply .report r)) ∧
      (s.slp.replySlot = none → s.slp.reportDue = true → exec .frameSent s = .next (sendReport .report)) ∧
      (s.slp.replySlot = none → s.slp.reportDue = false → exec .frameSent s = .next (idle .report)))

/-- Every request, with every field at every value its bytes can hold, is read back from the frame that carries it; every
frame is read back from its bytes; and the bytes of a frame of up to 248 payload bytes, arriving one by one at a
settled part whose receiver is HUNTING, hand on that frame (9.1, R169, R171, R190). -/
def Obligations.RequestsAreCarried : Prop :=
  (∀ (i : Instr) (f : Frame), Decode.toFrame i = some f → i.wf = true → Decode.frame f = .ok i) ∧
  (∀ f : Frame, frameOf ((frameBytes f.kind f.tag f.payload).drop 1) = some f) ∧
  (∀ (f : Frame) (s : State), settled s = true → f.payload.length ≤ 248 → s.slp.receiver = .hunting →
    s.slp.gapTimer = none →
    (frameBytes f.kind f.tag f.payload).foldl
        (fun o b => match o with | .next u => exec (.byteReceived b) u | .fault e => .fault e | .refused e => .refused e)
        (.next s) = exec (.goodFrame f) s)

/-! ## The resets -/

/-- RESET is refused BUSY while anything moves or is stored or scanned, and is otherwise taken: reset pending is set,
the commit of every DIRTY record is queued, and a turning that is PAUSED hands its TURNED entry, INTERRUPTED, whose
record is queued (R136, R166, R179). It takes effect once the commits and the plan work have drained and its reply has
been sent: the link is as after any reset with its rate kept, the store keeps its slots and the index of committed
records, the settings, the image and the tools stay, and the calibrations too, but that a head which an observation in
progress has seen addressed is STALE (R80, R85, R166, R180). That a notice goes only to the heads seen addressed, also
where the observation began unseen, is the model's reading (log entry 38). A power-on or a pin reset takes the
settings and tools of an image to be loaded, or the defaults and worn tools, the rate of the strap, and the slots for
a scan (R165, R168, R186, R188). After each, every block stands as its field lines say. -/
def Obligations.PartIsReset : Prop :=
  ∀ (s : State),
    (∀ tag : Byte, ready s = true →
      (resetRefused s = true → exec (.reset tag) s = .next (repliedCode 0xCA#8 tag .busy s)) ∧
      (resetRefused s = false → workLaw s = true →
        ∃ t, exec (.reset tag) s = .next t ∧ t.slp.replySlot = some ⟨0xCA#8, tag, .fixed .ok []⟩ ∧
          t.slp.resetPending = true ∧ t.pil = s.pil ∧ t.blu = s.blu ∧ t.pmu = s.pmu ∧ t.tcu = s.tcu ∧ t.sst = s.sst ∧
          t.ahs.slots = s.ahs.slots ∧
          (∀ o ∈ s.ahs.cache, o.state = .dirty → openFind o.record.axleId s = some o → o.record.axleId ∈ t.ahs.queue) ∧
          (∀ id o, openFind id s = some o →
            if turningPaused s = true ∧ seatedRecord s = some id then
              ∃ o', openFind id t = some o' ∧
                o'.record = appendEntry (turnedEntry true s) s.pil.stamp o.record ∧
                (o.state ≠ .committing → o'.state = .dirty ∧ id ∈ t.ahs.queue) ∧
                (o.state = .committing → o'.state = .committing ∧ o'.changed = true)
            else openFind id t = some o ∨ s.ahs.opening.isSome = true))) ∧
    (∀ lines : FieldLines, resetReady s = false → settled s = true → exec (.linkResetEffect lines) s = .next s) ∧
    (∀ lines : FieldLines,
      let fieldsStand := fun t : State =>
        t.pil.seatState = (if lines.presence then .present else .vacant) ∧ t.pil.identity = none ∧
        t.pil.tagState = .none ∧ t.pil.pitStop = lines.pitStop ∧ t.pil.owners = ⟨.link, .link, .link, .link⟩ ∧
        t.pil.stamp = 0 ∧
        (∀ side, (t.pil.bridge.get side).state =
          match (lines.bridges.get side).inMade, (lines.bridges.get side).outMade with
          | true, false => .inLine
          | false, true => .out
          | _, _ => .halted) ∧
        (∀ side, (t.blu.clamp.get side).state =
          match (lines.clamps.get side).openMade, (lines.clamps.get side).closedMade with
          | true, false => .opened
          | false, true => .closed
          | _, _ => .halted) ∧
        t.blu.lift = (if lines.positions.all (· ≤ 500) then .lowered else .holding) ∧
        (∀ m, (t.fmu.monitors.get m).count = 0 ∧
          ((t.fmu.monitors.get m).state = .quiet ∨ (t.fmu.monitors.get m).state = .deglitch)) ∧
        t.gbc = ⟨[], .both [], if lines.busHigh then .idle else .observing, none, false, none,
          if lines.busHigh then none else some ⟨false, .both false, false⟩, !lines.busHigh, none, []⟩ ∧
        t.pmu.phase = .idle ∧ t.pmu.record = .both .none ∧ t.tpe = Tpe.reset ∧ t.tcu.state = .idle ∧
        t.tcu.spindle = (if (lines.rollers.l + lines.rollers.r) / 2 = 0 then .stopped else .rundown) ∧
        (∀ side, (t.tcu.head.get side).owner = .none ∧
          (t.tcu.head.get side).position = (if lines.parked.get side then .parked else .halted)) ∧
        t.ahs.cache = [] ∧ t.ahs.queue = [] ∧ t.ahs.commit = none ∧ t.ahs.link = .none ∧ t.ahs.lastCommit = .none ∧
        t.slp = ⟨t.slp.rate, .hunting, none, [], none, .idle, .report, true, none, false, false, false⟩
      (resetReady s = true →
        ∃ t, exec (.linkResetEffect lines) s = .next t ∧ fieldsStand t ∧ t.slp.rate = s.slp.rate ∧
          t.ahs.slots = s.ahs.slots ∧ t.ahs.index = (s.ahs.index.filter fun e => e.slot.isSome) ∧
          t.ahs.store = s.ahs.store ∧ t.sst.active = s.sst.active ∧ t.sst.image = s.sst.image ∧
          (∀ side, (t.pmu.head.get side).calibration =
            match s.gbc.observation with
            | some o => if o.addressed.get side then .stale else (s.pmu.head.get side).calibration
            | none => (s.pmu.head.get side).calibration) ∧
          ∀ side, (t.tcu.head.get side).tools = (s.tcu.head.get side).tools) ∧
      ∀ i, i = .powerOnReset lines ∨ i = .pinReset lines →
        ∃ t, exec i s = .next t ∧ fieldsStand t ∧
          t.slp.rate = (if lines.rateStrap then .baud460800 else .baud115200) ∧
          t.ahs.slots = s.ahs.slots ∧ t.ahs.index = [] ∧ t.ahs.store = .loading ∧ t.sst.image = s.sst.image ∧
          (∀ side, (t.pmu.head.get side).calibration = .stale) ∧
          (∀ x : Image, s.sst.image = some x → (∀ side, (t.tcu.head.get side).tools = x.tools.get side) ∧
            t.sst.active = if x.autoload then x.settings else .defaults) ∧
          (s.sst.image = none → t.sst.active = .defaults ∧
            ∀ side, (t.tcu.head.get side).tools = ⟨0, 0, .worn⟩))
end

