-- ==== Sys2Proof/Laws/Extraction.lean ====
section
/-! SUPPORT. The searches of the profile extraction (R94, R95): each finds the figure that the rule describes, and no
other. -/

namespace Sys2Proof.Machine

/-- The product with a positive number of one of two numbers apart. -/
theorem mul_apart {n q k : Int} (hn : 0 < n) : q = k ∨ n * k + n ≤ n * q ∨ n * q + n ≤ n * k := by
  rcases lt_trichotomy q k with h | h | h
  · exact .inr (.inr (by nlinarith))
  · exact .inl h
  · exact .inr (.inl (by nlinarith))

/-- Division rounded half away is the one quotient that rounds half away. -/
theorem divHalfAway_iff {a b q : Int} (hb : 0 < b) : RoundsHalfAway q a b ↔ q = divHalfAway a b := by
  obtain ⟨n, rfl⟩ := Int.eq_ofNat_of_zero_le hb.le
  have hn : 0 < n := by exact_mod_cast hb
  have hd := Nat.div_add_mod (2 * a.natAbs + n) (2 * n)
  have hm := Nat.mod_lt (2 * a.natAbs + n) (show 0 < 2 * n by omega)
  have hk : divHalfAway a n =
      if a < 0 then -(((2 * a.natAbs + n) / (2 * n) : Nat) : Int) else (((2 * a.natAbs + n) / (2 * n) : Nat) : Int) := by
    unfold divHalfAway
    have h0 : ¬ ((n : Int) < 0) := by omega
    by_cases ha : a < 0 <;> simp [ha, h0]
  rw [hk]
  generalize (2 * a.natAbs + n) / (2 * n) = k at *
  generalize (2 * a.natAbs + n) % (2 * n) = m at *
  have hd' : 2 * ((n : Int) * k) + m = 2 * a.natAbs + n := by
    have : (2 * (n : Int)) * k + m = 2 * a.natAbs + n := by exact_mod_cast hd
    linarith [mul_assoc 2 (n : Int) k]
  have hy : 0 ≤ (n : Int) * k := by positivity
  have h0 : (n : Int) * q = 0 ∨ (n : Int) ≤ n * q ∨ n * q + n ≤ (0 : Int) := by
    simpa [hn.ne'] using mul_apart (q := q) (k := 0) hb
  unfold RoundsHalfAway
  split
  · have hx := mul_apart (q := q) (k := -(k : Int)) hb
    rw [mul_neg] at hx
    constructor
    · rintro ⟨h1, h2⟩
      rcases hx with h | h | h
      · exact h
      · omega
      · omega
    · rintro rfl
      rw [mul_neg]
      omega
  · have hx := mul_apart (q := q) (k := (k : Int)) hb
    constructor
    · rintro ⟨h1, h2⟩
      rcases hx with h | h | h
      · exact h
      · omega
      · omega
    · rintro rfl
      omega

/-- The samples of a profile stand in rising z. -/
abbrev Rises (list : List (Int × Int)) : Prop := list.Pairwise fun a b => a.1 < b.1

/-- The search of R94 finds the taping line radius, and no other. -/
theorem tapingRadius_iff {zTl : Int} : ∀ {list : List (Int × Int)}, Rises list → ∀ r,
    tapingRadius zTl list = some r ↔ IsTapingRadius zTl list r
  | [], _, r => by simp [tapingRadius, IsTapingRadius]
  | [(z, ra)], _, r => by
    simp only [tapingRadius, IsTapingRadius, List.mem_singleton, Prod.mk.injEq]
    constructor
    · intro h
      split at h
      · cases h; exact .inl ⟨by omega, rfl⟩
      · cases h
    · rintro (⟨h, rfl⟩ | ⟨pre, a, b, post, q, h, _⟩)
      · simp [h]
      · have := congrArg List.length h
        simp at this
        omega
  | (za, ra) :: (zb, rb) :: rest, hr, r => by
    have hr' : Rises ((zb, rb) :: rest) := hr.tail
    have hab : za < zb := by
      have := List.rel_of_pairwise_cons hr (a' := (zb, rb)) (by simp)
      exact this
    have hlow : ∀ x ∈ (zb, rb) :: rest, za < x.1 := fun x hx => List.rel_of_pairwise_cons hr hx
    have hlow' : ∀ x ∈ rest, zb < x.1 := fun x hx => List.rel_of_pairwise_cons hr' hx
    unfold tapingRadius
    split
    · rename_i h
      subst h
      constructor
      · intro h; cases h; exact .inl (by simp)
      · rintro (h | ⟨pre, a, b, post, q, h, h1, h2, _⟩)
        · rcases List.mem_cons.1 h with h | h
          · cases h; rfl
          · have := hlow _ h; simp at this
        · have ha : a ∈ (za, ra) :: (zb, rb) :: rest := h ▸ by simp
          rcases List.mem_cons.1 ha with rfl | ha
          · simp at h1
          · have := hlow _ ha; omega
    · split
      · rename_i hne h
        constructor
        · intro h'; cases h'
          exact .inr ⟨[], (za, ra), (zb, rb), rest, _, rfl, h.1, h.2, (divHalfAway_iff (by simp; omega)).2 rfl, rfl⟩
        · rintro (h' | ⟨pre, a, b, post, q, h', h1, h2, hq, rfl⟩)
          · exfalso
            rcases List.mem_cons.1 h' with h' | h'
            · cases h'; omega
            · rcases List.mem_cons.1 h' with h' | h'
              · cases h'; omega
              · have := hlow' _ h'; simp at this; omega
          · cases pre with
            | nil =>
              simp only [List.nil_append, List.cons.injEq] at h'
              obtain ⟨rfl, rfl, rfl⟩ := h'
              rw [(divHalfAway_iff (by simp; omega)).1 hq]
            | cons x pre =>
              simp only [List.cons_append, List.cons.injEq] at h'
              have ha : a ∈ (zb, rb) :: rest := h'.2 ▸ by simp
              rcases List.mem_cons.1 ha with rfl | ha
              · simp at h1; omega
              · have := hlow' _ ha; omega
      · rename_i hne h
        rw [tapingRadius_iff hr' r]
        constructor
        · rintro (h' | ⟨pre, a, b, post, q, h', h''⟩)
          · exact .inl (List.mem_cons_of_mem _ h')
          · exact .inr ⟨(za, ra) :: pre, a, b, post, q, by rw [h']; rfl, h''⟩
        · rintro (h' | ⟨pre, a, b, post, q, h', h1, h2, h3⟩)
          · rcases List.mem_cons.1 h' with h' | h'
            · cases h'; omega
            · exact .inl h'
          · cases pre with
            | nil =>
              simp only [List.nil_append, List.cons.injEq] at h'
              obtain ⟨rfl, rfl, rfl⟩ := h'
              exact absurd ⟨h1, h2⟩ h
            | cons x pre =>
              simp only [List.cons_append, List.cons.injEq] at h'
              exact .inr ⟨pre, a, b, post, q, h'.2, h1, h2, h3⟩

/-- The search of R95 finds the flange tip. -/
theorem flangeTip_spec : ∀ {list : List (Int × Int)} {tip}, Rises list → flangeTip list = some tip → IsFlangeTip list tip
  | [], _, _, h => by simp [flangeTip] at h
  | x :: rest, tip, hr, h => by
    have hlow : ∀ y ∈ rest, x.1 < y.1 := fun y hy => List.rel_of_pairwise_cons hr hy
    unfold flangeTip at h
    cases hf : flangeTip rest with
    | none =>
      rw [hf] at h
      cases h
      cases rest with
      | nil => exact ⟨by simp, by simp⟩
      | cons y rest =>
        exfalso
        unfold flangeTip at hf
        split at hf
        · cases hf
        · split at hf <;> cases hf
    | some best =>
      obtain ⟨hb, hall⟩ := flangeTip_spec hr.tail hf
      simp only [hf] at h
      split at h
      · rename_i hle
        cases h
        refine ⟨by simp, fun y hy => ?_⟩
        rcases List.mem_cons.1 hy with rfl | hy
        · simp
        · have h1 := (hall y hy).1
          have h2 := hlow y hy
          exact ⟨by omega, fun _ => by omega⟩
      · rename_i hle
        cases h
        refine ⟨List.mem_cons_of_mem _ hb, fun y hy => ?_⟩
        rcases List.mem_cons.1 hy with rfl | hy
        · exact ⟨by omega, fun _ => by omega⟩
        · exact hall y hy

/-- A list has at most one flange tip. -/
theorem IsFlangeTip.unique {list : List (Int × Int)} {a b : Int × Int} (ha : IsFlangeTip list a) (hb : IsFlangeTip list b) :
    a = b := by
  have h1 := ha.2 b hb.1
  have h2 := hb.2 a ha.1
  have h3 : a.2 = b.2 := by omega
  exact Prod.ext (by have := h1.2 h3.symm; have := h2.2 h3; omega) h3

/-- The search of R95 from the tip on finds the crossing of a level, and no other. -/
theorem crossing_iff {level zTip zTl : Int} : ∀ {list : List (Int × Int)}, Rises list → (∀ x ∈ list, zTip ≤ x.1) → ∀ z,
    crossing level zTl list = some z ↔ IsCrossing level zTip zTl list z
  | [], _, _, z => by simp [crossing, IsCrossing]
  | [x], _, _, z => by
    simp only [crossing, IsCrossing, reduceCtorEq, false_iff]
    rintro ⟨pre, a, b, post, q, h, _⟩
    have := congrArg List.length h
    simp at this
    omega
  | (za, ra) :: (zb, rb) :: rest, hr, hz, z => by
    have hr' : Rises ((zb, rb) :: rest) := hr.tail
    have hz' : ∀ x ∈ (zb, rb) :: rest, zTip ≤ x.1 := fun x hx => hz x (List.mem_cons_of_mem _ hx)
    have hza : zTip ≤ za := hz (za, ra) (by simp)
    have hlow : ∀ x ∈ (zb, rb) :: rest, za < x.1 := fun x hx => List.rel_of_pairwise_cons hr hx
    have hlow' : ∀ x ∈ rest, zb < x.1 := fun x hx => List.rel_of_pairwise_cons hr' hx
    have hab : za < zb := hlow (zb, rb) (by simp)
    unfold crossing
    split
    · rename_i hb
      simp only [reduceCtorEq, false_iff]
      rintro ⟨pre, a, b, post, q, h, _, h2, _⟩
      have hm : b ∈ (zb, rb) :: rest := by
        cases pre with
        | nil =>
          simp only [List.nil_append, List.cons.injEq] at h
          exact h.2.1 ▸ by simp
        | cons x pre =>
          simp only [List.cons_append, List.cons.injEq] at h
          exact h.2 ▸ by simp
      rcases List.mem_cons.1 hm with rfl | hm
      · simp at h2; omega
      · have := hlow' _ hm; omega
    · split
      · rename_i hb hf
        constructor
        · intro h; cases h
          refine ⟨[], (za, ra), (zb, rb), rest, _, rfl, hza, by simp; omega, hf, ?_,
            (divHalfAway_iff (by simp; omega)).2 rfl, rfl⟩
          intro pre' x y post' h _ _
          have hx : x ∈ (za, ra) :: (zb, rb) :: rest := h ▸ by simp
          rcases List.mem_cons.1 hx with rfl | hx
          · simp
          · have := hlow _ hx; simp; omega
        · rintro ⟨pre, a, b, post, q, h, h1, h2, h3, h4, hq, rfl⟩
          have h5 := h4 [] (za, ra) (zb, rb) rest rfl hza hf
          cases pre with
          | nil =>
            simp only [List.nil_append, List.cons.injEq] at h
            obtain ⟨rfl, rfl, rfl⟩ := h
            rw [(divHalfAway_iff (by simp; omega)).1 hq]
          | cons x pre =>
            simp only [List.cons_append, List.cons.injEq] at h
            have ha : a ∈ (zb, rb) :: rest := h.2 ▸ by simp
            have := hlow _ ha
            simp at h5
            omega
      · rename_i hb hf
        rw [crossing_iff hr' hz' z]
        constructor
        · rintro ⟨pre, a, b, post, q, h, h1, h2, h3, h4, h5⟩
          refine ⟨(za, ra) :: pre, a, b, post, q, by rw [h]; rfl, h1, h2, h3, ?_, h5⟩
          intro pre' x y post' h' hx hf'
          cases pre' with
          | nil =>
            simp only [List.nil_append, List.cons.injEq] at h'
            obtain ⟨rfl, rfl, rfl⟩ := h'
            exact absurd hf' hf
          | cons w pre' =>
            simp only [List.cons_append, List.cons.injEq] at h'
            exact h4 pre' x y post' h'.2 hx hf'
        · rintro ⟨pre, a, b, post, q, h, h1, h2, h3, h4, h5⟩
          cases pre with
          | nil =>
            simp only [List.nil_append, List.cons.injEq] at h
            obtain ⟨rfl, rfl, rfl⟩ := h
            exact absurd h3 hf
          | cons w pre =>
            simp only [List.cons_append, List.cons.injEq] at h
            refine ⟨pre, a, b, post, q, h.2, h1, h2, h3, ?_, h5⟩
            intro pre' x y post' h' hx hf'
            exact h4 ((za, ra) :: pre') x y post' (by rw [h']; rfl) hx hf'

/-- Dropping the samples before the tip drops no pair from the tip on. -/
theorem IsCrossing.dropWhile {level zTip zTl z : Int} : ∀ {list : List (Int × Int)}, Rises list →
    (IsCrossing level zTip zTl (list.dropWhile fun x => x.1 < zTip) z ↔ IsCrossing level zTip zTl list z)
  | [], _ => Iff.rfl
  | x :: rest, hr => by
    simp only [List.dropWhile]
    split
    · rename_i hx
      simp only [decide_eq_true_eq] at hx
      rw [IsCrossing.dropWhile (list := rest) hr.tail]
      constructor
      · rintro ⟨pre, a, b, post, q, h, h1, h2, h3, h4, h5⟩
        refine ⟨x :: pre, a, b, post, q, by rw [h]; rfl, h1, h2, h3, ?_, h5⟩
        intro pre' u v post' h' hu hf
        cases pre' with
        | nil =>
          simp only [List.nil_append, List.cons.injEq] at h'
          obtain ⟨rfl, _⟩ := h'
          omega
        | cons w pre' =>
          simp only [List.cons_append, List.cons.injEq] at h'
          exact h4 pre' u v post' h'.2 hu hf
      · rintro ⟨pre, a, b, post, q, h, h1, h2, h3, h4, h5⟩
        cases pre with
        | nil =>
          simp only [List.nil_append, List.cons.injEq] at h
          obtain ⟨rfl, _⟩ := h
          omega
        | cons w pre =>
          simp only [List.cons_append, List.cons.injEq] at h
          refine ⟨pre, a, b, post, q, h.2, h1, h2, h3, ?_, h5⟩
          intro pre' u v post' h' hu hf
          exact h4 (x :: pre') u v post' (by rw [h']; rfl) hu hf
    · exact Iff.rfl

end Sys2Proof.Machine
end

