-- ==== Sys2Proof/Laws/Gauge.lean ====
section
/-! SUPPORT. The run of a gauge transaction goes through the bytes of R66 in their order, and a recovery through its
clock pulses and its STOP. -/

namespace Sys2Proof.Machine

@[simp] theorem Run.put_phase (r : Run) (e : List LineEvent) : (r.put e).phase = r.phase := rfl
@[simp] theorem Run.put_sent (r : Run) (e : List LineEvent) : (r.put e).sent = r.sent := rfl
@[simp] theorem Run.put_received (r : Run) (e : List LineEvent) : (r.put e).received = r.received := rfl
@[simp] theorem Run.put_result (r : Run) (e : List LineEvent) : (r.put e).result = r.result := rfl
@[simp] theorem Run.put_line (r : Run) (e : List LineEvent) : (r.put e).line = r.line ++ e := rfl

/-- Every transaction that the part places has one of the shapes of R66. -/
theorem placed_shaped (side : Side) (m : ProbeMode) (p : Purpose) (w : Work) (step n : Nat) (hn : 1 ≤ n) (h16 : n ≤ 16) :
    tagTxn.shaped = true ∧ (modeTxn side m p).shaped = true ∧ (scanStartTxn side step).shaped = true ∧
      (ringStartTxn side w).shaped = true ∧ (stateReadTxn side w).shaped = true ∧ (blockReadTxn side n w).shaped = true := by
  refine ⟨rfl, rfl, ?_, rfl, rfl, ?_⟩
  · simp [scanStartTxn, writeTxn, Txn.shaped]
  · have h : (decide (2 ≤ 8) && (decide (1 ≤ 6 * n) && decide (6 * n ≤ 96))) = true := by
      simp only [Bool.and_eq_true, decide_eq_true_eq]
      omega
    exact h

/-- The last byte read is answered NACK, those before it ACK (R71). -/
theorem readLine_append (data : List Byte) (b : Byte) :
    readLine (data ++ [b]) = data.map (fun x => LineEvent.received x true) ++ [.received b false] := by
  induction data with
  | nil => rfl
  | cons x rest ih =>
    cases rest with
    | nil => rfl
    | cons y rest => simpa [readLine] using ih

/-- The write bytes sent so far, with the one under way. -/
theorem sentLine_take_succ {bytes : List Byte} {n : Nat} {b : Byte} (h : bytes[n]? = some b) :
    sentLine (bytes.take (n + 1)) = sentLine (bytes.take n) ++ [.sent b true] := by
  simp [sentLine, List.take_add_one, h]

theorem endsRefused_append (line : List LineEvent) (b : Byte) : endsRefused (line ++ [.sent b false, .stop]) = true := by
  simp [endsRefused]

/-- A run begins in its order (R68). -/
theorem runLaw_begin (t : Txn) : runLaw t ⟨.address, 0, [], none, [.start]⟩ = true := rfl

/-- The first address byte opens the line as R66 has it (R69). -/
theorem runLaw_address {t : Txn} {r : Run} (value : Byte) (ack : Bool) (ht : t.shaped = true) (hp : r.phase = .address)
    (h : runLaw t r = true) : runLaw t (r.step t value ack) = true := by
  obtain ⟨phase, sent, received, result, line⟩ := r
  obtain ⟨q, address, direction, bytes, length, retries, purpose⟩ := t
  subst hp
  simp [runLaw] at h
  obtain ⟨⟨⟨rfl, rfl⟩, rfl⟩, rfl⟩ := h
  cases ack
  · simp [Run.step, Run.put, Run.onLine, Run.sends, Run.close, runLaw, endsRefused]
  · cases direction <;> cases bytes <;>
      simp_all [Txn.shaped, Run.step, Run.put, Run.onLine, Run.sends, Run.addressed, runLaw, firstAddressByte, addressByte,
        sentLine, Txn.opening]
    omega

/-- A write byte, and the repeated START after the last of a READ, stand on the line in their order (R70). -/
theorem runLaw_write {t : Txn} {r : Run} (value : Byte) (ack : Bool) (ht : t.shaped = true) (hp : r.phase = .write)
    (h : runLaw t r = true) : runLaw t (r.step t value ack) = true := by
  obtain ⟨phase, sent, received, result, line⟩ := r
  subst hp
  simp [runLaw] at h
  obtain ⟨⟨⟨rfl, hsent⟩, rfl⟩, rfl⟩ := h
  obtain ⟨b, hb⟩ : ∃ b, t.writeBytes[sent]? = some b := ⟨_, List.getElem?_eq_getElem hsent⟩
  cases ack
  · simp [Run.step, Run.put, Run.onLine, Run.sends, Run.close, runLaw, endsRefused, hb]
  · by_cases hlast : sent + 1 < t.writeBytes.length
    · simp [Run.step, Run.put, Run.onLine, Run.sends, Run.wrote, runLaw, hb, hlast, sentLine_take_succ hb]
    · have hall : t.writeBytes.take (sent + 1) = t.writeBytes := List.take_of_length_le (by omega)
      have hne : t.writeBytes ≠ [] := by rintro he; simp [he] at hsent
      have hline := sentLine_take_succ hb
      rw [hall] at hline
      have hif : ∀ x y : Run, (if sent + 1 < t.writeBytes.length then x else y) = y := fun _ _ => if_neg hlast
      cases hd : t.direction
      · have hread : t.readLength = 0 := by simp [Txn.shaped, hd] at ht; exact ht.2.2
        simp [Run.step, Run.put, Run.onLine, Run.sends, Run.wrote, Run.close, runLaw, Txn.onBus, Txn.opening, readLine,
          hb, hd, hif, hline, hread]
      · simp [Run.step, Run.put, Run.onLine, Run.sends, Run.wrote, Run.close, runLaw, hb, hd, hif, hline, hne]

/-- The second address byte stands on the line behind the repeated START (R69). -/
theorem runLaw_turn {t : Txn} {r : Run} (value : Byte) (ack : Bool) (ht : t.shaped = true) (hp : r.phase = .turn)
    (h : runLaw t r = true) : runLaw t (r.step t value ack) = true := by
  obtain ⟨phase, sent, received, result, line⟩ := r
  obtain ⟨q, address, direction, bytes, length, retries, purpose⟩ := t
  subst hp
  simp [runLaw] at h
  obtain ⟨⟨⟨⟨rfl, rfl⟩, hb⟩, rfl⟩, rfl⟩ := h
  cases ack
  · simp [Run.step, Run.put, Run.onLine, Run.sends, Run.close, runLaw, endsRefused]
  · cases bytes
    · simp at hb
    · simp_all [Txn.shaped, Run.step, Run.put, Run.onLine, Run.sends, runLaw, addressByte, Txn.opening]
      omega

/-- A read byte is acknowledged but for the last (R71). -/
theorem runLaw_read {t : Txn} {r : Run} (value : Byte) (ack : Bool) (hp : r.phase = .read) (h : runLaw t r = true) :
    runLaw t (r.step t value ack) = true := by
  obtain ⟨phase, sent, received, result, line⟩ := r
  subst hp
  simp [runLaw] at h
  obtain ⟨⟨⟨rfl, hd⟩, hlen⟩, rfl⟩ := h
  by_cases hlast : received.length + 1 < t.readLength
  · simp [Run.step, Run.put, Run.onLine, Run.acknowledges, Run.readByte, runLaw, hlast, hd]
  · have heq : received.length + 1 = t.readLength := by omega
    simp [Run.step, Run.put, Run.onLine, Run.acknowledges, Run.readByte, Run.close, runLaw, hlast, heq, Txn.onBus,
      readLine_append]

/-- A byte keeps a run in its order (R69 to R71). -/
theorem runLaw_step {t : Txn} {r : Run} (value : Byte) (ack : Bool) (ht : t.shaped = true) (h : runLaw t r = true) :
    runLaw t (r.step t value ack) = true := by
  cases hp : r.phase
  case address => exact runLaw_address value ack ht hp h
  case write => exact runLaw_write value ack ht hp h
  case turn => exact runLaw_turn value ack ht hp h
  case read => exact runLaw_read value ack hp h
  case closing =>
    obtain ⟨phase, sent, received, result, line⟩ := r
    subst hp
    simpa [Run.step, Run.put, Run.onLine, Run.sends] using h

/-! ## A recovery (R72, R80) -/

@[simp] theorem sendRecovery_gbc (events : List LineEvent) (s : State) :
    (sendRecovery events s).gbc = { s.gbc with recovery := s.gbc.recovery ++ events } := rfl

/-- The wait timer's expiry changes nothing, or begins a recovery in which nothing has been sent (R72). -/
theorem waitExpiry_cases (s : State) :
    waitExpiry s = s ∨ s.gbc.bus = .running ∧ s.gbc.clockHeld = true ∧ (waitExpiry s).gbc.bus = .recovering ∧
      (waitExpiry s).gbc.recovery = [] ∧ (waitExpiry s).gbc.clockHeld = true := by
  unfold waitExpiry
  split
  next h => exact .inr ⟨h.1, h.2.2, rfl, rfl, h.2.2⟩
  next => exact .inl rfl

/-- The release of the clock never changes the bus state. In a recovery the part sends its nine clock pulses at the release
of the clock that was held, and at no other moment (R72). -/
theorem clockRelease_recovery (s : State) :
    (clockRelease s).gbc.bus = s.gbc.bus ∧ (clockRelease s).gbc.clockHeld = false ∧
      (clockRelease s).gbc.recovery =
        if s.gbc.bus = .recovering ∧ s.gbc.clockHeld = true then s.gbc.recovery ++ recoveryPulses else s.gbc.recovery := by
  by_cases h : s.gbc.bus = .recovering ∧ s.gbc.clockHeld = true <;> simp [clockRelease, h]

/-- A transaction, a loss and an observation that begin or end leave what the last recovery has sent. -/
theorem beginOldest_recovery (s : State) : (beginOldest s).gbc.recovery = s.gbc.recovery := by
  unfold beginOldest
  split <;> rfl

@[simp] theorem observe_recovery (o : Observation) (s : State) : (observe o s).gbc.recovery = s.gbc.recovery := rfl
@[simp] theorem dropFront_recovery (s : State) : (dropFront s).gbc.recovery = s.gbc.recovery := rfl

end Sys2Proof.Machine
end

