-- ==== Sys2Proof/Laws/Kept.lean ====
section
/-! SUPPORT. What each shared operation leaves alone. `Kept m s t` says that of the parts of the state only those that `m`
names differ between `s` and `t`; the queue of commands never does. Each operation has one lemma that gives the parts it
may change. -/

namespace Sys2Proof.Machine

/-- Parts of the state: the ten blocks, with the bridges apart from the rest of the interlock, the clamps from the rest of
the lift unit, the spindle from the rest of the turning unit, and the slot array from the rest of the history store. -/
structure Blocks where
  pil : Bool := false
  bridge : Bool := false
  lift : Bool := false
  clamp : Bool := false
  fmu : Bool := false
  gbc : Bool := false
  pmu : Bool := false
  tpe : Bool := false
  tcu : Bool := false
  spindle : Bool := false
  ahs : Bool := false
  slots : Bool := false
  sst : Bool := false
  slp : Bool := false

/-- Only the parts named may differ. -/
structure Kept (m : Blocks) (s t : State) : Prop where
  pil : m.pil = false → { t.pil with bridge := s.pil.bridge } = s.pil
  bridge : m.bridge = false → t.pil.bridge = s.pil.bridge
  lift : m.lift = false → { t.blu with clamp := s.blu.clamp } = s.blu
  clamp : m.clamp = false → t.blu.clamp = s.blu.clamp
  fmu : m.fmu = false → t.fmu = s.fmu
  gbc : m.gbc = false → t.gbc = s.gbc
  pmu : m.pmu = false → t.pmu = s.pmu
  tpe : m.tpe = false → t.tpe = s.tpe
  tcu : m.tcu = false → { t.tcu with spindle := s.tcu.spindle } = s.tcu
  spindle : m.spindle = false → t.tcu.spindle = s.tcu.spindle
  ahs : m.ahs = false → { t.ahs with slots := s.ahs.slots } = s.ahs
  slots : m.slots = false → t.ahs.slots = s.ahs.slots
  sst : m.sst = false → t.sst = s.sst
  slp : m.slp = false → t.slp = s.slp
  pending : t.pending = s.pending

theorem Kept.refl (m : Blocks) (s : State) : Kept m s s := by constructor <;> simp

/-- The whole of a block that is kept in its two parts. -/
theorem Kept.wholePil {m : Blocks} {s t : State} (h : Kept m s t) (h1 : m.pil = false) (h2 : m.bridge = false) :
    t.pil = s.pil := by
  have e := h.pil h1
  rw [← h.bridge h2] at e
  exact e

theorem Kept.wholeBlu {m : Blocks} {s t : State} (h : Kept m s t) (h1 : m.lift = false) (h2 : m.clamp = false) :
    t.blu = s.blu := by
  have e := h.lift h1
  rw [← h.clamp h2] at e
  exact e

theorem Kept.wholeTcu {m : Blocks} {s t : State} (h : Kept m s t) (h1 : m.tcu = false) (h2 : m.spindle = false) :
    t.tcu = s.tcu := by
  have e := h.tcu h1
  rw [← h.spindle h2] at e
  exact e

theorem Kept.wholeAhs {m : Blocks} {s t : State} (h : Kept m s t) (h1 : m.ahs = false) (h2 : m.slots = false) :
    t.ahs = s.ahs := by
  have e := h.ahs h1
  rw [← h.slots h2] at e
  exact e

/-! ## The updates of one block -/

theorem kept_modFmu {keep : Blocks} {base : State} (f : Fmu → Fmu) (hfmu : keep.fmu = true) {s : State}
    (h : Kept keep base s) :
    Kept keep base (s.modFmu f) := by
  constructor
  · exact h.pil
  · exact h.bridge
  · exact h.lift
  · exact h.clamp
  · intro e; simp [hfmu] at e
  · exact h.gbc
  · exact h.pmu
  · exact h.tpe
  · exact h.tcu
  · exact h.spindle
  · exact h.ahs
  · exact h.slots
  · exact h.sst
  · exact h.slp
  · exact h.pending

theorem kept_modGbc {keep : Blocks} {base : State} (f : Gbc → Gbc) (hgbc : keep.gbc = true) {s : State}
    (h : Kept keep base s) :
    Kept keep base (s.modGbc f) := by
  constructor
  · exact h.pil
  · exact h.bridge
  · exact h.lift
  · exact h.clamp
  · exact h.fmu
  · intro e; simp [hgbc] at e
  · exact h.pmu
  · exact h.tpe
  · exact h.tcu
  · exact h.spindle
  · exact h.ahs
  · exact h.slots
  · exact h.sst
  · exact h.slp
  · exact h.pending

theorem kept_modPmu {keep : Blocks} {base : State} (f : Pmu → Pmu) (hpmu : keep.pmu = true) {s : State}
    (h : Kept keep base s) :
    Kept keep base (s.modPmu f) := by
  constructor
  · exact h.pil
  · exact h.bridge
  · exact h.lift
  · exact h.clamp
  · exact h.fmu
  · exact h.gbc
  · intro e; simp [hpmu] at e
  · exact h.tpe
  · exact h.tcu
  · exact h.spindle
  · exact h.ahs
  · exact h.slots
  · exact h.sst
  · exact h.slp
  · exact h.pending

theorem kept_modTpe {keep : Blocks} {base : State} (f : Tpe → Tpe) (htpe : keep.tpe = true) {s : State}
    (h : Kept keep base s) :
    Kept keep base (s.modTpe f) := by
  constructor
  · exact h.pil
  · exact h.bridge
  · exact h.lift
  · exact h.clamp
  · exact h.fmu
  · exact h.gbc
  · exact h.pmu
  · intro e; simp [htpe] at e
  · exact h.tcu
  · exact h.spindle
  · exact h.ahs
  · exact h.slots
  · exact h.sst
  · exact h.slp
  · exact h.pending

theorem kept_modSst {keep : Blocks} {base : State} (f : Sst → Sst) (hsst : keep.sst = true) {s : State}
    (h : Kept keep base s) :
    Kept keep base (s.modSst f) := by
  constructor
  · exact h.pil
  · exact h.bridge
  · exact h.lift
  · exact h.clamp
  · exact h.fmu
  · exact h.gbc
  · exact h.pmu
  · exact h.tpe
  · exact h.tcu
  · exact h.spindle
  · exact h.ahs
  · exact h.slots
  · intro e; simp [hsst] at e
  · exact h.slp
  · exact h.pending

theorem kept_modSlp {keep : Blocks} {base : State} (f : Slp → Slp) (hslp : keep.slp = true) {s : State}
    (h : Kept keep base s) :
    Kept keep base (s.modSlp f) := by
  constructor
  · exact h.pil
  · exact h.bridge
  · exact h.lift
  · exact h.clamp
  · exact h.fmu
  · exact h.gbc
  · exact h.pmu
  · exact h.tpe
  · exact h.tcu
  · exact h.spindle
  · exact h.ahs
  · exact h.slots
  · exact h.sst
  · intro e; simp [hslp] at e
  · exact h.pending

theorem kept_modPil {keep : Blocks} {base : State} (f : Pil → Pil) (hpil : keep.pil = true)
    (hbridge : keep.bridge = true) {s : State} (h : Kept keep base s) :
    Kept keep base (s.modPil f) := by
  constructor
  · intro e; simp [hpil] at e
  · intro e; simp [hbridge] at e
  · exact h.lift
  · exact h.clamp
  · exact h.fmu
  · exact h.gbc
  · exact h.pmu
  · exact h.tpe
  · exact h.tcu
  · exact h.spindle
  · exact h.ahs
  · exact h.slots
  · exact h.sst
  · exact h.slp
  · exact h.pending

theorem kept_modPilRest {keep : Blocks} {base : State} (f : Pil → Pil) (hf : ∀ x, (f x).bridge = x.bridge)
    (hpil : keep.pil = true) {s : State} (h : Kept keep base s) :
    Kept keep base (s.modPil f) := by
  constructor
  · intro e; simp [hpil] at e
  · exact fun e => (hf s.pil).trans (h.bridge e)
  · exact h.lift
  · exact h.clamp
  · exact h.fmu
  · exact h.gbc
  · exact h.pmu
  · exact h.tpe
  · exact h.tcu
  · exact h.spindle
  · exact h.ahs
  · exact h.slots
  · exact h.sst
  · exact h.slp
  · exact h.pending

theorem kept_modBlu {keep : Blocks} {base : State} (f : Blu → Blu) (hlift : keep.lift = true)
    (hclamp : keep.clamp = true) {s : State} (h : Kept keep base s) :
    Kept keep base (s.modBlu f) := by
  constructor
  · exact h.pil
  · exact h.bridge
  · intro e; simp [hlift] at e
  · intro e; simp [hclamp] at e
  · exact h.fmu
  · exact h.gbc
  · exact h.pmu
  · exact h.tpe
  · exact h.tcu
  · exact h.spindle
  · exact h.ahs
  · exact h.slots
  · exact h.sst
  · exact h.slp
  · exact h.pending

theorem kept_modBluRest {keep : Blocks} {base : State} (f : Blu → Blu) (hf : ∀ x, (f x).clamp = x.clamp)
    (hlift : keep.lift = true) {s : State} (h : Kept keep base s) :
    Kept keep base (s.modBlu f) := by
  constructor
  · exact h.pil
  · exact h.bridge
  · intro e; simp [hlift] at e
  · exact fun e => (hf s.blu).trans (h.clamp e)
  · exact h.fmu
  · exact h.gbc
  · exact h.pmu
  · exact h.tpe
  · exact h.tcu
  · exact h.spindle
  · exact h.ahs
  · exact h.slots
  · exact h.sst
  · exact h.slp
  · exact h.pending

theorem kept_modTcu {keep : Blocks} {base : State} (f : Tcu → Tcu) (htcu : keep.tcu = true)
    (hspindle : keep.spindle = true) {s : State} (h : Kept keep base s) :
    Kept keep base (s.modTcu f) := by
  constructor
  · exact h.pil
  · exact h.bridge
  · exact h.lift
  · exact h.clamp
  · exact h.fmu
  · exact h.gbc
  · exact h.pmu
  · exact h.tpe
  · intro e; simp [htcu] at e
  · intro e; simp [hspindle] at e
  · exact h.ahs
  · exact h.slots
  · exact h.sst
  · exact h.slp
  · exact h.pending

theorem kept_modTcuRest {keep : Blocks} {base : State} (f : Tcu → Tcu) (hf : ∀ x, (f x).spindle = x.spindle)
    (htcu : keep.tcu = true) {s : State} (h : Kept keep base s) :
    Kept keep base (s.modTcu f) := by
  constructor
  · exact h.pil
  · exact h.bridge
  · exact h.lift
  · exact h.clamp
  · exact h.fmu
  · exact h.gbc
  · exact h.pmu
  · exact h.tpe
  · intro e; simp [htcu] at e
  · exact fun e => (hf s.tcu).trans (h.spindle e)
  · exact h.ahs
  · exact h.slots
  · exact h.sst
  · exact h.slp
  · exact h.pending

theorem kept_modAhs {keep : Blocks} {base : State} (f : Ahs → Ahs) (hahs : keep.ahs = true)
    (hslots : keep.slots = true) {s : State} (h : Kept keep base s) :
    Kept keep base (s.modAhs f) := by
  constructor
  · exact h.pil
  · exact h.bridge
  · exact h.lift
  · exact h.clamp
  · exact h.fmu
  · exact h.gbc
  · exact h.pmu
  · exact h.tpe
  · exact h.tcu
  · exact h.spindle
  · intro e; simp [hahs] at e
  · intro e; simp [hslots] at e
  · exact h.sst
  · exact h.slp
  · exact h.pending

theorem kept_modAhsRest {keep : Blocks} {base : State} (f : Ahs → Ahs) (hf : ∀ x, (f x).slots = x.slots)
    (hahs : keep.ahs = true) {s : State} (h : Kept keep base s) :
    Kept keep base (s.modAhs f) := by
  constructor
  · exact h.pil
  · exact h.bridge
  · exact h.lift
  · exact h.clamp
  · exact h.fmu
  · exact h.gbc
  · exact h.pmu
  · exact h.tpe
  · exact h.tcu
  · exact h.spindle
  · intro e; simp [hahs] at e
  · exact fun e => (hf s.ahs).trans (h.slots e)
  · exact h.sst
  · exact h.slp
  · exact h.pending

/-- Only the bridges. -/
theorem kept_modBridge {keep : Blocks} {base : State} (side : Side) (f : Bridge → Bridge)
    (hbridge : keep.bridge = true)
    {s : State} (h : Kept keep base s) : Kept keep base (modBridge side f s) := by
  constructor
  · exact h.pil
  · intro e; simp [hbridge] at e
  · exact h.lift
  · exact h.clamp
  · exact h.fmu
  · exact h.gbc
  · exact h.pmu
  · exact h.tpe
  · exact h.tcu
  · exact h.spindle
  · exact h.ahs
  · exact h.slots
  · exact h.sst
  · exact h.slp
  · exact h.pending

/-- Only the clamps. -/
theorem kept_modClamp {keep : Blocks} {base : State} (side : Side) (f : Clamp → Clamp) (hclamp : keep.clamp = true)
    {s : State} (h : Kept keep base s) : Kept keep base (modClamp side f s) := by
  constructor
  · exact h.pil
  · exact h.bridge
  · exact h.lift
  · intro e; simp [hclamp] at e
  · exact h.fmu
  · exact h.gbc
  · exact h.pmu
  · exact h.tpe
  · exact h.tcu
  · exact h.spindle
  · exact h.ahs
  · exact h.slots
  · exact h.sst
  · exact h.slp
  · exact h.pending

theorem kept_modHead {keep : Blocks} {base : State} (side : Side) (f : Head → Head) (htcu : keep.tcu = true)
    {s : State}
    (h : Kept keep base s) : Kept keep base (modHead side f s) := kept_modTcuRest (fun t => { t with head := t.head.set (f (t.head.get side)) side }) (fun _ => rfl) htcu h

theorem kept_modPmuHead {keep : Blocks} {base : State} (side : Side) (f : PmuHead → PmuHead)
    (hpmu : keep.pmu = true) {s : State}
    (h : Kept keep base s) : Kept keep base (modPmuHead side f s) := kept_modPmu _ hpmu h

theorem kept_modRim {keep : Blocks} {base : State} (side : Side) (f : Rim → Rim) (hpmu : keep.pmu = true) {s : State}
    (h : Kept keep base s) : Kept keep base (modRim side f s) := kept_modPmu _ hpmu h

theorem kept_modMonitor {keep : Blocks} {base : State} (n : MonitorId) (f : Monitor → Monitor)
    (hfmu : keep.fmu = true) {s : State}
    (h : Kept keep base s) : Kept keep base (modMonitor n f s) := kept_modFmu _ hfmu h

theorem kept_forSides {keep : Blocks} {base : State} (f : Side → State → State)
    (hf : ∀ side s, Kept keep base s → Kept keep base (f side s)) {s : State} (h : Kept keep base s) : Kept keep base (forSides f s) :=
  hf _ _ (hf _ _ h)

theorem kept_foldl {keep : Blocks} {base : State} {α : Type} (f : State → α → State) (l : List α)
    (hf : ∀ s x, Kept keep base s → Kept keep base (f s x)) {s : State} (h : Kept keep base s) : Kept keep base (l.foldl f s) := by
  induction l generalizing s with
  | nil => exact h
  | cons x rest ih => exact ih (hf _ _ h)

theorem kept_say {keep : Blocks} {base : State} (c : Code) {s : State} (h : Kept keep base s) : Kept keep base
    (say c s).2 := h

/-! ## The history store, the gauge queue, the plan -/

theorem kept_handCondition {keep : Blocks} {base : State} (m : MonitorId) (present : Bool) (hfmu : keep.fmu = true)
    {s : State} (h : Kept keep base s) :
    Kept keep base (handCondition m present s) := by
  unfold handCondition
  try dsimp only
  repeat (first | with_reducible assumption | exact fun _ => rfl | with_reducible apply kept_modMonitor |
            intro _ _ _ | split)

theorem kept_modOpen {keep : Blocks} {base : State} (id : AxleId) (f : OpenRecord → OpenRecord)
    (hahs : keep.ahs = true) {s : State} (h : Kept keep base s) :
    Kept keep base (modOpen id f s) := by
  unfold modOpen
  try dsimp only
  repeat (first | with_reducible assumption | exact fun _ => rfl | with_reducible apply kept_modAhsRest |
            intro _ _ _ | split)

theorem kept_queueCommit {keep : Blocks} {base : State} (id : AxleId) (hahs : keep.ahs = true) {s : State}
    (h : Kept keep base s) :
    Kept keep base (queueCommit id s) := by
  unfold queueCommit
  try dsimp only
  repeat (first | with_reducible assumption | exact fun _ => rfl | with_reducible apply kept_modAhsRest |
            intro _ _ _ | split)

theorem kept_appendTo {keep : Blocks} {base : State} (id : AxleId) (body : EntryBody) (hahs : keep.ahs = true)
    {s : State} (h : Kept keep base s) :
    Kept keep base (appendTo id body s) := by
  unfold appendTo
  try dsimp only
  repeat (first | with_reducible assumption | exact fun _ => rfl | with_reducible apply kept_modOpen |
            with_reducible apply kept_queueCommit | intro _ _ _ | split)

theorem kept_handEntry {keep : Blocks} {base : State} (body : EntryBody) (hahs : keep.ahs = true) {s : State}
    (h : Kept keep base s) :
    Kept keep base (handEntry body s) := by
  unfold handEntry
  try dsimp only
  repeat (first | with_reducible assumption | exact fun _ => rfl | with_reducible apply kept_appendTo |
            intro _ _ _ | split)

theorem kept_makePlace {keep : Blocks} {base : State} (hahs : keep.ahs = true) {s : State} (h : Kept keep base s) :
    Kept keep base (makePlace s) := by
  unfold makePlace
  try dsimp only
  repeat (first | with_reducible assumption | exact fun _ => rfl | with_reducible apply kept_modAhsRest |
            intro _ _ _ | split)

theorem kept_openRecord {keep : Blocks} {base : State} (r : Record) (st : CacheState) (hahs : keep.ahs = true)
    {s : State} (h : Kept keep base s) :
    Kept keep base (openRecord r st s) := by
  unfold openRecord
  try dsimp only
  repeat (first | with_reducible assumption | exact fun _ => rfl | with_reducible apply kept_modAhsRest |
            intro _ _ _ | split)

theorem kept_linkRecord {keep : Blocks} {base : State} (id : AxleId) (hpil : keep.pil = true)
    (hahs : keep.ahs = true) {s : State} (h : Kept keep base s) :
    Kept keep base (linkRecord id s) := by
  unfold linkRecord
  try dsimp only
  repeat (first | with_reducible assumption | exact fun _ => rfl | with_reducible apply kept_modPilRest |
            with_reducible apply kept_modAhsRest | intro _ _ _ | split)

theorem kept_serveOpening {keep : Blocks} {base : State} (hpil : keep.pil = true) (hahs : keep.ahs = true)
    {s : State} (h : Kept keep base s) :
    Kept keep base (serveOpening s) := by
  unfold serveOpening
  try dsimp only
  repeat (first | with_reducible assumption | exact fun _ => rfl | with_reducible apply kept_modAhsRest |
            with_reducible apply kept_makePlace | with_reducible apply kept_openRecord |
            with_reducible apply kept_linkRecord | intro _ _ _ | split)

theorem kept_beginOpening {keep : Blocks} {base : State} (o : Opening) (hpil : keep.pil = true)
    (hahs : keep.ahs = true) {s : State} (h : Kept keep base s) :
    Kept keep base (beginOpening o s) := by
  unfold beginOpening
  try dsimp only
  repeat (first | with_reducible assumption | exact fun _ => rfl | with_reducible apply kept_modAhsRest |
            with_reducible apply kept_serveOpening | intro _ _ _ | split)

theorem kept_createRecord {keep : Blocks} {base : State} (id : AxleId) (hpil : keep.pil = true)
    (hahs : keep.ahs = true) {s : State} (h : Kept keep base s) :
    Kept keep base (createRecord id s) := by
  unfold createRecord
  try dsimp only
  repeat (first | with_reducible assumption | exact fun _ => rfl | with_reducible apply kept_modAhsRest |
            with_reducible apply kept_beginOpening | intro _ _ _ | split)

theorem kept_seatRecord {keep : Blocks} {base : State} (id : AxleId) (hpil : keep.pil = true)
    (hahs : keep.ahs = true) {s : State} (h : Kept keep base s) :
    Kept keep base (seatRecord id s) := by
  unfold seatRecord
  try dsimp only
  repeat (first | with_reducible assumption | exact fun _ => rfl | with_reducible apply kept_modAhsRest |
            with_reducible apply kept_linkRecord | with_reducible apply kept_beginOpening |
            with_reducible apply kept_createRecord | intro _ _ _ | split)

theorem kept_dropSeating {keep : Blocks} {base : State} (id : AxleId) (hahs : keep.ahs = true) {s : State}
    (h : Kept keep base s) :
    Kept keep base (dropSeating id s) := by
  unfold dropSeating
  try dsimp only
  repeat (first | with_reducible assumption | exact fun _ => rfl | with_reducible apply kept_modAhsRest |
            intro _ _ _ | split)

theorem kept_endSeating {keep : Blocks} {base : State} (visit : Bool) (hahs : keep.ahs = true) {s : State}
    (h : Kept keep base s) :
    Kept keep base (endSeating visit s) := by
  unfold endSeating
  try dsimp only
  repeat (first | with_reducible assumption | exact fun _ => rfl | with_reducible apply kept_modAhsRest |
            with_reducible apply kept_modOpen | with_reducible apply kept_queueCommit |
            with_reducible apply kept_dropSeating | intro _ _ _ | split)

theorem kept_queueDirty {keep : Blocks} {base : State} (hahs : keep.ahs = true) {s : State} (h : Kept keep base s) :
    Kept keep base (queueDirty s) := by
  unfold queueDirty
  try dsimp only
  repeat (first | with_reducible assumption | exact fun _ => rfl | with_reducible apply kept_queueCommit |
            with_reducible apply kept_foldl | intro _ _ _ | split)

theorem kept_failCommit {keep : Blocks} {base : State} (id : AxleId) (bads : Nat) (hahs : keep.ahs = true)
    {s : State} (h : Kept keep base s) :
    Kept keep base (failCommit id bads s) := by
  unfold failCommit
  try dsimp only
  repeat (first | with_reducible assumption | exact fun _ => rfl | with_reducible apply kept_modAhsRest |
            with_reducible apply kept_modOpen | intro _ _ _ | split)

theorem kept_beginWrite {keep : Blocks} {base : State} (o : OpenRecord) (n : Nat) (retry : Bool) (bads : Nat)
    (hahs : keep.ahs = true) (hslots : keep.slots = true) {s : State} (h : Kept keep base s) :
    Kept keep base (beginWrite o n retry bads s) := by
  unfold beginWrite
  try dsimp only
  repeat (first | with_reducible assumption | exact fun _ => rfl | with_reducible apply kept_modAhs | intro _ _ _ |
            split)

theorem kept_commitFront {keep : Blocks} {base : State} (hahs : keep.ahs = true) (hslots : keep.slots = true)
    {s : State} (h : Kept keep base s) :
    Kept keep base (commitFront s) := by
  unfold commitFront
  try dsimp only
  repeat (first | with_reducible assumption | exact fun _ => rfl | with_reducible apply kept_modAhsRest |
            with_reducible apply kept_modOpen | with_reducible apply kept_failCommit |
            with_reducible apply kept_beginWrite | intro _ _ _ | split)

theorem kept_afterSwitch {keep : Blocks} {base : State} (id : AxleId) (hpil : keep.pil = true)
    (hahs : keep.ahs = true) {s : State} (h : Kept keep base s) :
    Kept keep base (afterSwitch id s) := by
  unfold afterSwitch
  try dsimp only
  repeat (first | with_reducible assumption | exact fun _ => rfl | with_reducible apply kept_modOpen |
            with_reducible apply kept_queueCommit | with_reducible apply kept_serveOpening | intro _ _ _ | split)

theorem kept_verifyAgrees {keep : Blocks} {base : State} (c : Commit) (hpil : keep.pil = true)
    (hahs : keep.ahs = true) (hslots : keep.slots = true) {s : State} (h : Kept keep base s) :
    Kept keep base (verifyAgrees c s) := by
  unfold verifyAgrees
  try dsimp only
  repeat (first | with_reducible assumption | exact fun _ => rfl | with_reducible apply kept_modAhs |
            with_reducible apply kept_afterSwitch | intro _ _ _ | split)

theorem kept_verifyDisagrees {keep : Blocks} {base : State} (c : Commit) (hahs : keep.ahs = true)
    (hslots : keep.slots = true) {s : State} (h : Kept keep base s) :
    Kept keep base (verifyDisagrees c s) := by
  unfold verifyDisagrees
  try dsimp only
  repeat (first | with_reducible assumption | exact fun _ => rfl | with_reducible apply kept_modAhs |
            with_reducible apply kept_failCommit | with_reducible apply kept_beginWrite | intro _ _ _ | split)

theorem kept_place {keep : Blocks} {base : State} (t : Txn) (hgbc : keep.gbc = true) {s : State}
    (h : Kept keep base s) :
    Kept keep base (place t s) := by
  unfold place
  try dsimp only
  repeat (first | with_reducible assumption | exact fun _ => rfl | with_reducible apply kept_modGbc | intro _ _ _ |
            split)

theorem kept_placeKept {keep : Blocks} {base : State} (q : Requester) (hgbc : keep.gbc = true) {s : State}
    (h : Kept keep base s) :
    Kept keep base (placeKept q s) := by
  unfold placeKept
  try dsimp only
  repeat (first | with_reducible assumption | exact fun _ => rfl | with_reducible apply kept_modGbc | intro _ _ _ |
            split)

theorem kept_abandon {keep : Blocks} {base : State} (q : Requester) (hgbc : keep.gbc = true) {s : State}
    (h : Kept keep base s) :
    Kept keep base (abandon q s) := by
  unfold abandon
  try dsimp only
  repeat (first | with_reducible assumption | exact fun _ => rfl | with_reducible apply kept_modGbc | intro _ _ _ |
            split)

theorem kept_beginOldest {keep : Blocks} {base : State} (hgbc : keep.gbc = true) {s : State} (h : Kept keep base s) :
    Kept keep base (beginOldest s) := by
  unfold beginOldest
  try dsimp only
  repeat (first | with_reducible assumption | exact fun _ => rfl | with_reducible apply kept_modGbc | intro _ _ _ |
            split)

theorem kept_observe {keep : Blocks} {base : State} (o : Observation) (hgbc : keep.gbc = true) {s : State}
    (h : Kept keep base s) :
    Kept keep base (observe o s) := by
  unfold observe
  try dsimp only
  repeat (first | with_reducible assumption | exact fun _ => rfl | with_reducible apply kept_modGbc | intro _ _ _ |
            split)

theorem kept_dropFront {keep : Blocks} {base : State} (hgbc : keep.gbc = true) {s : State} (h : Kept keep base s) :
    Kept keep base (dropFront s) := by
  unfold dropFront
  try dsimp only
  repeat (first | with_reducible assumption | exact fun _ => rfl | with_reducible apply kept_modGbc | intro _ _ _ |
            split)

theorem kept_dropMarkOpening {keep : Blocks} {base : State} (hahs : keep.ahs = true) {s : State}
    (h : Kept keep base s) :
    Kept keep base (dropMarkOpening s) := by
  unfold dropMarkOpening
  try dsimp only
  repeat (first | with_reducible assumption | exact fun _ => rfl | with_reducible apply kept_modAhsRest |
            intro _ _ _ | split)

theorem kept_cancelWork {keep : Blocks} {base : State} (reason : PlanReason) (htpe : keep.tpe = true)
    (hahs : keep.ahs = true) {s : State} (h : Kept keep base s) :
    Kept keep base (cancelWork reason s) := by
  unfold cancelWork
  try dsimp only
  repeat (first | with_reducible assumption | exact fun _ => rfl | with_reducible apply kept_modTpe |
            with_reducible apply kept_dropMarkOpening | intro _ _ _ | split)

theorem kept_discardPlan {keep : Blocks} {base : State} (reason : PlanReason) (htpe : keep.tpe = true)
    (hahs : keep.ahs = true) {s : State} (h : Kept keep base s) :
    Kept keep base (discardPlan reason s) := by
  unfold discardPlan
  try dsimp only
  repeat (first | with_reducible assumption | exact fun _ => rfl | with_reducible apply kept_modTpe |
            with_reducible apply kept_cancelWork | intro _ _ _ | split)

theorem kept_planInputChanged {keep : Blocks} {base : State} (htpe : keep.tpe = true) (hahs : keep.ahs = true)
    {s : State} (h : Kept keep base s) :
    Kept keep base (planInputChanged s) := by
  unfold planInputChanged
  try dsimp only
  repeat (first | with_reducible assumption | exact fun _ => rfl | with_reducible apply kept_discardPlan |
            intro _ _ _ | split)

theorem kept_planReady {keep : Blocks} {base : State} (htpe : keep.tpe = true) {s : State} (h : Kept keep base s) :
    Kept keep base (planReady s) := by
  unfold planReady
  try dsimp only
  repeat (first | with_reducible assumption | exact fun _ => rfl | with_reducible apply kept_modTpe | intro _ _ _ |
            split)

theorem kept_placeMark {keep : Blocks} {base : State} (m : Mark) (hahs : keep.ahs = true) {s : State}
    (h : Kept keep base s) :
    Kept keep base (placeMark m s) := by
  unfold placeMark
  try dsimp only
  repeat (first | with_reducible assumption | exact fun _ => rfl | with_reducible apply kept_queueCommit |
            with_reducible apply kept_appendTo | intro _ _ _ | split)

theorem kept_judgeMark {keep : Blocks} {base : State} (m : Mark) (hahs : keep.ahs = true) {s : State}
    (h : Kept keep base s) :
    Kept keep base (judgeMark m s) := by
  unfold judgeMark
  try dsimp only
  repeat (first | with_reducible assumption | exact fun _ => rfl | with_reducible apply kept_placeMark |
            intro _ _ _ | split)

theorem kept_processMarks {keep : Blocks} {base : State} (ms : List Mark) (hpil : keep.pil = true)
    (htpe : keep.tpe = true)
    (hahs : keep.ahs = true) {s : State} (h : Kept keep base s) : Kept keep base (processMarks ms s) := by
  induction ms generalizing s with
  | nil => exact kept_planReady htpe h
  | cons x rest ih =>
    unfold processMarks
    repeat (first | with_reducible assumption | exact fun _ => rfl | with_reducible apply ih |
      with_reducible apply kept_judgeMark | with_reducible apply kept_beginOpening | with_reducible apply kept_modTpe |
      split)

theorem kept_skipRetired {keep : Blocks} {base : State} (hpil : keep.pil = true) (htpe : keep.tpe = true)
    (hahs : keep.ahs = true) {s : State} (h : Kept keep base s) :
    Kept keep base (skipRetired s) := by
  unfold skipRetired
  try dsimp only
  repeat (first | with_reducible assumption | exact fun _ => rfl | with_reducible apply kept_modAhsRest |
            with_reducible apply kept_processMarks | intro _ _ _ | split)

theorem kept_drainMarks {keep : Blocks} {base : State} (hpil : keep.pil = true) (htpe : keep.tpe = true)
    (hahs : keep.ahs = true) {s : State} (h : Kept keep base s) :
    Kept keep base (drainMarks s) := by
  unfold drainMarks
  try dsimp only
  repeat (first | with_reducible assumption | exact fun _ => rfl | with_reducible apply kept_modAhsRest |
            with_reducible apply kept_processMarks | intro _ _ _ | split)

theorem kept_planStopped {keep : Blocks} {base : State} (state : PlanState) (reason : Option PlanReason)
    (outcome : PlanOutcome) (f : PlanFigures) (htpe : keep.tpe = true) {s : State} (h : Kept keep base s) :
    Kept keep base (planStopped state reason outcome f s) := by
  unfold planStopped
  try dsimp only
  repeat (first | with_reducible assumption | exact fun _ => rfl | with_reducible apply kept_modTpe | intro _ _ _ |
            split)

theorem kept_computePlan {keep : Blocks} {base : State} (p : PlanInputs) (hpil : keep.pil = true)
    (htpe : keep.tpe = true) (hahs : keep.ahs = true) {s : State} (h : Kept keep base s) :
    Kept keep base (computePlan p s) := by
  unfold computePlan
  try dsimp only
  repeat (first | with_reducible assumption | exact fun _ => rfl | with_reducible apply kept_modTpe |
            with_reducible apply kept_handEntry | with_reducible apply kept_processMarks |
            with_reducible apply kept_planStopped | intro _ _ _ | split)

end Sys2Proof.Machine
end

