-- ==== Sys2Proof/Laws/KeptOps.lean ====
section
/-! SUPPORT. What each shared operation leaves alone: the turning unit, the measurement unit, the lift, the clamps, the
bridges, the monitors. -/

namespace Sys2Proof.Machine

theorem kept_rundown {keep : Blocks} {base : State} (htcu : keep.tcu = true) (hspindle : keep.spindle = true)
    {s : State} (h : Kept keep base s) :
    Kept keep base (rundown s) := by
  unfold rundown
  try dsimp only
  repeat (first | with_reducible assumption | exact fun _ => rfl | with_reducible apply kept_modTcu | intro _ _ _ |
            split)

theorem kept_leaveMeasureRun {keep : Blocks} {base : State} (htcu : keep.tcu = true) {s : State}
    (h : Kept keep base s) :
    Kept keep base (leaveMeasureRun s) := by
  unfold leaveMeasureRun
  try dsimp only
  repeat (first | with_reducible assumption | exact fun _ => rfl | with_reducible apply kept_modTcuRest |
            intro _ _ _ | split)

theorem kept_finishRun {keep : Blocks} {base : State} (htcu : keep.tcu = true) (hspindle : keep.spindle = true)
    {s : State} (h : Kept keep base s) :
    Kept keep base (finishRun s) := by
  unfold finishRun
  try dsimp only
  repeat (first | with_reducible assumption | exact fun _ => rfl | with_reducible apply kept_modTcuRest |
            with_reducible apply kept_rundown | with_reducible apply kept_leaveMeasureRun | intro _ _ _ | split)

theorem kept_setPass {keep : Blocks} {base : State} (side : Side) (status : PassStatus) (htcu : keep.tcu = true)
    {s : State} (h : Kept keep base s) :
    Kept keep base (setPass side status s) := by
  unfold setPass
  try dsimp only
  repeat (first | with_reducible assumption | exact fun _ => rfl | with_reducible apply kept_modTcuRest |
            intro _ _ _ | split)

theorem kept_breakPass {keep : Blocks} {base : State} (side : Side) (htcu : keep.tcu = true) {s : State}
    (h : Kept keep base s) :
    Kept keep base (breakPass side s) := by
  unfold breakPass
  try dsimp only
  repeat (first | with_reducible assumption | exact fun _ => rfl | with_reducible apply kept_setPass | intro _ _ _ |
            split)

theorem kept_withdrawHead {keep : Blocks} {base : State} (side : Side) (htcu : keep.tcu = true) {s : State}
    (h : Kept keep base s) :
    Kept keep base (withdrawHead side s) := by
  unfold withdrawHead
  try dsimp only
  repeat (first | with_reducible assumption | exact fun _ => rfl | with_reducible apply kept_modHead |
            with_reducible apply kept_breakPass | intro _ _ _ | split)

theorem kept_pauseTurning {keep : Blocks} {base : State} (cause : PauseCause) (htcu : keep.tcu = true) {s : State}
    (h : Kept keep base s) :
    Kept keep base (pauseTurning cause s) := by
  unfold pauseTurning
  try dsimp only
  repeat (first | with_reducible assumption | exact fun _ => rfl | with_reducible apply kept_modTcuRest |
            with_reducible apply kept_forSides | with_reducible apply kept_withdrawHead | intro _ _ _ | split)

theorem kept_haltActiveHead {keep : Blocks} {base : State} (side : Side) (htcu : keep.tcu = true) {s : State}
    (h : Kept keep base s) :
    Kept keep base (haltActiveHead side s) := by
  unfold haltActiveHead
  try dsimp only
  repeat (first | with_reducible assumption | exact fun _ => rfl | with_reducible apply kept_modHead | intro _ _ _ |
            split)

theorem kept_leaveEnding {keep : Blocks} {base : State} (hpmu : keep.pmu = true) (htpe : keep.tpe = true)
    (htcu : keep.tcu = true) {s : State} (h : Kept keep base s) :
    Kept keep base (leaveEnding s) := by
  unfold leaveEnding
  try dsimp only
  repeat (first | with_reducible assumption | exact fun _ => rfl | with_reducible apply kept_modPmu |
            with_reducible apply kept_modTpe | with_reducible apply kept_modTcuRest | intro _ _ _ | split)

theorem kept_sendToPark {keep : Blocks} {base : State} (side : Side) (htcu : keep.tcu = true) {s : State}
    (h : Kept keep base s) :
    Kept keep base (sendToPark side s) := by
  unfold sendToPark
  try dsimp only
  repeat (first | with_reducible assumption | exact fun _ => rfl | with_reducible apply kept_modHead | intro _ _ _ |
            split)

theorem kept_haltTurningHead {keep : Blocks} {base : State} (side : Side) (htcu : keep.tcu = true) {s : State}
    (h : Kept keep base s) :
    Kept keep base (haltTurningHead side s) := by
  unfold haltTurningHead
  try dsimp only
  repeat (first | with_reducible assumption | exact fun _ => rfl | with_reducible apply kept_modHead | intro _ _ _ |
            split)

theorem kept_endDone {keep : Blocks} {base : State} (hpmu : keep.pmu = true) (htpe : keep.tpe = true)
    (htcu : keep.tcu = true) (hspindle : keep.spindle = true) (hahs : keep.ahs = true) {s : State}
    (h : Kept keep base s) :
    Kept keep base (endDone s) := by
  unfold endDone
  try dsimp only
  repeat (first | with_reducible assumption | exact fun _ => rfl | with_reducible apply kept_modTcuRest |
            with_reducible apply kept_forSides | with_reducible apply kept_handEntry |
            with_reducible apply kept_rundown | with_reducible apply kept_leaveEnding |
            with_reducible apply kept_sendToPark | intro _ _ _ | split)

theorem kept_endAborted {keep : Blocks} {base : State} (cause : TurnCause) (hpmu : keep.pmu = true)
    (htpe : keep.tpe = true) (htcu : keep.tcu = true) (hspindle : keep.spindle = true) (hahs : keep.ahs = true)
    {s : State} (h : Kept keep base s) :
    Kept keep base (endAborted cause s) := by
  unfold endAborted
  try dsimp only
  repeat (first | with_reducible assumption | exact fun _ => rfl | with_reducible apply kept_modTpe |
            with_reducible apply kept_modTcuRest | with_reducible apply kept_forSides |
            with_reducible apply kept_handEntry | with_reducible apply kept_rundown |
            with_reducible apply kept_breakPass | with_reducible apply kept_leaveEnding |
            with_reducible apply kept_sendToPark | with_reducible apply kept_haltTurningHead | intro _ _ _ | split)

theorem kept_beginPass {keep : Blocks} {base : State} (k : Nat) (side : Side) (htcu : keep.tcu = true) {s : State}
    (h : Kept keep base s) :
    Kept keep base (beginPass k side s) := by
  unfold beginPass
  try dsimp only
  repeat (first | with_reducible assumption | exact fun _ => rfl | with_reducible apply kept_modHead |
            with_reducible apply kept_setPass | intro _ _ _ | split)

theorem kept_beginStep {keep : Blocks} {base : State} (k : Nat) (htcu : keep.tcu = true) {s : State}
    (h : Kept keep base s) :
    Kept keep base (beginStep k s) := by
  unfold beginStep
  try dsimp only
  repeat (first | with_reducible assumption | exact fun _ => rfl | with_reducible apply kept_modTcuRest |
            with_reducible apply kept_forSides | with_reducible apply kept_beginPass | intro _ _ _ | split)

theorem kept_stepEnd {keep : Blocks} {base : State} (hpmu : keep.pmu = true) (htpe : keep.tpe = true)
    (htcu : keep.tcu = true) (hspindle : keep.spindle = true) (hahs : keep.ahs = true) {s : State}
    (h : Kept keep base s) :
    Kept keep base (stepEnd s) := by
  unfold stepEnd
  try dsimp only
  repeat (first | with_reducible assumption | exact fun _ => rfl | with_reducible apply kept_modTcuRest |
            with_reducible apply kept_rundown | with_reducible apply kept_endDone |
            with_reducible apply kept_beginStep | intro _ _ _ | split)

theorem kept_recutPass {keep : Blocks} {base : State} (k : Nat) (side : Side) (htcu : keep.tcu = true) {s : State}
    (h : Kept keep base s) :
    Kept keep base (recutPass k side s) := by
  unfold recutPass
  try dsimp only
  repeat (first | with_reducible assumption | exact fun _ => rfl | with_reducible apply kept_beginPass |
            intro _ _ _ | split)

theorem kept_continueCutting {keep : Blocks} {base : State} (hpmu : keep.pmu = true) (htpe : keep.tpe = true)
    (htcu : keep.tcu = true) (hspindle : keep.spindle = true) (hahs : keep.ahs = true) {s : State}
    (h : Kept keep base s) :
    Kept keep base (continueCutting s) := by
  unfold continueCutting
  try dsimp only
  repeat (first | with_reducible assumption | exact fun _ => rfl | with_reducible apply kept_modTcuRest |
            with_reducible apply kept_forSides | with_reducible apply kept_stepEnd |
            with_reducible apply kept_recutPass | intro _ _ _ | split)

theorem kept_headParked {keep : Blocks} {base : State} (side : Side) (hfmu : keep.fmu = true)
    (htcu : keep.tcu = true) {s : State} (h : Kept keep base s) :
    Kept keep base (headParked side s) := by
  unfold headParked
  try dsimp only
  repeat (first | with_reducible assumption | exact fun _ => rfl | with_reducible apply kept_modHead |
            with_reducible apply kept_handCondition | intro _ _ _ | split)

theorem kept_releaseHead {keep : Blocks} {base : State} (side : Side) (htcu : keep.tcu = true) {s : State}
    (h : Kept keep base s) :
    Kept keep base (releaseHead side s) := by
  unfold releaseHead
  try dsimp only
  repeat (first | with_reducible assumption | exact fun _ => rfl | with_reducible apply kept_modHead | intro _ _ _ |
            split)

theorem kept_stopHead {keep : Blocks} {base : State} (side : Side) (htcu : keep.tcu = true) {s : State}
    (h : Kept keep base s) :
    Kept keep base (stopHead side s) := by
  unfold stopHead
  try dsimp only
  repeat (first | with_reducible assumption | exact fun _ => rfl | with_reducible apply kept_haltActiveHead |
            with_reducible apply kept_releaseHead | intro _ _ _ | split)

theorem kept_sendProbeHome {keep : Blocks} {base : State} (side : Side) (hgbc : keep.gbc = true)
    (htcu : keep.tcu = true) {s : State} (h : Kept keep base s) :
    Kept keep base (sendProbeHome side s) := by
  unfold sendProbeHome
  try dsimp only
  repeat (first | with_reducible assumption | exact fun _ => rfl | with_reducible apply kept_modHead |
            with_reducible apply kept_place | intro _ _ _ | split)

theorem kept_abandonSwept {keep : Blocks} {base : State} (side : Side) (hgbc : keep.gbc = true) {s : State}
    (h : Kept keep base s) :
    Kept keep base (abandonSwept side s) := by
  unfold abandonSwept
  try dsimp only
  repeat (first | with_reducible assumption | exact fun _ => rfl | with_reducible apply kept_abandon | intro _ _ _ |
            split)

theorem kept_parkSwept {keep : Blocks} {base : State} (wheels : Option Wheels) (side : Side)
    (hgbc : keep.gbc = true) (htcu : keep.tcu = true) {s : State} (h : Kept keep base s) :
    Kept keep base (parkSwept wheels side s) := by
  unfold parkSwept
  try dsimp only
  repeat (first | with_reducible assumption | exact fun _ => rfl | with_reducible apply kept_sendProbeHome |
            intro _ _ _ | split)

theorem kept_closeSweep {keep : Blocks} {base : State} (outcome : SweepOutcome) (hgbc : keep.gbc = true)
    (hpmu : keep.pmu = true) (htpe : keep.tpe = true) (htcu : keep.tcu = true) (hspindle : keep.spindle = true)
    (hahs : keep.ahs = true) {s : State} (h : Kept keep base s) :
    Kept keep base (closeSweep outcome s) := by
  unfold closeSweep
  try dsimp only
  repeat (first | with_reducible assumption | exact fun _ => rfl | with_reducible apply kept_modPmu |
            with_reducible apply kept_forSides | with_reducible apply kept_discardPlan |
            with_reducible apply kept_finishRun | with_reducible apply kept_releaseHead |
            with_reducible apply kept_abandonSwept | with_reducible apply kept_parkSwept | intro _ _ _ | split)

theorem kept_failRecord {keep : Blocks} {base : State} (reason : Reason) (side : Side) (hpmu : keep.pmu = true)
    {s : State} (h : Kept keep base s) :
    Kept keep base (failRecord reason side s) := by
  unfold failRecord
  try dsimp only
  repeat (first | with_reducible assumption | exact fun _ => rfl | with_reducible apply kept_modPmu | intro _ _ _ |
            split)

theorem kept_sweepFail {keep : Blocks} {base : State} (reason : Reason) (hgbc : keep.gbc = true)
    (hpmu : keep.pmu = true) (htpe : keep.tpe = true) (htcu : keep.tcu = true) (hspindle : keep.spindle = true)
    (hahs : keep.ahs = true) {s : State} (h : Kept keep base s) :
    Kept keep base (sweepFail reason s) := by
  unfold sweepFail
  try dsimp only
  repeat (first | with_reducible assumption | exact fun _ => rfl | with_reducible apply kept_forSides |
            with_reducible apply kept_closeSweep | with_reducible apply kept_failRecord | intro _ _ _ | split)

theorem kept_supportLost {keep : Blocks} {base : State} (hgbc : keep.gbc = true) (hpmu : keep.pmu = true)
    (htpe : keep.tpe = true) (htcu : keep.tcu = true) (hspindle : keep.spindle = true) (hahs : keep.ahs = true)
    {s : State} (h : Kept keep base s) :
    Kept keep base (supportLost s) := by
  unfold supportLost
  try dsimp only
  repeat (first | with_reducible assumption | exact fun _ => rfl | with_reducible apply kept_sweepFail |
            intro _ _ _ | split)

theorem kept_stowHead {keep : Blocks} {base : State} (side : Side) (hfmu : keep.fmu = true) (hgbc : keep.gbc = true)
    (htcu : keep.tcu = true) {s : State} (h : Kept keep base s) :
    Kept keep base (stowHead side s) := by
  unfold stowHead
  try dsimp only
  repeat (first | with_reducible assumption | exact fun _ => rfl | with_reducible apply kept_modHead |
            with_reducible apply kept_handCondition | with_reducible apply kept_place | intro _ _ _ | split)

theorem kept_endReference {keep : Blocks} {base : State} (side : Side) (outcome : ReferenceOutcome)
    (hfmu : keep.fmu = true) (hgbc : keep.gbc = true) (hpmu : keep.pmu = true) (htcu : keep.tcu = true) {s : State}
    (h : Kept keep base s) :
    Kept keep base (endReference side outcome s) := by
  unfold endReference
  try dsimp only
  repeat (first | with_reducible assumption | exact fun _ => rfl | with_reducible apply kept_modPmuHead |
            with_reducible apply kept_abandon | with_reducible apply kept_releaseHead |
            with_reducible apply kept_stowHead | intro _ _ _ | split)

theorem kept_referenceFailed {keep : Blocks} {base : State} (reason : Reason) (side : Side) (hfmu : keep.fmu = true)
    (hgbc : keep.gbc = true) (hpmu : keep.pmu = true) (htcu : keep.tcu = true) {s : State} (h : Kept keep base s) :
    Kept keep base (referenceFailed reason side s) := by
  unfold referenceFailed
  try dsimp only
  repeat (first | with_reducible assumption | exact fun _ => rfl | with_reducible apply kept_endReference |
            intro _ _ _ | split)

theorem kept_makeStale {keep : Blocks} {base : State} (side : Side) (hpmu : keep.pmu = true) {s : State}
    (h : Kept keep base s) :
    Kept keep base (makeStale side s) := by
  unfold makeStale
  try dsimp only
  repeat (first | with_reducible assumption | exact fun _ => rfl | with_reducible apply kept_modPmuHead |
            intro _ _ _ | split)

theorem kept_headNotice {keep : Blocks} {base : State} (side : Side) (hfmu : keep.fmu = true)
    (hgbc : keep.gbc = true) (hpmu : keep.pmu = true) (htcu : keep.tcu = true) {s : State} (h : Kept keep base s) :
    Kept keep base (headNotice side s) := by
  unfold headNotice
  try dsimp only
  repeat (first | with_reducible assumption | exact fun _ => rfl | with_reducible apply kept_referenceFailed |
            with_reducible apply kept_makeStale | intro _ _ _ | split)

theorem kept_handNotices {keep : Blocks} {base : State} (o : Observation) (hfmu : keep.fmu = true)
    (hgbc : keep.gbc = true) (hpmu : keep.pmu = true) (htcu : keep.tcu = true) {s : State} (h : Kept keep base s) :
    Kept keep base (handNotices o s) := by
  unfold handNotices
  try dsimp only
  repeat (first | with_reducible assumption | exact fun _ => rfl | with_reducible apply kept_forSides |
            with_reducible apply kept_headNotice | intro _ _ _ | split)

theorem kept_setValid {keep : Blocks} {base : State} (f : Sides (Option ProfileFigures)) (side : Side)
    (hpmu : keep.pmu = true) {s : State} (h : Kept keep base s) :
    Kept keep base (setValid f side s) := by
  unfold setValid
  try dsimp only
  repeat (first | with_reducible assumption | exact fun _ => rfl | with_reducible apply kept_modPmu | intro _ _ _ |
            split)

theorem kept_sweepDone {keep : Blocks} {base : State} (f : Sides (Option ProfileFigures)) (hgbc : keep.gbc = true)
    (hpmu : keep.pmu = true) (htpe : keep.tpe = true) (htcu : keep.tcu = true) (hspindle : keep.spindle = true)
    (hahs : keep.ahs = true) {s : State} (h : Kept keep base s) :
    Kept keep base (sweepDone f s) := by
  unfold sweepDone
  try dsimp only
  repeat (first | with_reducible assumption | exact fun _ => rfl | with_reducible apply kept_modPmu |
            with_reducible apply kept_forSides | with_reducible apply kept_handEntry |
            with_reducible apply kept_closeSweep | with_reducible apply kept_setValid | intro _ _ _ | split)

theorem kept_finishExtraction {keep : Blocks} {base : State} (hgbc : keep.gbc = true) (hpmu : keep.pmu = true)
    (htpe : keep.tpe = true) (htcu : keep.tcu = true) (hspindle : keep.spindle = true) (hahs : keep.ahs = true)
    {s : State} (h : Kept keep base s) :
    Kept keep base (finishExtraction s) := by
  unfold finishExtraction
  try dsimp only
  repeat (first | with_reducible assumption | exact fun _ => rfl | with_reducible apply kept_sweepFail |
            with_reducible apply kept_sweepDone | intro _ _ _ | split)

theorem kept_referenceOutcome {keep : Blocks} {base : State} (side : Side) (reach : Nat) (hfmu : keep.fmu = true)
    (hgbc : keep.gbc = true) (hpmu : keep.pmu = true) (htcu : keep.tcu = true) (hsst : keep.sst = true) {s : State}
    (h : Kept keep base s) :
    Kept keep base (referenceOutcome side reach s) := by
  unfold referenceOutcome
  try dsimp only
  repeat (first | with_reducible assumption | exact fun _ => rfl | with_reducible apply kept_modSst |
            with_reducible apply kept_modPmuHead | with_reducible apply kept_endReference |
            with_reducible apply kept_makeStale | intro _ _ _ | split)

theorem kept_completeReference {keep : Blocks} {base : State} (side : Side) (reach : Nat) (hfmu : keep.fmu = true)
    (hgbc : keep.gbc = true) (hpmu : keep.pmu = true) (htcu : keep.tcu = true) (hsst : keep.sst = true) {s : State}
    (h : Kept keep base s) :
    Kept keep base (completeReference side reach s) := by
  unfold completeReference
  try dsimp only
  repeat (first | with_reducible assumption | exact fun _ => rfl | with_reducible apply kept_referenceFailed |
            with_reducible apply kept_referenceOutcome | intro _ _ _ | split)

theorem kept_clearProfiles {keep : Blocks} {base : State} (hpmu : keep.pmu = true) {s : State}
    (h : Kept keep base s) :
    Kept keep base (clearProfiles s) := by
  unfold clearProfiles
  try dsimp only
  repeat (first | with_reducible assumption | exact fun _ => rfl | with_reducible apply kept_modPmu | intro _ _ _ |
            split)

theorem kept_turningForgotten {keep : Blocks} {base : State} (htcu : keep.tcu = true) {s : State}
    (h : Kept keep base s) :
    Kept keep base (turningForgotten s) := by
  unfold turningForgotten
  try dsimp only
  repeat (first | with_reducible assumption | exact fun _ => rfl | with_reducible apply kept_modTcuRest |
            intro _ _ _ | split)

theorem kept_endVisit {keep : Blocks} {base : State} (hpil : keep.pil = true) (hgbc : keep.gbc = true)
    (hpmu : keep.pmu = true) (htpe : keep.tpe = true) (htcu : keep.tcu = true) (hahs : keep.ahs = true) {s : State}
    (h : Kept keep base s) :
    Kept keep base (endVisit s) := by
  unfold endVisit
  try dsimp only
  repeat (first | with_reducible assumption | exact fun _ => rfl | with_reducible apply kept_modPilRest |
            with_reducible apply kept_endSeating | with_reducible apply kept_abandon |
            with_reducible apply kept_discardPlan | with_reducible apply kept_clearProfiles |
            with_reducible apply kept_turningForgotten | intro _ _ _ | split)

theorem kept_visitEndIfDue {keep : Blocks} {base : State} (hpil : keep.pil = true) (hgbc : keep.gbc = true)
    (hpmu : keep.pmu = true) (htpe : keep.tpe = true) (htcu : keep.tcu = true) (hahs : keep.ahs = true) {s : State}
    (h : Kept keep base s) :
    Kept keep base (visitEndIfDue s) := by
  unfold visitEndIfDue
  try dsimp only
  repeat (first | with_reducible assumption | exact fun _ => rfl | with_reducible apply kept_endVisit |
            intro _ _ _ | split)

theorem kept_restAt {keep : Blocks} {base : State} (hlift : keep.lift = true) {s : State} (h : Kept keep base s) :
    Kept keep base (restAt s) := by
  unfold restAt
  try dsimp only
  repeat (first | with_reducible assumption | exact fun _ => rfl | with_reducible apply kept_modBluRest |
            intro _ _ _ | split)

theorem kept_restLift {keep : Blocks} {base : State} (outcome : LiftOutcome) (hpil : keep.pil = true)
    (hlift : keep.lift = true) (hgbc : keep.gbc = true) (hpmu : keep.pmu = true) (htpe : keep.tpe = true)
    (htcu : keep.tcu = true) (hahs : keep.ahs = true) {s : State} (h : Kept keep base s) :
    Kept keep base (restLift outcome s) := by
  unfold restLift
  try dsimp only
  repeat (first | with_reducible assumption | exact fun _ => rfl | with_reducible apply kept_modBluRest |
            with_reducible apply kept_visitEndIfDue | with_reducible apply kept_restAt | intro _ _ _ | split)

theorem kept_haltBridge {keep : Blocks} {base : State} (outcome : BridgeOutcome) (side : Side)
    (hbridge : keep.bridge = true) {s : State} (h : Kept keep base s) :
    Kept keep base (haltBridge outcome side s) := by
  unfold haltBridge
  try dsimp only
  repeat (first | with_reducible assumption | exact fun _ => rfl | with_reducible apply kept_modBridge |
            intro _ _ _ | split)

theorem kept_spindleUnsupported {keep : Blocks} {base : State} (cause : PauseCause) (htcu : keep.tcu = true)
    (hspindle : keep.spindle = true) {s : State} (h : Kept keep base s) :
    Kept keep base (spindleUnsupported cause s) := by
  unfold spindleUnsupported
  try dsimp only
  repeat (first | with_reducible assumption | exact fun _ => rfl | with_reducible apply kept_rundown |
            with_reducible apply kept_finishRun | with_reducible apply kept_pauseTurning | intro _ _ _ | split)

theorem kept_haltLift {keep : Blocks} {base : State} (outcome : LiftOutcome) (hbridge : keep.bridge = true)
    (hlift : keep.lift = true) (hgbc : keep.gbc = true) (hpmu : keep.pmu = true) (htpe : keep.tpe = true)
    (htcu : keep.tcu = true) (hspindle : keep.spindle = true) (hahs : keep.ahs = true) {s : State}
    (h : Kept keep base s) :
    Kept keep base (haltLift outcome s) := by
  unfold haltLift
  try dsimp only
  repeat (first | with_reducible assumption | exact fun _ => rfl | with_reducible apply kept_modBluRest |
            with_reducible apply kept_forSides | with_reducible apply kept_supportLost |
            with_reducible apply kept_haltBridge | with_reducible apply kept_spindleUnsupported | intro _ _ _ |
            split)

theorem kept_bearingLost {keep : Blocks} {base : State} (hgbc : keep.gbc = true) (hpmu : keep.pmu = true)
    (htpe : keep.tpe = true) (htcu : keep.tcu = true) (hspindle : keep.spindle = true) (hahs : keep.ahs = true)
    {s : State} (h : Kept keep base s) :
    Kept keep base (bearingLost s) := by
  unfold bearingLost
  try dsimp only
  repeat (first | with_reducible assumption | exact fun _ => rfl | with_reducible apply kept_supportLost |
            with_reducible apply kept_spindleUnsupported | intro _ _ _ | split)

theorem kept_takeZones {keep : Blocks} {base : State} (zones : Four Zone) (hpil : keep.pil = true)
    (hlift : keep.lift = true) (hgbc : keep.gbc = true) (hpmu : keep.pmu = true) (htpe : keep.tpe = true)
    (htcu : keep.tcu = true) (hspindle : keep.spindle = true) (hahs : keep.ahs = true) {s : State}
    (h : Kept keep base s) :
    Kept keep base (takeZones zones s) := by
  unfold takeZones
  try dsimp only
  repeat (first | with_reducible assumption | exact fun _ => rfl | with_reducible apply kept_modBluRest |
            with_reducible apply kept_restLift | with_reducible apply kept_bearingLost | intro _ _ _ | split)

theorem kept_zonesAfresh {keep : Blocks} {base : State} (hpil : keep.pil = true) (hlift : keep.lift = true)
    (hgbc : keep.gbc = true) (hpmu : keep.pmu = true) (htpe : keep.tpe = true) (htcu : keep.tcu = true)
    (hspindle : keep.spindle = true) (hahs : keep.ahs = true) {s : State} (h : Kept keep base s) :
    Kept keep base (zonesAfresh s) := by
  unfold zonesAfresh
  try dsimp only
  repeat (first | with_reducible assumption | exact fun _ => rfl | with_reducible apply kept_takeZones |
            intro _ _ _ | split)

theorem kept_guardClearance {keep : Blocks} {base : State} (hbridge : keep.bridge = true) {s : State}
    (h : Kept keep base s) :
    Kept keep base (guardClearance s) := by
  unfold guardClearance
  try dsimp only
  repeat (first | with_reducible assumption | exact fun _ => rfl | with_reducible apply kept_forSides |
            with_reducible apply kept_haltBridge | intro _ _ _ | split)

theorem kept_takePositions {keep : Blocks} {base : State} (positions : Four Nat) (hlift : keep.lift = true)
    {s : State} (h : Kept keep base s) :
    Kept keep base (takePositions positions s) := by
  unfold takePositions
  try dsimp only
  repeat (first | with_reducible assumption | exact fun _ => rfl | with_reducible apply kept_modBluRest |
            intro _ _ _ | split)

theorem kept_takeLoads {keep : Blocks} {base : State} (loads : Four Nat) (hpil : keep.pil = true)
    (hlift : keep.lift = true) (hgbc : keep.gbc = true) (hpmu : keep.pmu = true) (htpe : keep.tpe = true)
    (htcu : keep.tcu = true) (hspindle : keep.spindle = true) (hahs : keep.ahs = true) {s : State}
    (h : Kept keep base s) :
    Kept keep base (takeLoads loads s) := by
  unfold takeLoads
  try dsimp only
  repeat (first | with_reducible assumption | exact fun _ => rfl | with_reducible apply kept_modBluRest |
            with_reducible apply kept_takeZones | intro _ _ _ | split)

theorem kept_levelling {keep : Blocks} {base : State} (hlift : keep.lift = true) {s : State} (h : Kept keep base s) :
    Kept keep base (levelling s) := by
  unfold levelling
  try dsimp only
  repeat (first | with_reducible assumption | exact fun _ => rfl | with_reducible apply kept_modBluRest |
            intro _ _ _ | split)

theorem kept_retest {keep : Blocks} {base : State} (hpil : keep.pil = true) (hlift : keep.lift = true)
    (hgbc : keep.gbc = true) (hpmu : keep.pmu = true) (htpe : keep.tpe = true) (htcu : keep.tcu = true)
    (hspindle : keep.spindle = true) (hahs : keep.ahs = true) {s : State} (h : Kept keep base s) :
    Kept keep base (retest s) := by
  unfold retest
  try dsimp only
  repeat (first | with_reducible assumption | exact fun _ => rfl | with_reducible apply kept_modBluRest |
            with_reducible apply kept_supportLost | with_reducible apply kept_visitEndIfDue | intro _ _ _ | split)

theorem kept_liftPeriod {keep : Blocks} {base : State} (hpil : keep.pil = true) (hlift : keep.lift = true)
    (hgbc : keep.gbc = true) (hpmu : keep.pmu = true) (htpe : keep.tpe = true) (htcu : keep.tcu = true)
    (hspindle : keep.spindle = true) (hahs : keep.ahs = true) {s : State} (h : Kept keep base s) :
    Kept keep base (liftPeriod s) := by
  unfold liftPeriod
  try dsimp only
  repeat (first | with_reducible assumption | exact fun _ => rfl | with_reducible apply kept_restLift |
            with_reducible apply kept_levelling | with_reducible apply kept_retest | intro _ _ _ | split)

theorem kept_completeClamp {keep : Blocks} {base : State} (outcome : ClampOutcome) (side : Side)
    (hclamp : keep.clamp = true) {s : State} (h : Kept keep base s) :
    Kept keep base (completeClamp outcome side s) := by
  unfold completeClamp
  try dsimp only
  repeat (first | with_reducible assumption | exact fun _ => rfl | with_reducible apply kept_modClamp |
            intro _ _ _ | split)

theorem kept_completeUnconfirmed {keep : Blocks} {base : State} (side : Side) (hclamp : keep.clamp = true)
    {s : State} (h : Kept keep base s) :
    Kept keep base (completeUnconfirmed side s) := by
  unfold completeUnconfirmed
  try dsimp only
  repeat (first | with_reducible assumption | exact fun _ => rfl | with_reducible apply kept_completeClamp |
            intro _ _ _ | split)

theorem kept_haltClamp {keep : Blocks} {base : State} (outcome : ClampOutcome) (side : Side)
    (hclamp : keep.clamp = true) {s : State} (h : Kept keep base s) :
    Kept keep base (haltClamp outcome side s) := by
  unfold haltClamp
  try dsimp only
  repeat (first | with_reducible assumption | exact fun _ => rfl | with_reducible apply kept_modClamp |
            intro _ _ _ | split)

theorem kept_failClamp {keep : Blocks} {base : State} (side : Side) (hclamp : keep.clamp = true)
    (hgbc : keep.gbc = true) (hpmu : keep.pmu = true) (htpe : keep.tpe = true) (htcu : keep.tcu = true)
    (hspindle : keep.spindle = true) (hahs : keep.ahs = true) {s : State} (h : Kept keep base s) :
    Kept keep base (failClamp side s) := by
  unfold failClamp
  try dsimp only
  repeat (first | with_reducible assumption | exact fun _ => rfl | with_reducible apply kept_modClamp |
            with_reducible apply kept_rundown | with_reducible apply kept_finishRun |
            with_reducible apply kept_pauseTurning | with_reducible apply kept_supportLost | intro _ _ _ | split)

theorem kept_beginClamp {keep : Blocks} {base : State} (aim : ClampEnd) (side : Side) (hclamp : keep.clamp = true)
    (hgbc : keep.gbc = true) (hpmu : keep.pmu = true) (htpe : keep.tpe = true) (htcu : keep.tcu = true)
    (hspindle : keep.spindle = true) (hahs : keep.ahs = true) {s : State} (h : Kept keep base s) :
    Kept keep base (beginClamp aim side s) := by
  unfold beginClamp
  try dsimp only
  repeat (first | with_reducible assumption | exact fun _ => rfl | with_reducible apply kept_modClamp |
            with_reducible apply kept_supportLost | intro _ _ _ | split)

theorem kept_bridgeLost {keep : Blocks} {base : State} (side : Side) (hbridge : keep.bridge = true)
    (hgbc : keep.gbc = true) (hpmu : keep.pmu = true) (htpe : keep.tpe = true) (htcu : keep.tcu = true)
    (hspindle : keep.spindle = true) (hahs : keep.ahs = true) {s : State} (h : Kept keep base s) :
    Kept keep base (bridgeLost side s) := by
  unfold bridgeLost
  try dsimp only
  repeat (first | with_reducible assumption | exact fun _ => rfl | with_reducible apply kept_modBridge |
            with_reducible apply kept_supportLost | with_reducible apply kept_spindleUnsupported | intro _ _ _ |
            split)

theorem kept_beginBridge {keep : Blocks} {base : State} (aim : BridgeEnd) (side : Side)
    (hbridge : keep.bridge = true) (hgbc : keep.gbc = true) (hpmu : keep.pmu = true) (htpe : keep.tpe = true)
    (htcu : keep.tcu = true) (hspindle : keep.spindle = true) (hahs : keep.ahs = true) {s : State}
    (h : Kept keep base s) :
    Kept keep base (beginBridge aim side s) := by
  unfold beginBridge
  try dsimp only
  repeat (first | with_reducible assumption | exact fun _ => rfl | with_reducible apply kept_modBridge |
            with_reducible apply kept_supportLost | intro _ _ _ | split)

theorem kept_liftTrip {keep : Blocks} {base : State} (hbridge : keep.bridge = true) (hlift : keep.lift = true)
    (hgbc : keep.gbc = true) (hpmu : keep.pmu = true) (htpe : keep.tpe = true) (htcu : keep.tcu = true)
    (hspindle : keep.spindle = true) (hahs : keep.ahs = true) {s : State} (h : Kept keep base s) :
    Kept keep base (liftTrip s) := by
  unfold liftTrip
  try dsimp only
  repeat (first | with_reducible assumption | exact fun _ => rfl | with_reducible apply kept_rundown |
            with_reducible apply kept_finishRun | with_reducible apply kept_pauseTurning |
            with_reducible apply kept_supportLost | with_reducible apply kept_haltLift | intro _ _ _ | split)

theorem kept_slipTrip {keep : Blocks} {base : State} (hgbc : keep.gbc = true) (hpmu : keep.pmu = true)
    (htpe : keep.tpe = true) (htcu : keep.tcu = true) (hspindle : keep.spindle = true) (hahs : keep.ahs = true)
    {s : State} (h : Kept keep base s) :
    Kept keep base (slipTrip s) := by
  unfold slipTrip
  try dsimp only
  repeat (first | with_reducible assumption | exact fun _ => rfl | with_reducible apply kept_rundown |
            with_reducible apply kept_finishRun | with_reducible apply kept_pauseTurning |
            with_reducible apply kept_sweepFail | intro _ _ _ | split)

theorem kept_forceTrip {keep : Blocks} {base : State} (side : Side) (htcu : keep.tcu = true) {s : State}
    (h : Kept keep base s) :
    Kept keep base (forceTrip side s) := by
  unfold forceTrip
  try dsimp only
  repeat (first | with_reducible assumption | exact fun _ => rfl | with_reducible apply kept_modTcuRest |
            with_reducible apply kept_withdrawHead | intro _ _ _ | split)

theorem kept_overtravelTrip {keep : Blocks} {base : State} (side : Side) (hfmu : keep.fmu = true)
    (hgbc : keep.gbc = true) (hpmu : keep.pmu = true) (htpe : keep.tpe = true) (htcu : keep.tcu = true)
    (hspindle : keep.spindle = true) (hahs : keep.ahs = true) {s : State} (h : Kept keep base s) :
    Kept keep base (overtravelTrip side s) := by
  unfold overtravelTrip
  try dsimp only
  repeat (first | with_reducible assumption | exact fun _ => rfl | with_reducible apply kept_modHead |
            with_reducible apply kept_leaveEnding | with_reducible apply kept_releaseHead |
            with_reducible apply kept_sweepFail | with_reducible apply kept_referenceFailed | intro _ _ _ | split)

theorem kept_haltWorks {keep : Blocks} {base : State} (cause : TurnCause) (reason : Reason) (clamp : ClampOutcome)
    (hclamp : keep.clamp = true) (hfmu : keep.fmu = true) (hgbc : keep.gbc = true) (hpmu : keep.pmu = true)
    (htpe : keep.tpe = true) (htcu : keep.tcu = true) (hspindle : keep.spindle = true) (hahs : keep.ahs = true)
    {s : State} (h : Kept keep base s) :
    Kept keep base (haltWorks cause reason clamp s) := by
  unfold haltWorks
  try dsimp only
  repeat (first | with_reducible assumption | exact fun _ => rfl | with_reducible apply kept_forSides |
            with_reducible apply kept_rundown | with_reducible apply kept_finishRun |
            with_reducible apply kept_haltActiveHead | with_reducible apply kept_leaveEnding |
            with_reducible apply kept_endAborted | with_reducible apply kept_releaseHead |
            with_reducible apply kept_sweepFail | with_reducible apply kept_referenceFailed |
            with_reducible apply kept_haltClamp | intro _ _ _ | split)

theorem kept_presenceTrip {keep : Blocks} {base : State} (hbridge : keep.bridge = true) (hlift : keep.lift = true)
    (hclamp : keep.clamp = true) (hfmu : keep.fmu = true) (hgbc : keep.gbc = true) (hpmu : keep.pmu = true)
    (htpe : keep.tpe = true) (htcu : keep.tcu = true) (hspindle : keep.spindle = true) (hahs : keep.ahs = true)
    {s : State} (h : Kept keep base s) :
    Kept keep base (presenceTrip s) := by
  unfold presenceTrip
  try dsimp only
  repeat (first | with_reducible assumption | exact fun _ => rfl | with_reducible apply kept_haltLift |
            with_reducible apply kept_haltWorks | intro _ _ _ | split)

theorem kept_tripAction {keep : Blocks} {base : State} (n : MonitorId) (hbridge : keep.bridge = true)
    (hlift : keep.lift = true) (hclamp : keep.clamp = true) (hfmu : keep.fmu = true) (hgbc : keep.gbc = true)
    (hpmu : keep.pmu = true) (htpe : keep.tpe = true) (htcu : keep.tcu = true) (hspindle : keep.spindle = true)
    (hahs : keep.ahs = true) {s : State} (h : Kept keep base s) :
    Kept keep base (tripAction n s) := by
  cases n <;> unfold tripAction <;> dsimp only <;>
    first
    | (with_reducible apply kept_liftTrip) <;> with_reducible assumption
    | (with_reducible apply kept_failClamp) <;> with_reducible assumption
    | (with_reducible apply kept_slipTrip) <;> with_reducible assumption
    | (with_reducible apply kept_forceTrip) <;> with_reducible assumption
    | (with_reducible apply kept_overtravelTrip) <;> with_reducible assumption
    | (with_reducible apply kept_presenceTrip) <;> with_reducible assumption

theorem kept_trip {keep : Blocks} {base : State} (m : MonitorId) (hbridge : keep.bridge = true)
    (hlift : keep.lift = true) (hclamp : keep.clamp = true) (hfmu : keep.fmu = true) (hgbc : keep.gbc = true)
    (hpmu : keep.pmu = true) (htpe : keep.tpe = true) (htcu : keep.tcu = true) (hspindle : keep.spindle = true)
    (hahs : keep.ahs = true) {s : State} (h : Kept keep base s) :
    Kept keep base (trip m s) := by
  unfold trip
  try dsimp only
  repeat (first | with_reducible assumption | exact fun _ => rfl | with_reducible apply kept_modMonitor |
            with_reducible apply kept_tripAction | intro _ _ _ | split)

theorem kept_strokeStart {keep : Blocks} {base : State} (m : MonitorId) (hbridge : keep.bridge = true)
    (hlift : keep.lift = true) (hclamp : keep.clamp = true) (hfmu : keep.fmu = true) (hgbc : keep.gbc = true)
    (hpmu : keep.pmu = true) (htpe : keep.tpe = true) (htcu : keep.tcu = true) (hspindle : keep.spindle = true)
    (hahs : keep.ahs = true) {s : State} (h : Kept keep base s) :
    Kept keep base (strokeStart m s) := by
  unfold strokeStart
  try dsimp only
  repeat (first | with_reducible assumption | exact fun _ => rfl | with_reducible apply kept_modMonitor |
            with_reducible apply kept_handCondition | with_reducible apply kept_trip | intro _ _ _ | split)

theorem kept_liftStroke {keep : Blocks} {base : State} (hbridge : keep.bridge = true) (hlift : keep.lift = true)
    (hclamp : keep.clamp = true) (hfmu : keep.fmu = true) (hgbc : keep.gbc = true) (hpmu : keep.pmu = true)
    (htpe : keep.tpe = true) (htcu : keep.tcu = true) (hspindle : keep.spindle = true) (hahs : keep.ahs = true)
    {s : State} (h : Kept keep base s) :
    Kept keep base (liftStroke s) := by
  unfold liftStroke
  try dsimp only
  repeat (first | with_reducible assumption | exact fun _ => rfl | with_reducible apply kept_strokeStart |
            intro _ _ _ | split)

theorem kept_modeChanged {keep : Blocks} {base : State} (before : MonitorMode) (m : MonitorId)
    (hclamp : keep.clamp = true) (hfmu : keep.fmu = true) {s : State} (h : Kept keep base s) :
    Kept keep base (modeChanged before m s) := by
  unfold modeChanged
  try dsimp only
  repeat (first | with_reducible assumption | exact fun _ => rfl | with_reducible apply kept_modMonitor |
            with_reducible apply kept_forSides | with_reducible apply kept_completeUnconfirmed | intro _ _ _ |
            split)

theorem kept_spindleUp {keep : Blocks} {base : State} (target : Nat) (hbridge : keep.bridge = true)
    (hlift : keep.lift = true) (hclamp : keep.clamp = true) (hfmu : keep.fmu = true) (hgbc : keep.gbc = true)
    (hpmu : keep.pmu = true) (htpe : keep.tpe = true) (htcu : keep.tcu = true) (hspindle : keep.spindle = true)
    (hahs : keep.ahs = true) {s : State} (h : Kept keep base s) :
    Kept keep base (spindleUp target s) := by
  unfold spindleUp
  try dsimp only
  repeat (first | with_reducible assumption | exact fun _ => rfl | with_reducible apply kept_modFmu |
            with_reducible apply kept_modTcu | with_reducible apply kept_strokeStart | intro _ _ _ | split)

theorem kept_runForMeasure {keep : Blocks} {base : State} (hbridge : keep.bridge = true) (hlift : keep.lift = true)
    (hclamp : keep.clamp = true) (hfmu : keep.fmu = true) (hgbc : keep.gbc = true) (hpmu : keep.pmu = true)
    (htpe : keep.tpe = true) (htcu : keep.tcu = true) (hspindle : keep.spindle = true) (hahs : keep.ahs = true)
    {s : State} (h : Kept keep base s) :
    Kept keep base (runForMeasure s) := by
  unfold runForMeasure
  try dsimp only
  repeat (first | with_reducible assumption | exact fun _ => rfl | with_reducible apply kept_supportLost |
            with_reducible apply kept_spindleUp | intro _ _ _ | split)

theorem kept_requestRun {keep : Blocks} {base : State} (hbridge : keep.bridge = true) (hlift : keep.lift = true)
    (hclamp : keep.clamp = true) (hfmu : keep.fmu = true) (hgbc : keep.gbc = true) (hpmu : keep.pmu = true)
    (htpe : keep.tpe = true) (htcu : keep.tcu = true) (hspindle : keep.spindle = true) (hahs : keep.ahs = true)
    {s : State} (h : Kept keep base s) :
    Kept keep base (requestRun s) := by
  unfold requestRun
  try dsimp only
  repeat (first | with_reducible assumption | exact fun _ => rfl | with_reducible apply kept_modTcuRest |
            with_reducible apply kept_supportLost | with_reducible apply kept_runForMeasure | intro _ _ _ | split)

theorem kept_beginCut {keep : Blocks} {base : State} (side : Side) (hbridge : keep.bridge = true)
    (hlift : keep.lift = true) (hclamp : keep.clamp = true) (hfmu : keep.fmu = true) (hgbc : keep.gbc = true)
    (hpmu : keep.pmu = true) (htpe : keep.tpe = true) (htcu : keep.tcu = true) (hspindle : keep.spindle = true)
    (hahs : keep.ahs = true) {s : State} (h : Kept keep base s) :
    Kept keep base (beginCut side s) := by
  unfold beginCut
  try dsimp only
  repeat (first | with_reducible assumption | exact fun _ => rfl | with_reducible apply kept_modHead |
            with_reducible apply kept_strokeStart | intro _ _ _ | split)

end Sys2Proof.Machine
end

