-- ==== Sys2Proof/Laws/KeptCommands.lean ====
section
/-! SUPPORT. What the effect of each command leaves alone. -/

namespace Sys2Proof.Machine

theorem kept_beginTagRead {keep : Blocks} {base : State} (hpil : keep.pil = true) (hgbc : keep.gbc = true)
    {s : State} (h : Kept keep base s) :
    Kept keep base (beginTagRead s) := by
  unfold beginTagRead
  try dsimp only
  repeat (first | with_reducible assumption | exact fun _ => rfl | with_reducible apply kept_modPilRest |
            with_reducible apply kept_place | intro _ _ _ | split)

theorem kept_seatAs {keep : Blocks} {base : State} (i : Identity) (hpil : keep.pil = true)
    (hbridge : keep.bridge = true) (hlift : keep.lift = true) (hclamp : keep.clamp = true) (hfmu : keep.fmu = true)
    (hgbc : keep.gbc = true) (hpmu : keep.pmu = true) (htpe : keep.tpe = true) (htcu : keep.tcu = true)
    (hspindle : keep.spindle = true) (hahs : keep.ahs = true) {s : State} (h : Kept keep base s) :
    Kept keep base (seatAs i s) := by
  unfold seatAs
  try dsimp only
  repeat (first | with_reducible assumption | exact fun _ => rfl | with_reducible apply kept_modPilRest |
            with_reducible apply kept_seatRecord | with_reducible apply kept_strokeStart | intro _ _ _ | split)

theorem kept_replaceIdentity {keep : Blocks} {base : State} (i : Identity) (hpil : keep.pil = true)
    (hpmu : keep.pmu = true) (htpe : keep.tpe = true) (hahs : keep.ahs = true) {s : State} (h : Kept keep base s) :
    Kept keep base (replaceIdentity i s) := by
  unfold replaceIdentity
  try dsimp only
  repeat (first | with_reducible assumption | exact fun _ => rfl | with_reducible apply kept_modPilRest |
            with_reducible apply kept_seatRecord | with_reducible apply kept_endSeating |
            with_reducible apply kept_discardPlan | with_reducible apply kept_clearProfiles | intro _ _ _ | split)

theorem kept_seatValid {keep : Blocks} {base : State} (i : Identity) (force : Bool) (hpil : keep.pil = true)
    (hbridge : keep.bridge = true) (hlift : keep.lift = true) (hclamp : keep.clamp = true) (hfmu : keep.fmu = true)
    (hgbc : keep.gbc = true) (hpmu : keep.pmu = true) (htpe : keep.tpe = true) (htcu : keep.tcu = true)
    (hspindle : keep.spindle = true) (hahs : keep.ahs = true) {s : State} (h : Kept keep base s) :
    Kept keep base (seatValid i force s).2 := by
  unfold seatValid
  try dsimp only
  repeat (first | with_reducible assumption | exact fun _ => rfl | with_reducible apply kept_seatAs |
            with_reducible apply kept_replaceIdentity | with_reducible apply kept_say | intro _ _ _ | split)

theorem kept_seatAxleRequest {keep : Blocks} {base : State} (axleId : AxleId) (wheelType : Nat) (bogieId : BogieId)
    (position : Nat) (force : Bool) (hpil : keep.pil = true) (hbridge : keep.bridge = true)
    (hlift : keep.lift = true) (hclamp : keep.clamp = true) (hfmu : keep.fmu = true) (hgbc : keep.gbc = true)
    (hpmu : keep.pmu = true) (htpe : keep.tpe = true) (htcu : keep.tcu = true) (hspindle : keep.spindle = true)
    (hahs : keep.ahs = true) {s : State} (h : Kept keep base s) :
    Kept keep base (seatAxleRequest axleId wheelType bogieId position force s).2 := by
  unfold seatAxleRequest
  try dsimp only
  repeat (first | with_reducible assumption | exact fun _ => rfl | with_reducible apply kept_seatValid |
            with_reducible apply kept_say | intro _ _ _ | split)

theorem kept_releaseAxleRequest {keep : Blocks} {base : State} (hpil : keep.pil = true) (hgbc : keep.gbc = true)
    (hpmu : keep.pmu = true) (htpe : keep.tpe = true) (htcu : keep.tcu = true) (hahs : keep.ahs = true) {s : State}
    (h : Kept keep base s) :
    Kept keep base (releaseAxleRequest s).2 := by
  unfold releaseAxleRequest
  try dsimp only
  repeat (first | with_reducible assumption | exact fun _ => rfl | with_reducible apply kept_endVisit |
            with_reducible apply kept_say | intro _ _ _ | split)

theorem kept_bridgesTo {keep : Blocks} {base : State} (by' : Owner) (aim : BridgeEnd) (hbridge : keep.bridge = true)
    (hgbc : keep.gbc = true) (hpmu : keep.pmu = true) (htpe : keep.tpe = true) (htcu : keep.tcu = true)
    (hspindle : keep.spindle = true) (hahs : keep.ahs = true) {s : State} (h : Kept keep base s) :
    Kept keep base (bridgesTo by' aim s).2 := by
  unfold bridgesTo
  try dsimp only
  repeat (first | with_reducible assumption | exact fun _ => rfl | with_reducible apply kept_forSides |
            with_reducible apply kept_beginBridge | with_reducible apply kept_say | intro _ _ _ | split)

theorem kept_bridgesRequest {keep : Blocks} {base : State} (direction : Nat) (hbridge : keep.bridge = true)
    (hgbc : keep.gbc = true) (hpmu : keep.pmu = true) (htpe : keep.tpe = true) (htcu : keep.tcu = true)
    (hspindle : keep.spindle = true) (hahs : keep.ahs = true) {s : State} (h : Kept keep base s) :
    Kept keep base (bridgesRequest direction s).2 := by
  unfold bridgesRequest
  try dsimp only
  repeat (first | with_reducible assumption | exact fun _ => rfl | with_reducible apply kept_bridgesTo |
            with_reducible apply kept_say | intro _ _ _ | split)

theorem kept_setBridgeSwitch {keep : Blocks} {base : State} (side : Side) (at' : BridgeEnd) (made : Bool)
    (hbridge : keep.bridge = true) {s : State} (h : Kept keep base s) :
    Kept keep base (setBridgeSwitch side at' made s) := by
  unfold setBridgeSwitch
  try dsimp only
  repeat (first | with_reducible assumption | exact fun _ => rfl | with_reducible apply kept_modBridge |
            intro _ _ _ | split)

theorem kept_bridgeSwitchMade {keep : Blocks} {base : State} (side : Side) (at' : BridgeEnd)
    (hpil : keep.pil = true) (hbridge : keep.bridge = true) (hgbc : keep.gbc = true) (hpmu : keep.pmu = true)
    (htpe : keep.tpe = true) (htcu : keep.tcu = true) (hspindle : keep.spindle = true) (hahs : keep.ahs = true)
    {s : State} (h : Kept keep base s) :
    Kept keep base (bridgeSwitchMade side at' s) := by
  unfold bridgeSwitchMade
  try dsimp only
  repeat (first | with_reducible assumption | exact fun _ => rfl | with_reducible apply kept_modBridge |
            with_reducible apply kept_visitEndIfDue | with_reducible apply kept_bridgeLost |
            with_reducible apply kept_setBridgeSwitch | intro _ _ _ | split)

theorem kept_bridgeSwitchDropped {keep : Blocks} {base : State} (side : Side) (at' : BridgeEnd)
    (hbridge : keep.bridge = true) (hgbc : keep.gbc = true) (hpmu : keep.pmu = true) (htpe : keep.tpe = true)
    (htcu : keep.tcu = true) (hspindle : keep.spindle = true) (hahs : keep.ahs = true) {s : State}
    (h : Kept keep base s) :
    Kept keep base (bridgeSwitchDropped side at' s) := by
  unfold bridgeSwitchDropped
  try dsimp only
  repeat (first | with_reducible assumption | exact fun _ => rfl | with_reducible apply kept_bridgeLost |
            with_reducible apply kept_setBridgeSwitch | intro _ _ _ | split)

theorem kept_bridgeTimeout {keep : Blocks} {base : State} (side : Side) (hbridge : keep.bridge = true) {s : State}
    (h : Kept keep base s) :
    Kept keep base (bridgeTimeout side s) := by
  unfold bridgeTimeout
  try dsimp only
  repeat (first | with_reducible assumption | exact fun _ => rfl | with_reducible apply kept_modBridge |
            intro _ _ _ | split)

theorem kept_sourceRequest {keep : Blocks} {base : State} (group owner : Nat) (hpil : keep.pil = true) {s : State}
    (h : Kept keep base s) :
    Kept keep base (sourceRequest group owner s).2 := by
  unfold sourceRequest
  try dsimp only
  repeat (first | with_reducible assumption | exact fun _ => rfl | with_reducible apply kept_modPilRest |
            with_reducible apply kept_say | intro _ _ _ | split)

theorem kept_setStampRequest {keep : Blocks} {base : State} (stamp : Stamp) (hpil : keep.pil = true) {s : State}
    (h : Kept keep base s) :
    Kept keep base (setStampRequest stamp s).2 := by
  unfold setStampRequest
  try dsimp only
  repeat (first | with_reducible assumption | exact fun _ => rfl | with_reducible apply kept_modPilRest |
            with_reducible apply kept_say | intro _ _ _ | split)

theorem kept_presenceOn {keep : Blocks} {base : State} (hpil : keep.pil = true) (hgbc : keep.gbc = true) {s : State}
    (h : Kept keep base s) :
    Kept keep base (presenceOn s) := by
  unfold presenceOn
  try dsimp only
  repeat (first | with_reducible assumption | exact fun _ => rfl | with_reducible apply kept_modPilRest |
            with_reducible apply kept_beginTagRead | intro _ _ _ | split)

theorem kept_presenceOff {keep : Blocks} {base : State} (hpil : keep.pil = true) (hgbc : keep.gbc = true)
    (hpmu : keep.pmu = true) (htpe : keep.tpe = true) (htcu : keep.tcu = true) (hahs : keep.ahs = true) {s : State}
    (h : Kept keep base s) :
    Kept keep base (presenceOff s) := by
  unfold presenceOff
  try dsimp only
  repeat (first | with_reducible assumption | exact fun _ => rfl | with_reducible apply kept_modPilRest |
            with_reducible apply kept_abandon | with_reducible apply kept_visitEndIfDue | intro _ _ _ | split)

theorem kept_pitStopAsserted {keep : Blocks} {base : State} (hpil : keep.pil = true) (hbridge : keep.bridge = true)
    (hlift : keep.lift = true) (hclamp : keep.clamp = true) (hfmu : keep.fmu = true) (hgbc : keep.gbc = true)
    (hpmu : keep.pmu = true) (htpe : keep.tpe = true) (htcu : keep.tcu = true) (hspindle : keep.spindle = true)
    (hahs : keep.ahs = true) {s : State} (h : Kept keep base s) :
    Kept keep base (pitStopAsserted s) := by
  unfold pitStopAsserted
  try dsimp only
  repeat (first | with_reducible assumption | exact fun _ => rfl | with_reducible apply kept_modPilRest |
            with_reducible apply kept_forSides | with_reducible apply kept_haltBridge |
            with_reducible apply kept_haltLift | with_reducible apply kept_haltWorks | intro _ _ _ | split)

theorem kept_moveLift {keep : Blocks} {base : State} (lift : LiftState) (kind : MoveKind) (target : Nat)
    (hbridge : keep.bridge = true) (hlift : keep.lift = true) (hclamp : keep.clamp = true) (hfmu : keep.fmu = true)
    (hgbc : keep.gbc = true) (hpmu : keep.pmu = true) (htpe : keep.tpe = true) (htcu : keep.tcu = true)
    (hspindle : keep.spindle = true) (hahs : keep.ahs = true) {s : State} (h : Kept keep base s) :
    Kept keep base (moveLift lift kind target s) := by
  unfold moveLift
  try dsimp only
  repeat (first | with_reducible assumption | exact fun _ => rfl | with_reducible apply kept_modBluRest |
            with_reducible apply kept_supportLost | with_reducible apply kept_liftStroke | intro _ _ _ | split)

theorem kept_liftThere {keep : Blocks} {base : State} (height : Nat) (hpil : keep.pil = true)
    (hlift : keep.lift = true) (hgbc : keep.gbc = true) (hpmu : keep.pmu = true) (htpe : keep.tpe = true)
    (htcu : keep.tcu = true) (hahs : keep.ahs = true) {s : State} (h : Kept keep base s) :
    Kept keep base (liftThere height s) := by
  unfold liftThere
  try dsimp only
  repeat (first | with_reducible assumption | exact fun _ => rfl | with_reducible apply kept_modBluRest |
            with_reducible apply kept_restLift | intro _ _ _ | split)

theorem kept_liftTo {keep : Blocks} {base : State} (height : Nat) (clamped : Bool) (hpil : keep.pil = true)
    (hbridge : keep.bridge = true) (hlift : keep.lift = true) (hclamp : keep.clamp = true) (hfmu : keep.fmu = true)
    (hgbc : keep.gbc = true) (hpmu : keep.pmu = true) (htpe : keep.tpe = true) (htcu : keep.tcu = true)
    (hspindle : keep.spindle = true) (hahs : keep.ahs = true) {s : State} (h : Kept keep base s) :
    Kept keep base (liftTo height clamped s).2 := by
  unfold liftTo
  try dsimp only
  repeat (first | with_reducible assumption | exact fun _ => rfl | with_reducible apply kept_moveLift |
            with_reducible apply kept_liftThere | with_reducible apply kept_say | intro _ _ _ | split)

theorem kept_liftRequest {keep : Blocks} {base : State} (height : Nat) (hpil : keep.pil = true)
    (hbridge : keep.bridge = true) (hlift : keep.lift = true) (hclamp : keep.clamp = true) (hfmu : keep.fmu = true)
    (hgbc : keep.gbc = true) (hpmu : keep.pmu = true) (htpe : keep.tpe = true) (htcu : keep.tcu = true)
    (hspindle : keep.spindle = true) (hahs : keep.ahs = true) {s : State} (h : Kept keep base s) :
    Kept keep base (liftRequest height s).2 := by
  unfold liftRequest
  try dsimp only
  repeat (first | with_reducible assumption | exact fun _ => rfl | with_reducible apply kept_liftTo |
            with_reducible apply kept_say | intro _ _ _ | split)

theorem kept_lowerHome {keep : Blocks} {base : State} (hbridge : keep.bridge = true) (hlift : keep.lift = true)
    (hclamp : keep.clamp = true) (hfmu : keep.fmu = true) (hgbc : keep.gbc = true) (hpmu : keep.pmu = true)
    (htpe : keep.tpe = true) (htcu : keep.tcu = true) (hspindle : keep.spindle = true) (hahs : keep.ahs = true)
    {s : State} (h : Kept keep base s) :
    Kept keep base (lowerHome s).2 := by
  unfold lowerHome
  try dsimp only
  repeat (first | with_reducible assumption | exact fun _ => rfl | with_reducible apply kept_modBluRest |
            with_reducible apply kept_moveLift | with_reducible apply kept_say | intro _ _ _ | split)

theorem kept_lowerRequest {keep : Blocks} {base : State} (height : Nat) (hpil : keep.pil = true)
    (hbridge : keep.bridge = true) (hlift : keep.lift = true) (hclamp : keep.clamp = true) (hfmu : keep.fmu = true)
    (hgbc : keep.gbc = true) (hpmu : keep.pmu = true) (htpe : keep.tpe = true) (htcu : keep.tcu = true)
    (hspindle : keep.spindle = true) (hahs : keep.ahs = true) {s : State} (h : Kept keep base s) :
    Kept keep base (lowerRequest height s).2 := by
  unfold lowerRequest
  try dsimp only
  repeat (first | with_reducible assumption | exact fun _ => rfl | with_reducible apply kept_liftTo |
            with_reducible apply kept_lowerHome | with_reducible apply kept_say | intro _ _ _ | split)

theorem kept_takeLoadRequest {keep : Blocks} {base : State} (hpil : keep.pil = true) (hbridge : keep.bridge = true)
    (hlift : keep.lift = true) (hclamp : keep.clamp = true) (hfmu : keep.fmu = true) (hgbc : keep.gbc = true)
    (hpmu : keep.pmu = true) (htpe : keep.tpe = true) (htcu : keep.tcu = true) (hspindle : keep.spindle = true)
    (hahs : keep.ahs = true) {s : State} (h : Kept keep base s) :
    Kept keep base (takeLoadRequest s).2 := by
  unfold takeLoadRequest
  try dsimp only
  repeat (first | with_reducible assumption | exact fun _ => rfl | with_reducible apply kept_restLift |
            with_reducible apply kept_moveLift | with_reducible apply kept_say | intro _ _ _ | split)

theorem kept_haltLiftRequest {keep : Blocks} {base : State} (hpil : keep.pil = true) (hlift : keep.lift = true)
    (hgbc : keep.gbc = true) (hpmu : keep.pmu = true) (htpe : keep.tpe = true) (htcu : keep.tcu = true)
    (hahs : keep.ahs = true) {s : State} (h : Kept keep base s) :
    Kept keep base (haltLiftRequest s).2 := by
  unfold haltLiftRequest
  try dsimp only
  repeat (first | with_reducible assumption | exact fun _ => rfl | with_reducible apply kept_restLift |
            with_reducible apply kept_say | intro _ _ _ | split)

theorem kept_jog {keep : Blocks} {base : State} (button : JogButton) (hbridge : keep.bridge = true)
    (hlift : keep.lift = true) (hclamp : keep.clamp = true) (hfmu : keep.fmu = true) (hgbc : keep.gbc = true)
    (hpmu : keep.pmu = true) (htpe : keep.tpe = true) (htcu : keep.tcu = true) (hspindle : keep.spindle = true)
    (hahs : keep.ahs = true) {s : State} (h : Kept keep base s) :
    Kept keep base (jog button s).2 := by
  unfold jog
  try dsimp only
  repeat (first | with_reducible assumption | exact fun _ => rfl | with_reducible apply kept_moveLift |
            with_reducible apply kept_say | intro _ _ _ | split)

theorem kept_jogRelease {keep : Blocks} {base : State} (button : JogButton) (hpil : keep.pil = true)
    (hlift : keep.lift = true) (hgbc : keep.gbc = true) (hpmu : keep.pmu = true) (htpe : keep.tpe = true)
    (htcu : keep.tcu = true) (hahs : keep.ahs = true) {s : State} (h : Kept keep base s) :
    Kept keep base (jogRelease button s) := by
  unfold jogRelease
  try dsimp only
  repeat (first | with_reducible assumption | exact fun _ => rfl | with_reducible apply kept_restLift |
            intro _ _ _ | split)

theorem kept_clampStroke {keep : Blocks} {base : State} (before : Sides Clamp) (aim : ClampEnd) (side : Side)
    (hbridge : keep.bridge = true) (hlift : keep.lift = true) (hclamp : keep.clamp = true) (hfmu : keep.fmu = true)
    (hgbc : keep.gbc = true) (hpmu : keep.pmu = true) (htpe : keep.tpe = true) (htcu : keep.tcu = true)
    (hspindle : keep.spindle = true) (hahs : keep.ahs = true) {s : State} (h : Kept keep base s) :
    Kept keep base (clampStroke before aim side s) := by
  unfold clampStroke
  try dsimp only
  repeat (first | with_reducible assumption | exact fun _ => rfl | with_reducible apply kept_strokeStart |
            intro _ _ _ | split)

theorem kept_moveClamps {keep : Blocks} {base : State} (aim : ClampEnd) (hbridge : keep.bridge = true)
    (hlift : keep.lift = true) (hclamp : keep.clamp = true) (hfmu : keep.fmu = true) (hgbc : keep.gbc = true)
    (hpmu : keep.pmu = true) (htpe : keep.tpe = true) (htcu : keep.tcu = true) (hspindle : keep.spindle = true)
    (hahs : keep.ahs = true) {s : State} (h : Kept keep base s) :
    Kept keep base (moveClamps aim s) := by
  unfold moveClamps
  try dsimp only
  repeat (first | with_reducible assumption | exact fun _ => rfl | with_reducible apply kept_forSides |
            with_reducible apply kept_beginClamp | with_reducible apply kept_clampStroke | intro _ _ _ | split)

theorem kept_clampsClose {keep : Blocks} {base : State} (by' : Owner) (hbridge : keep.bridge = true)
    (hlift : keep.lift = true) (hclamp : keep.clamp = true) (hfmu : keep.fmu = true) (hgbc : keep.gbc = true)
    (hpmu : keep.pmu = true) (htpe : keep.tpe = true) (htcu : keep.tcu = true) (hspindle : keep.spindle = true)
    (hahs : keep.ahs = true) {s : State} (h : Kept keep base s) :
    Kept keep base (clampsClose by' s).2 := by
  unfold clampsClose
  try dsimp only
  repeat (first | with_reducible assumption | exact fun _ => rfl | with_reducible apply kept_moveClamps |
            with_reducible apply kept_say | intro _ _ _ | split)

theorem kept_clampsOpen {keep : Blocks} {base : State} (by' : Owner) (hpil : keep.pil = true)
    (hbridge : keep.bridge = true) (hlift : keep.lift = true) (hclamp : keep.clamp = true) (hfmu : keep.fmu = true)
    (hgbc : keep.gbc = true) (hpmu : keep.pmu = true) (htpe : keep.tpe = true) (htcu : keep.tcu = true)
    (hspindle : keep.spindle = true) (hahs : keep.ahs = true) {s : State} (h : Kept keep base s) :
    Kept keep base (clampsOpen by' s).2 := by
  unfold clampsOpen
  try dsimp only
  repeat (first | with_reducible assumption | exact fun _ => rfl | with_reducible apply kept_restLift |
            with_reducible apply kept_moveClamps | with_reducible apply kept_say | intro _ _ _ | split)

theorem kept_controlPeriod {keep : Blocks} {base : State} (positions loads : Four Nat) (hpil : keep.pil = true)
    (hbridge : keep.bridge = true) (hlift : keep.lift = true) (hfmu : keep.fmu = true) (hgbc : keep.gbc = true)
    (hpmu : keep.pmu = true) (htpe : keep.tpe = true) (htcu : keep.tcu = true) (hspindle : keep.spindle = true)
    (hahs : keep.ahs = true) {s : State} (h : Kept keep base s) :
    Kept keep base (controlPeriod positions loads s) := by
  unfold controlPeriod
  try dsimp only
  repeat (first | with_reducible assumption | exact fun _ => rfl | with_reducible apply kept_handCondition |
            with_reducible apply kept_guardClearance | with_reducible apply kept_takePositions |
            with_reducible apply kept_takeLoads | with_reducible apply kept_liftPeriod | intro _ _ _ | split)

theorem kept_loadChanged {keep : Blocks} {base : State} (post : Post) (load : Nat) (positions : Four Nat)
    (hpil : keep.pil = true) (hbridge : keep.bridge = true) (hlift : keep.lift = true) (hgbc : keep.gbc = true)
    (hpmu : keep.pmu = true) (htpe : keep.tpe = true) (htcu : keep.tcu = true) (hspindle : keep.spindle = true)
    (hahs : keep.ahs = true) {s : State} (h : Kept keep base s) :
    Kept keep base (loadChanged post load positions s) := by
  unfold loadChanged
  try dsimp only
  repeat (first | with_reducible assumption | exact fun _ => rfl | with_reducible apply kept_guardClearance |
            with_reducible apply kept_takePositions | with_reducible apply kept_takeLoads | intro _ _ _ | split)

theorem kept_setClampSwitch {keep : Blocks} {base : State} (side : Side) (at' : ClampEnd) (made : Bool)
    (hclamp : keep.clamp = true) {s : State} (h : Kept keep base s) :
    Kept keep base (setClampSwitch side at' made s) := by
  unfold setClampSwitch
  try dsimp only
  repeat (first | with_reducible assumption | exact fun _ => rfl | with_reducible apply kept_modClamp |
            intro _ _ _ | split)

theorem kept_clampSwitchMade {keep : Blocks} {base : State} (side : Side) (at' : ClampEnd)
    (hclamp : keep.clamp = true) {s : State} (h : Kept keep base s) :
    Kept keep base (clampSwitchMade side at' s) := by
  unfold clampSwitchMade
  try dsimp only
  repeat (first | with_reducible assumption | exact fun _ => rfl | with_reducible apply kept_completeClamp |
            with_reducible apply kept_setClampSwitch | intro _ _ _ | split)

theorem kept_clampTimeout {keep : Blocks} {base : State} (side : Side) (hclamp : keep.clamp = true) {s : State}
    (h : Kept keep base s) :
    Kept keep base (clampTimeout side s) := by
  unfold clampTimeout
  try dsimp only
  repeat (first | with_reducible assumption | exact fun _ => rfl | with_reducible apply kept_modClamp |
            with_reducible apply kept_completeClamp | with_reducible apply kept_completeUnconfirmed | intro _ _ _ |
            split)

theorem kept_leaveHalted {keep : Blocks} {base : State} (hpil : keep.pil = true) (hlift : keep.lift = true)
    (hgbc : keep.gbc = true) (hpmu : keep.pmu = true) (htpe : keep.tpe = true) (htcu : keep.tcu = true)
    (hahs : keep.ahs = true) {s : State} (h : Kept keep base s) :
    Kept keep base (leaveHalted s) := by
  unfold leaveHalted
  try dsimp only
  repeat (first | with_reducible assumption | exact fun _ => rfl | with_reducible apply kept_visitEndIfDue |
            with_reducible apply kept_restAt | intro _ _ _ | split)

theorem kept_clearFaultRequest {keep : Blocks} {base : State} (set : BitVec 16) (hpil : keep.pil = true)
    (hlift : keep.lift = true) (hfmu : keep.fmu = true) (hgbc : keep.gbc = true) (hpmu : keep.pmu = true)
    (htpe : keep.tpe = true) (htcu : keep.tcu = true) (hahs : keep.ahs = true) {s : State} (h : Kept keep base s) :
    Kept keep base (clearFaultRequest set s).2 := by
  unfold clearFaultRequest
  try dsimp only
  repeat (first | with_reducible assumption | exact fun _ => rfl | with_reducible apply kept_modFmu |
            with_reducible apply kept_leaveHalted | with_reducible apply kept_say | intro _ _ _ | split)

theorem kept_readFaultsRequest {keep : Blocks} {base : State} {s : State} (h : Kept keep base s) :
    Kept keep base (readFaultsRequest s).2 := by
  unfold readFaultsRequest
  try dsimp only
  repeat (first | with_reducible assumption | exact fun _ => rfl | with_reducible apply kept_say | intro _ _ _ |
            split)

theorem kept_deglitchExpiry {keep : Blocks} {base : State} (m : MonitorId) (hbridge : keep.bridge = true)
    (hlift : keep.lift = true) (hclamp : keep.clamp = true) (hfmu : keep.fmu = true) (hgbc : keep.gbc = true)
    (hpmu : keep.pmu = true) (htpe : keep.tpe = true) (htcu : keep.tcu = true) (hspindle : keep.spindle = true)
    (hahs : keep.ahs = true) {s : State} (h : Kept keep base s) :
    Kept keep base (deglitchExpiry m s) := by
  unfold deglitchExpiry
  try dsimp only
  repeat (first | with_reducible assumption | exact fun _ => rfl | with_reducible apply kept_trip | intro _ _ _ |
            split)

theorem kept_seatFromTag {keep : Blocks} {base : State} (axleId : AxleId) (bogieId : BogieId)
    (wheelType position : Nat) (hpil : keep.pil = true) (hbridge : keep.bridge = true) (hlift : keep.lift = true)
    (hclamp : keep.clamp = true) (hfmu : keep.fmu = true) (hgbc : keep.gbc = true) (hpmu : keep.pmu = true)
    (htpe : keep.tpe = true) (htcu : keep.tcu = true) (hspindle : keep.spindle = true) (hahs : keep.ahs = true)
    {s : State} (h : Kept keep base s) :
    Kept keep base (seatFromTag axleId bogieId wheelType position s) := by
  unfold seatFromTag
  try dsimp only
  repeat (first | with_reducible assumption | exact fun _ => rfl | with_reducible apply kept_modPilRest |
            with_reducible apply kept_seatAs | intro _ _ _ | split)

theorem kept_tagAttemptFailed {keep : Blocks} {base : State} (hpil : keep.pil = true) (hgbc : keep.gbc = true)
    {s : State} (h : Kept keep base s) :
    Kept keep base (tagAttemptFailed s) := by
  unfold tagAttemptFailed
  try dsimp only
  repeat (first | with_reducible assumption | exact fun _ => rfl | with_reducible apply kept_modPilRest |
            with_reducible apply kept_place | intro _ _ _ | split)

theorem kept_tagResult {keep : Blocks} {base : State} (result : TxnResult) (data : List Byte)
    (hpil : keep.pil = true) (hbridge : keep.bridge = true) (hlift : keep.lift = true) (hclamp : keep.clamp = true)
    (hfmu : keep.fmu = true) (hgbc : keep.gbc = true) (hpmu : keep.pmu = true) (htpe : keep.tpe = true)
    (htcu : keep.tcu = true) (hspindle : keep.spindle = true) (hahs : keep.ahs = true) {s : State}
    (h : Kept keep base s) :
    Kept keep base (tagResult result data s) := by
  unfold tagResult
  try dsimp only
  repeat (first | with_reducible assumption | exact fun _ => rfl | with_reducible apply kept_seatFromTag |
            with_reducible apply kept_tagAttemptFailed | intro _ _ _ | split)

theorem kept_toTapingLine {keep : Blocks} {base : State} (side : Side) (hgbc : keep.gbc = true)
    (hpmu : keep.pmu = true) (htcu : keep.tcu = true) {s : State} (h : Kept keep base s) :
    Kept keep base (toTapingLine side s) := by
  unfold toTapingLine
  try dsimp only
  repeat (first | with_reducible assumption | exact fun _ => rfl | with_reducible apply kept_modHead |
            with_reducible apply kept_modPmuHead | with_reducible apply kept_place | intro _ _ _ | split)

theorem kept_enterRingWait {keep : Blocks} {base : State} (hbridge : keep.bridge = true) (hlift : keep.lift = true)
    (hclamp : keep.clamp = true) (hfmu : keep.fmu = true) (hgbc : keep.gbc = true) (hpmu : keep.pmu = true)
    (htpe : keep.tpe = true) (htcu : keep.tcu = true) (hspindle : keep.spindle = true) (hahs : keep.ahs = true)
    {s : State} (h : Kept keep base s) :
    Kept keep base (enterRingWait s) := by
  unfold enterRingWait
  try dsimp only
  repeat (first | with_reducible assumption | exact fun _ => rfl | with_reducible apply kept_modPmu |
            with_reducible apply kept_forSides | with_reducible apply kept_requestRun |
            with_reducible apply kept_toTapingLine | intro _ _ _ | split)

theorem kept_takeRim {keep : Blocks} {base : State} (side : Side) (hpmu : keep.pmu = true) {s : State}
    (h : Kept keep base s) :
    Kept keep base (takeRim side s) := by
  unfold takeRim
  try dsimp only
  repeat (first | with_reducible assumption | exact fun _ => rfl | with_reducible apply kept_modPmu | intro _ _ _ |
            split)

theorem kept_sweptHome {keep : Blocks} {base : State} (side : Side) (hgbc : keep.gbc = true)
    (htcu : keep.tcu = true) {s : State} (h : Kept keep base s) :
    Kept keep base (sweptHome side s) := by
  unfold sweptHome
  try dsimp only
  repeat (first | with_reducible assumption | exact fun _ => rfl | with_reducible apply kept_sendProbeHome |
            intro _ _ _ | split)

theorem kept_enterComputing {keep : Blocks} {base : State} (hgbc : keep.gbc = true) (hpmu : keep.pmu = true)
    (htcu : keep.tcu = true) (hspindle : keep.spindle = true) {s : State} (h : Kept keep base s) :
    Kept keep base (enterComputing s) := by
  unfold enterComputing
  try dsimp only
  repeat (first | with_reducible assumption | exact fun _ => rfl | with_reducible apply kept_modPmu |
            with_reducible apply kept_forSides | with_reducible apply kept_finishRun |
            with_reducible apply kept_takeRim | with_reducible apply kept_sweptHome | intro _ _ _ | split)

theorem kept_scanEnd {keep : Blocks} {base : State} (hbridge : keep.bridge = true) (hlift : keep.lift = true)
    (hclamp : keep.clamp = true) (hfmu : keep.fmu = true) (hgbc : keep.gbc = true) (hpmu : keep.pmu = true)
    (htpe : keep.tpe = true) (htcu : keep.tcu = true) (hspindle : keep.spindle = true) (hahs : keep.ahs = true)
    {s : State} (h : Kept keep base s) :
    Kept keep base (scanEnd s) := by
  unfold scanEnd
  try dsimp only
  repeat (first | with_reducible assumption | exact fun _ => rfl | with_reducible apply kept_sweepFail |
            with_reducible apply kept_enterRingWait | with_reducible apply kept_enterComputing | intro _ _ _ |
            split)

theorem kept_workFailed {keep : Blocks} {base : State} (w : Work) (reason : Reason) (side : Side)
    (hfmu : keep.fmu = true) (hgbc : keep.gbc = true) (hpmu : keep.pmu = true) (htpe : keep.tpe = true)
    (htcu : keep.tcu = true) (hspindle : keep.spindle = true) (hahs : keep.ahs = true) {s : State}
    (h : Kept keep base s) :
    Kept keep base (workFailed w reason side s) := by
  unfold workFailed
  try dsimp only
  repeat (first | with_reducible assumption | exact fun _ => rfl | with_reducible apply kept_sweepFail |
            with_reducible apply kept_referenceFailed | intro _ _ _ | split)

theorem kept_modeDone {keep : Blocks} {base : State} (w : Work) (side : Side) (hgbc : keep.gbc = true)
    (hpmu : keep.pmu = true) {s : State} (h : Kept keep base s) :
    Kept keep base (modeDone w side s) := by
  unfold modeDone
  try dsimp only
  repeat (first | with_reducible assumption | exact fun _ => rfl | with_reducible apply kept_modPmuHead |
            with_reducible apply kept_place | intro _ _ _ | split)

theorem kept_listComplete {keep : Blocks} {base : State} (w : Work) (reach : Nat) (side : Side)
    (hbridge : keep.bridge = true) (hlift : keep.lift = true) (hclamp : keep.clamp = true) (hfmu : keep.fmu = true)
    (hgbc : keep.gbc = true) (hpmu : keep.pmu = true) (htpe : keep.tpe = true) (htcu : keep.tcu = true)
    (hspindle : keep.spindle = true) (hahs : keep.ahs = true) (hsst : keep.sst = true) {s : State}
    (h : Kept keep base s) :
    Kept keep base (listComplete w reach side s) := by
  unfold listComplete
  try dsimp only
  repeat (first | with_reducible assumption | exact fun _ => rfl | with_reducible apply kept_modPmuHead |
            with_reducible apply kept_completeReference | with_reducible apply kept_scanEnd | intro _ _ _ | split)

theorem kept_stateRead {keep : Blocks} {base : State} (w : Work) (side : Side) (available flags : Byte)
    (hbridge : keep.bridge = true) (hlift : keep.lift = true) (hclamp : keep.clamp = true) (hfmu : keep.fmu = true)
    (hgbc : keep.gbc = true) (hpmu : keep.pmu = true) (htpe : keep.tpe = true) (htcu : keep.tcu = true)
    (hspindle : keep.spindle = true) (hahs : keep.ahs = true) (hsst : keep.sst = true) {s : State}
    (h : Kept keep base s) :
    Kept keep base (stateRead w side available flags s) := by
  unfold stateRead
  try dsimp only
  repeat (first | with_reducible assumption | exact fun _ => rfl | with_reducible apply kept_modPmuHead |
            with_reducible apply kept_handCondition | with_reducible apply kept_place |
            with_reducible apply kept_workFailed | with_reducible apply kept_listComplete | intro _ _ _ | split)

theorem kept_blockRead {keep : Blocks} {base : State} (w : Work) (side : Side) (data : List Byte)
    (hfmu : keep.fmu = true) (hgbc : keep.gbc = true) (hpmu : keep.pmu = true) (htpe : keep.tpe = true)
    (htcu : keep.tcu = true) (hspindle : keep.spindle = true) (hahs : keep.ahs = true) {s : State}
    (h : Kept keep base s) :
    Kept keep base (blockRead w side data s) := by
  unfold blockRead
  try dsimp only
  repeat (first | with_reducible assumption | exact fun _ => rfl | with_reducible apply kept_modPmuHead |
            with_reducible apply kept_place | with_reducible apply kept_workFailed | intro _ _ _ | split)

theorem kept_pmuResult {keep : Blocks} {base : State} (side : Side) (purpose : Purpose) (result : TxnResult)
    (data : List Byte) (hbridge : keep.bridge = true) (hlift : keep.lift = true) (hclamp : keep.clamp = true)
    (hfmu : keep.fmu = true) (hgbc : keep.gbc = true) (hpmu : keep.pmu = true) (htpe : keep.tpe = true)
    (htcu : keep.tcu = true) (hspindle : keep.spindle = true) (hahs : keep.ahs = true) (hsst : keep.sst = true)
    {s : State} (h : Kept keep base s) :
    Kept keep base (pmuResult side purpose result data s) := by
  unfold pmuResult
  try dsimp only
  repeat (first | with_reducible assumption | exact fun _ => rfl | with_reducible apply kept_workFailed |
            with_reducible apply kept_modeDone | with_reducible apply kept_stateRead |
            with_reducible apply kept_blockRead | intro _ _ _ | split)

theorem kept_handResult {keep : Blocks} {base : State} (t : Txn) (result : TxnResult) (data : List Byte)
    (hpil : keep.pil = true) (hbridge : keep.bridge = true) (hlift : keep.lift = true) (hclamp : keep.clamp = true)
    (hfmu : keep.fmu = true) (hgbc : keep.gbc = true) (hpmu : keep.pmu = true) (htpe : keep.tpe = true)
    (htcu : keep.tcu = true) (hspindle : keep.spindle = true) (hahs : keep.ahs = true) (hsst : keep.sst = true)
    {s : State} (h : Kept keep base s) :
    Kept keep base (handResult t result data s) := by
  unfold handResult
  try dsimp only
  repeat (first | with_reducible assumption | exact fun _ => rfl | with_reducible apply kept_placeKept |
            with_reducible apply kept_tagResult | with_reducible apply kept_pmuResult | intro _ _ _ | split)

theorem kept_busByte {keep : Blocks} {base : State} (value : Byte) (ack : Bool) (hgbc : keep.gbc = true) {s : State}
    (h : Kept keep base s) :
    Kept keep base (busByte value ack s) := by
  unfold busByte
  try dsimp only
  repeat (first | with_reducible assumption | exact fun _ => rfl | with_reducible apply kept_modGbc | intro _ _ _ |
            split)

theorem kept_endTransaction {keep : Blocks} {base : State} (result : TxnResult) (data : List Byte)
    (hpil : keep.pil = true) (hbridge : keep.bridge = true) (hlift : keep.lift = true) (hclamp : keep.clamp = true)
    (hfmu : keep.fmu = true) (hgbc : keep.gbc = true) (hpmu : keep.pmu = true) (htpe : keep.tpe = true)
    (htcu : keep.tcu = true) (hspindle : keep.spindle = true) (hahs : keep.ahs = true) (hsst : keep.sst = true)
    {s : State} (h : Kept keep base s) :
    Kept keep base (endTransaction result data s) := by
  unfold endTransaction
  try dsimp only
  repeat (first | with_reducible assumption | exact fun _ => rfl | with_reducible apply kept_modGbc |
            with_reducible apply kept_beginOldest | with_reducible apply kept_dropFront |
            with_reducible apply kept_handResult | intro _ _ _ | split)

theorem kept_sendRecovery {keep : Blocks} {base : State} (events : List LineEvent) (hgbc : keep.gbc = true) {s : State}
    (h : Kept keep base s) :
    Kept keep base (sendRecovery events s) := by
  unfold sendRecovery
  with_reducible apply kept_modGbc <;> assumption

theorem kept_transactionEnd {keep : Blocks} {base : State} (hpil : keep.pil = true) (hbridge : keep.bridge = true)
    (hlift : keep.lift = true) (hclamp : keep.clamp = true) (hfmu : keep.fmu = true) (hgbc : keep.gbc = true)
    (hpmu : keep.pmu = true) (htpe : keep.tpe = true) (htcu : keep.tcu = true) (hspindle : keep.spindle = true)
    (hahs : keep.ahs = true) (hsst : keep.sst = true) {s : State} (h : Kept keep base s) :
    Kept keep base (transactionEnd s) := by
  unfold transactionEnd
  try dsimp only
  repeat (first | with_reducible assumption | exact fun _ => rfl | with_reducible apply kept_endTransaction |
            with_reducible apply kept_sendRecovery | intro _ _ _ | split)

theorem kept_clockHold {keep : Blocks} {base : State} (hgbc : keep.gbc = true) {s : State} (h : Kept keep base s) :
    Kept keep base (clockHold s) := by
  unfold clockHold
  try dsimp only
  repeat (first | with_reducible assumption | exact fun _ => rfl | with_reducible apply kept_modGbc | intro _ _ _ |
            split)

theorem kept_clockRelease {keep : Blocks} {base : State} (hgbc : keep.gbc = true) {s : State} (h : Kept keep base s) :
    Kept keep base (clockRelease s) := by
  unfold clockRelease
  try dsimp only
  repeat (first | with_reducible assumption | exact fun _ => rfl | with_reducible apply kept_modGbc |
            with_reducible apply kept_sendRecovery | intro _ _ _ | split)

theorem kept_waitExpiry {keep : Blocks} {base : State} (hgbc : keep.gbc = true) {s : State} (h : Kept keep base s) :
    Kept keep base (waitExpiry s) := by
  unfold waitExpiry
  try dsimp only
  repeat (first | with_reducible assumption | exact fun _ => rfl | with_reducible apply kept_modGbc | intro _ _ _ |
            split)

theorem kept_retryFront {keep : Blocks} {base : State} (hpil : keep.pil = true) (hbridge : keep.bridge = true)
    (hlift : keep.lift = true) (hclamp : keep.clamp = true) (hfmu : keep.fmu = true) (hgbc : keep.gbc = true)
    (hpmu : keep.pmu = true) (htpe : keep.tpe = true) (htcu : keep.tcu = true) (hspindle : keep.spindle = true)
    (hahs : keep.ahs = true) (hsst : keep.sst = true) {s : State} (h : Kept keep base s) :
    Kept keep base (retryFront s) := by
  unfold retryFront
  try dsimp only
  repeat (first | with_reducible assumption | exact fun _ => rfl | with_reducible apply kept_modGbc |
            with_reducible apply kept_dropFront | with_reducible apply kept_handResult | intro _ _ _ | split)

theorem kept_arbitrationLoss {keep : Blocks} {base : State} (hpil : keep.pil = true) (hbridge : keep.bridge = true)
    (hlift : keep.lift = true) (hclamp : keep.clamp = true) (hfmu : keep.fmu = true) (hgbc : keep.gbc = true)
    (hpmu : keep.pmu = true) (htpe : keep.tpe = true) (htcu : keep.tcu = true) (hspindle : keep.spindle = true)
    (hahs : keep.ahs = true) (hsst : keep.sst = true) {s : State} (h : Kept keep base s) :
    Kept keep base (arbitrationLoss s) := by
  unfold arbitrationLoss
  try dsimp only
  repeat (first | with_reducible assumption | exact fun _ => rfl | with_reducible apply kept_modGbc |
            with_reducible apply kept_observe | with_reducible apply kept_retryFront | intro _ _ _ | split)

theorem kept_endObservation {keep : Blocks} {base : State} (o : Observation) (hfmu : keep.fmu = true)
    (hgbc : keep.gbc = true) (hpmu : keep.pmu = true) (htcu : keep.tcu = true) {s : State} (h : Kept keep base s) :
    Kept keep base (endObservation o s) := by
  unfold endObservation
  try dsimp only
  repeat (first | with_reducible assumption | exact fun _ => rfl | with_reducible apply kept_modGbc |
            with_reducible apply kept_beginOldest | with_reducible apply kept_handNotices | intro _ _ _ | split)

theorem kept_foreignStopTaken {keep : Blocks} {base : State} (hfmu : keep.fmu = true) (hgbc : keep.gbc = true)
    (hpmu : keep.pmu = true) (htcu : keep.tcu = true) {s : State} (h : Kept keep base s) :
    Kept keep base (foreignStopTaken s) := by
  unfold foreignStopTaken
  try dsimp only
  repeat (first | with_reducible assumption | exact fun _ => rfl | with_reducible apply kept_endObservation |
            intro _ _ _ | split)

theorem kept_unexpectedCondition {keep : Blocks} {base : State} (condition : BusCondition) (hpil : keep.pil = true)
    (hbridge : keep.bridge = true) (hlift : keep.lift = true) (hclamp : keep.clamp = true) (hfmu : keep.fmu = true)
    (hgbc : keep.gbc = true) (hpmu : keep.pmu = true) (htpe : keep.tpe = true) (htcu : keep.tcu = true)
    (hspindle : keep.spindle = true) (hahs : keep.ahs = true) (hsst : keep.sst = true) {s : State}
    (h : Kept keep base s) :
    Kept keep base (unexpectedCondition condition s) := by
  unfold unexpectedCondition
  try dsimp only
  repeat (first | with_reducible assumption | exact fun _ => rfl | with_reducible apply kept_modGbc |
            with_reducible apply kept_observe | with_reducible apply kept_dropFront |
            with_reducible apply kept_handResult | with_reducible apply kept_endTransaction |
            with_reducible apply kept_retryFront | with_reducible apply kept_foreignStopTaken | intro _ _ _ | split)

theorem kept_foreignStart {keep : Blocks} {base : State} (hpil : keep.pil = true) (hbridge : keep.bridge = true)
    (hlift : keep.lift = true) (hclamp : keep.clamp = true) (hfmu : keep.fmu = true) (hgbc : keep.gbc = true)
    (hpmu : keep.pmu = true) (htpe : keep.tpe = true) (htcu : keep.tcu = true) (hspindle : keep.spindle = true)
    (hahs : keep.ahs = true) (hsst : keep.sst = true) {s : State} (h : Kept keep base s) :
    Kept keep base (foreignStart s) := by
  unfold foreignStart
  try dsimp only
  repeat (first | with_reducible assumption | exact fun _ => rfl | with_reducible apply kept_modGbc |
            with_reducible apply kept_observe | with_reducible apply kept_unexpectedCondition | intro _ _ _ | split)

theorem kept_foreignStop {keep : Blocks} {base : State} (hpil : keep.pil = true) (hbridge : keep.bridge = true)
    (hlift : keep.lift = true) (hclamp : keep.clamp = true) (hfmu : keep.fmu = true) (hgbc : keep.gbc = true)
    (hpmu : keep.pmu = true) (htpe : keep.tpe = true) (htcu : keep.tcu = true) (hspindle : keep.spindle = true)
    (hahs : keep.ahs = true) (hsst : keep.sst = true) {s : State} (h : Kept keep base s) :
    Kept keep base (foreignStop s) := by
  unfold foreignStop
  try dsimp only
  repeat (first | with_reducible assumption | exact fun _ => rfl | with_reducible apply kept_foreignStopTaken |
            with_reducible apply kept_unexpectedCondition | intro _ _ _ | split)

theorem kept_quietExpiry {keep : Blocks} {base : State} (hgbc : keep.gbc = true) {s : State} (h : Kept keep base s) :
    Kept keep base (quietExpiry s) := by
  unfold quietExpiry
  try dsimp only
  repeat (first | with_reducible assumption | exact fun _ => rfl | with_reducible apply kept_modGbc | intro _ _ _ |
            split)

theorem kept_resetObservationTimeout {keep : Blocks} {base : State} (hfmu : keep.fmu = true)
    (hgbc : keep.gbc = true) (hpmu : keep.pmu = true) (htcu : keep.tcu = true) {s : State} (h : Kept keep base s) :
    Kept keep base (resetObservationTimeout s) := by
  unfold resetObservationTimeout
  try dsimp only
  repeat (first | with_reducible assumption | exact fun _ => rfl | with_reducible apply kept_endObservation |
            with_reducible apply kept_modGbc | intro _ _ _ | split)

theorem kept_claimHead {keep : Blocks} {base : State} (w : Wheels) (side : Side) (hgbc : keep.gbc = true)
    (hpmu : keep.pmu = true) (htcu : keep.tcu = true) {s : State} (h : Kept keep base s) :
    Kept keep base (claimHead w side s) := by
  unfold claimHead
  try dsimp only
  repeat (first | with_reducible assumption | exact fun _ => rfl | with_reducible apply kept_modHead |
            with_reducible apply kept_modPmuHead | with_reducible apply kept_place | intro _ _ _ | split)

theorem kept_claimStroke {keep : Blocks} {base : State} (w : Wheels) (side : Side) (hbridge : keep.bridge = true)
    (hlift : keep.lift = true) (hclamp : keep.clamp = true) (hfmu : keep.fmu = true) (hgbc : keep.gbc = true)
    (hpmu : keep.pmu = true) (htpe : keep.tpe = true) (htcu : keep.tcu = true) (hspindle : keep.spindle = true)
    (hahs : keep.ahs = true) {s : State} (h : Kept keep base s) :
    Kept keep base (claimStroke w side s) := by
  unfold claimStroke
  try dsimp only
  repeat (first | with_reducible assumption | exact fun _ => rfl | with_reducible apply kept_strokeStart |
            intro _ _ _ | split)

theorem kept_beginSweep {keep : Blocks} {base : State} (w : Wheels) (hbridge : keep.bridge = true)
    (hlift : keep.lift = true) (hclamp : keep.clamp = true) (hfmu : keep.fmu = true) (hgbc : keep.gbc = true)
    (hpmu : keep.pmu = true) (htpe : keep.tpe = true) (htcu : keep.tcu = true) (hspindle : keep.spindle = true)
    (hahs : keep.ahs = true) {s : State} (h : Kept keep base s) :
    Kept keep base (beginSweep w s) := by
  unfold beginSweep
  try dsimp only
  repeat (first | with_reducible assumption | exact fun _ => rfl | with_reducible apply kept_modPmu |
            with_reducible apply kept_forSides | with_reducible apply kept_claimHead |
            with_reducible apply kept_claimStroke | intro _ _ _ | split)

theorem kept_sweepOf {keep : Blocks} {base : State} (w : Wheels) (hbridge : keep.bridge = true)
    (hlift : keep.lift = true) (hclamp : keep.clamp = true) (hfmu : keep.fmu = true) (hgbc : keep.gbc = true)
    (hpmu : keep.pmu = true) (htpe : keep.tpe = true) (htcu : keep.tcu = true) (hspindle : keep.spindle = true)
    (hahs : keep.ahs = true) {s : State} (h : Kept keep base s) :
    Kept keep base (sweepOf w s).2 := by
  unfold sweepOf
  try dsimp only
  repeat (first | with_reducible assumption | exact fun _ => rfl | with_reducible apply kept_beginSweep |
            with_reducible apply kept_say | intro _ _ _ | split)

theorem kept_sweepRequest {keep : Blocks} {base : State} (wheels : Nat) (hbridge : keep.bridge = true)
    (hlift : keep.lift = true) (hclamp : keep.clamp = true) (hfmu : keep.fmu = true) (hgbc : keep.gbc = true)
    (hpmu : keep.pmu = true) (htpe : keep.tpe = true) (htcu : keep.tcu = true) (hspindle : keep.spindle = true)
    (hahs : keep.ahs = true) {s : State} (h : Kept keep base s) :
    Kept keep base (sweepRequest wheels s).2 := by
  unfold sweepRequest
  try dsimp only
  repeat (first | with_reducible assumption | exact fun _ => rfl | with_reducible apply kept_sweepOf |
            with_reducible apply kept_say | intro _ _ _ | split)

theorem kept_haltSweepRequest {keep : Blocks} {base : State} (hfmu : keep.fmu = true) (hgbc : keep.gbc = true)
    (hpmu : keep.pmu = true) (htpe : keep.tpe = true) (htcu : keep.tcu = true) (hspindle : keep.spindle = true)
    (hahs : keep.ahs = true) {s : State} (h : Kept keep base s) :
    Kept keep base (haltSweepRequest s).2 := by
  unfold haltSweepRequest
  try dsimp only
  repeat (first | with_reducible assumption | exact fun _ => rfl | with_reducible apply kept_forSides |
            with_reducible apply kept_sweepFail | with_reducible apply kept_referenceFailed |
            with_reducible apply kept_say | intro _ _ _ | split)

theorem kept_beginReference {keep : Blocks} {base : State} (side : Side) (hbridge : keep.bridge = true)
    (hlift : keep.lift = true) (hclamp : keep.clamp = true) (hfmu : keep.fmu = true) (hgbc : keep.gbc = true)
    (hpmu : keep.pmu = true) (htpe : keep.tpe = true) (htcu : keep.tcu = true) (hspindle : keep.spindle = true)
    (hahs : keep.ahs = true) {s : State} (h : Kept keep base s) :
    Kept keep base (beginReference side s) := by
  unfold beginReference
  try dsimp only
  repeat (first | with_reducible assumption | exact fun _ => rfl | with_reducible apply kept_modHead |
            with_reducible apply kept_modPmuHead | with_reducible apply kept_place |
            with_reducible apply kept_strokeStart | intro _ _ _ | split)

theorem kept_referenceOf {keep : Blocks} {base : State} (side : Side) (hbridge : keep.bridge = true)
    (hlift : keep.lift = true) (hclamp : keep.clamp = true) (hfmu : keep.fmu = true) (hgbc : keep.gbc = true)
    (hpmu : keep.pmu = true) (htpe : keep.tpe = true) (htcu : keep.tcu = true) (hspindle : keep.spindle = true)
    (hahs : keep.ahs = true) {s : State} (h : Kept keep base s) :
    Kept keep base (referenceOf side s).2 := by
  unfold referenceOf
  try dsimp only
  repeat (first | with_reducible assumption | exact fun _ => rfl | with_reducible apply kept_beginReference |
            with_reducible apply kept_say | intro _ _ _ | split)

theorem kept_referenceRequest {keep : Blocks} {base : State} (head : Nat) (hbridge : keep.bridge = true)
    (hlift : keep.lift = true) (hclamp : keep.clamp = true) (hfmu : keep.fmu = true) (hgbc : keep.gbc = true)
    (hpmu : keep.pmu = true) (htpe : keep.tpe = true) (htcu : keep.tcu = true) (hspindle : keep.spindle = true)
    (hahs : keep.ahs = true) {s : State} (h : Kept keep base s) :
    Kept keep base (referenceRequest head s).2 := by
  unfold referenceRequest
  try dsimp only
  repeat (first | with_reducible assumption | exact fun _ => rfl | with_reducible apply kept_referenceOf |
            with_reducible apply kept_say | intro _ _ _ | split)

theorem kept_readProfileRequest {keep : Blocks} {base : State} (wheel : Nat) {s : State} (h : Kept keep base s) :
    Kept keep base (readProfileRequest wheel s).2 := by
  unfold readProfileRequest
  try dsimp only
  repeat (first | with_reducible assumption | exact fun _ => rfl | with_reducible apply kept_say | intro _ _ _ |
            split)

theorem kept_startScan {keep : Blocks} {base : State} (side : Side) (hgbc : keep.gbc = true) {s : State}
    (h : Kept keep base s) :
    Kept keep base (startScan side s) := by
  unfold startScan
  try dsimp only
  repeat (first | with_reducible assumption | exact fun _ => rfl | with_reducible apply kept_place | intro _ _ _ |
            split)

theorem kept_profileScanBegin {keep : Blocks} {base : State} (hgbc : keep.gbc = true) (hpmu : keep.pmu = true)
    {s : State} (h : Kept keep base s) :
    Kept keep base (profileScanBegin s) := by
  unfold profileScanBegin
  try dsimp only
  repeat (first | with_reducible assumption | exact fun _ => rfl | with_reducible apply kept_modPmu |
            with_reducible apply kept_forSides | with_reducible apply kept_startScan | intro _ _ _ | split)

theorem kept_startRing {keep : Blocks} {base : State} (side : Side) (hgbc : keep.gbc = true) {s : State}
    (h : Kept keep base s) :
    Kept keep base (startRing side s) := by
  unfold startRing
  try dsimp only
  repeat (first | with_reducible assumption | exact fun _ => rfl | with_reducible apply kept_place | intro _ _ _ |
            split)

theorem kept_settle {keep : Blocks} {base : State} (hgbc : keep.gbc = true) (hpmu : keep.pmu = true) {s : State}
    (h : Kept keep base s) :
    Kept keep base (settle s) := by
  unfold settle
  try dsimp only
  repeat (first | with_reducible assumption | exact fun _ => rfl | with_reducible apply kept_modPmu |
            with_reducible apply kept_forSides | with_reducible apply kept_startRing | intro _ _ _ | split)

theorem kept_extractionDone {keep : Blocks} {base : State} (hgbc : keep.gbc = true) (hpmu : keep.pmu = true)
    (htpe : keep.tpe = true) (htcu : keep.tcu = true) (hspindle : keep.spindle = true) (hahs : keep.ahs = true)
    {s : State} (h : Kept keep base s) :
    Kept keep base (extractionDone s) := by
  unfold extractionDone
  try dsimp only
  repeat (first | with_reducible assumption | exact fun _ => rfl | with_reducible apply kept_finishExtraction |
            intro _ _ _ | split)

theorem kept_rimReading {keep : Blocks} {base : State} (side : Side) (value : Int) (hpmu : keep.pmu = true)
    {s : State} (h : Kept keep base s) :
    Kept keep base (rimReading side value s) := by
  unfold rimReading
  try dsimp only
  repeat (first | with_reducible assumption | exact fun _ => rfl | with_reducible apply kept_modRim | intro _ _ _ |
            split)

theorem kept_rimFault {keep : Blocks} {base : State} (side : Side) (hpmu : keep.pmu = true) {s : State}
    (h : Kept keep base s) :
    Kept keep base (rimFault side s) := by
  unfold rimFault
  try dsimp only
  repeat (first | with_reducible assumption | exact fun _ => rfl | with_reducible apply kept_modRim | intro _ _ _ |
            split)

theorem kept_rimHoldExpiry {keep : Blocks} {base : State} (side : Side) (hpmu : keep.pmu = true) {s : State}
    (h : Kept keep base s) :
    Kept keep base (rimHoldExpiry side s) := by
  unfold rimHoldExpiry
  try dsimp only
  repeat (first | with_reducible assumption | exact fun _ => rfl | with_reducible apply kept_modRim | intro _ _ _ |
            split)

theorem kept_beginPlan {keep : Blocks} {base : State} (p : PlanInputs) (htpe : keep.tpe = true) {s : State}
    (h : Kept keep base s) :
    Kept keep base (beginPlan p s) := by
  unfold beginPlan
  try dsimp only
  repeat (first | with_reducible assumption | exact fun _ => rfl | with_reducible apply kept_modTpe | intro _ _ _ |
            split)

theorem kept_planRequest {keep : Blocks} {base : State} (htpe : keep.tpe = true) {s : State} (h : Kept keep base s) :
    Kept keep base (planRequest s).2 := by
  unfold planRequest
  try dsimp only
  repeat (first | with_reducible assumption | exact fun _ => rfl | with_reducible apply kept_beginPlan |
            with_reducible apply kept_say | intro _ _ _ | split)

theorem kept_readPlanRequest {keep : Blocks} {base : State} {s : State} (h : Kept keep base s) :
    Kept keep base (readPlanRequest s).2 := by
  unfold readPlanRequest
  try dsimp only
  repeat (first | with_reducible assumption | exact fun _ => rfl | with_reducible apply kept_say | intro _ _ _ |
            split)

theorem kept_computationEnd {keep : Blocks} {base : State} (hpil : keep.pil = true) (htpe : keep.tpe = true)
    (hahs : keep.ahs = true) {s : State} (h : Kept keep base s) :
    Kept keep base (computationEnd s) := by
  unfold computationEnd
  try dsimp only
  repeat (first | with_reducible assumption | exact fun _ => rfl | with_reducible apply kept_drainMarks |
            with_reducible apply kept_computePlan | intro _ _ _ | split)

theorem kept_beginTurning {keep : Blocks} {base : State} (hbridge : keep.bridge = true) (hlift : keep.lift = true)
    (hclamp : keep.clamp = true) (hfmu : keep.fmu = true) (hgbc : keep.gbc = true) (hpmu : keep.pmu = true)
    (htpe : keep.tpe = true) (htcu : keep.tcu = true) (hspindle : keep.spindle = true) (hahs : keep.ahs = true)
    {s : State} (h : Kept keep base s) :
    Kept keep base (beginTurning s) := by
  unfold beginTurning
  try dsimp only
  repeat (first | with_reducible assumption | exact fun _ => rfl | with_reducible apply kept_modPmu |
            with_reducible apply kept_modTpe | with_reducible apply kept_modTcuRest |
            with_reducible apply kept_spindleUp | intro _ _ _ | split)

theorem kept_turnRequest {keep : Blocks} {base : State} (hbridge : keep.bridge = true) (hlift : keep.lift = true)
    (hclamp : keep.clamp = true) (hfmu : keep.fmu = true) (hgbc : keep.gbc = true) (hpmu : keep.pmu = true)
    (htpe : keep.tpe = true) (htcu : keep.tcu = true) (hspindle : keep.spindle = true) (hahs : keep.ahs = true)
    {s : State} (h : Kept keep base s) :
    Kept keep base (turnRequest s).2 := by
  unfold turnRequest
  try dsimp only
  repeat (first | with_reducible assumption | exact fun _ => rfl | with_reducible apply kept_beginTurning |
            with_reducible apply kept_say | intro _ _ _ | split)

theorem kept_pauseRequest {keep : Blocks} {base : State} (htcu : keep.tcu = true) {s : State} (h : Kept keep base s) :
    Kept keep base (pauseRequest s).2 := by
  unfold pauseRequest
  try dsimp only
  repeat (first | with_reducible assumption | exact fun _ => rfl | with_reducible apply kept_pauseTurning |
            with_reducible apply kept_say | intro _ _ _ | split)

theorem kept_resumeTurning {keep : Blocks} {base : State} (hbridge : keep.bridge = true) (hlift : keep.lift = true)
    (hclamp : keep.clamp = true) (hfmu : keep.fmu = true) (hgbc : keep.gbc = true) (hpmu : keep.pmu = true)
    (htpe : keep.tpe = true) (htcu : keep.tcu = true) (hspindle : keep.spindle = true) (hahs : keep.ahs = true)
    {s : State} (h : Kept keep base s) :
    Kept keep base (resumeTurning s) := by
  unfold resumeTurning
  try dsimp only
  repeat (first | with_reducible assumption | exact fun _ => rfl | with_reducible apply kept_modTcuRest |
            with_reducible apply kept_continueCutting | with_reducible apply kept_spindleUp | intro _ _ _ | split)

theorem kept_resumeRequest {keep : Blocks} {base : State} (hbridge : keep.bridge = true) (hlift : keep.lift = true)
    (hclamp : keep.clamp = true) (hfmu : keep.fmu = true) (hgbc : keep.gbc = true) (hpmu : keep.pmu = true)
    (htpe : keep.tpe = true) (htcu : keep.tcu = true) (hspindle : keep.spindle = true) (hahs : keep.ahs = true)
    {s : State} (h : Kept keep base s) :
    Kept keep base (resumeRequest s).2 := by
  unfold resumeRequest
  try dsimp only
  repeat (first | with_reducible assumption | exact fun _ => rfl | with_reducible apply kept_resumeTurning |
            with_reducible apply kept_say | intro _ _ _ | split)

theorem kept_abortRequest {keep : Blocks} {base : State} (hpmu : keep.pmu = true) (htpe : keep.tpe = true)
    (htcu : keep.tcu = true) (hspindle : keep.spindle = true) (hahs : keep.ahs = true) {s : State}
    (h : Kept keep base s) :
    Kept keep base (abortRequest s).2 := by
  unfold abortRequest
  try dsimp only
  repeat (first | with_reducible assumption | exact fun _ => rfl | with_reducible apply kept_endAborted |
            with_reducible apply kept_say | intro _ _ _ | split)

theorem kept_homeOf {keep : Blocks} {base : State} (by' : Owner) (side : Side) (htcu : keep.tcu = true) {s : State}
    (h : Kept keep base s) :
    Kept keep base (homeOf by' side s).2 := by
  unfold homeOf
  try dsimp only
  repeat (first | with_reducible assumption | exact fun _ => rfl | with_reducible apply kept_modHead |
            with_reducible apply kept_say | intro _ _ _ | split)

theorem kept_homeRequest {keep : Blocks} {base : State} (head : Nat) (htcu : keep.tcu = true) {s : State}
    (h : Kept keep base s) :
    Kept keep base (homeRequest head s).2 := by
  unfold homeRequest
  try dsimp only
  repeat (first | with_reducible assumption | exact fun _ => rfl | with_reducible apply kept_homeOf |
            with_reducible apply kept_say | intro _ _ _ | split)

theorem kept_headsHome {keep : Blocks} {base : State} (htcu : keep.tcu = true) {s : State} (h : Kept keep base s) :
    Kept keep base (headsHome s).2 := by
  unfold headsHome
  try dsimp only
  repeat (first | with_reducible assumption | exact fun _ => rfl | with_reducible apply kept_forSides |
            with_reducible apply kept_homeOf | with_reducible apply kept_say | intro _ _ _ | split)

theorem kept_indexEdgeRequest {keep : Blocks} {base : State} (head : Nat) (htcu : keep.tcu = true) {s : State}
    (h : Kept keep base s) :
    Kept keep base (indexEdgeRequest head s).2 := by
  unfold indexEdgeRequest
  try dsimp only
  repeat (first | with_reducible assumption | exact fun _ => rfl | with_reducible apply kept_modHead |
            with_reducible apply kept_say | intro _ _ _ | split)

theorem kept_toolChangedRequest {keep : Blocks} {base : State} (head : Nat) (htcu : keep.tcu = true) {s : State}
    (h : Kept keep base s) :
    Kept keep base (toolChangedRequest head s).2 := by
  unfold toolChangedRequest
  try dsimp only
  repeat (first | with_reducible assumption | exact fun _ => rfl | with_reducible apply kept_modHead |
            with_reducible apply kept_say | intro _ _ _ | split)

theorem kept_cutEvent {keep : Blocks} {base : State} (readings : List Nat) (side : Side) (htcu : keep.tcu = true)
    {s : State} (h : Kept keep base s) :
    Kept keep base (cutEvent readings side s) := by
  unfold cutEvent
  try dsimp only
  repeat (first | with_reducible assumption | exact fun _ => rfl | with_reducible apply kept_modHead |
            with_reducible apply kept_setPass | intro _ _ _ | split)

theorem kept_headEvent {keep : Blocks} {base : State} (readings : List Nat) (side : Side)
    (hbridge : keep.bridge = true) (hlift : keep.lift = true) (hclamp : keep.clamp = true) (hfmu : keep.fmu = true)
    (hgbc : keep.gbc = true) (hpmu : keep.pmu = true) (htpe : keep.tpe = true) (htcu : keep.tcu = true)
    (hspindle : keep.spindle = true) (hahs : keep.ahs = true) {s : State} (h : Kept keep base s) :
    Kept keep base (headEvent readings side s) := by
  unfold headEvent
  try dsimp only
  repeat (first | with_reducible assumption | exact fun _ => rfl | with_reducible apply kept_beginCut |
            with_reducible apply kept_cutEvent | intro _ _ _ | split)

theorem kept_countEvent {keep : Blocks} {base : State} (interval : Nat) (htcu : keep.tcu = true) {s : State}
    (h : Kept keep base s) :
    Kept keep base (countEvent interval s) := by
  unfold countEvent
  try dsimp only
  repeat (first | with_reducible assumption | exact fun _ => rfl | with_reducible apply kept_modTcuRest |
            intro _ _ _ | split)

theorem kept_indexTaken {keep : Blocks} {base : State} (interval : Nat) (forcesL forcesR : List Nat)
    (hbridge : keep.bridge = true) (hlift : keep.lift = true) (hclamp : keep.clamp = true) (hfmu : keep.fmu = true)
    (hgbc : keep.gbc = true) (hpmu : keep.pmu = true) (htpe : keep.tpe = true) (htcu : keep.tcu = true)
    (hspindle : keep.spindle = true) (hahs : keep.ahs = true) {s : State} (h : Kept keep base s) :
    Kept keep base (indexTaken interval forcesL forcesR s) := by
  unfold indexTaken
  try dsimp only
  repeat (first | with_reducible assumption | exact fun _ => rfl | with_reducible apply kept_settle |
            with_reducible apply kept_headEvent | with_reducible apply kept_countEvent | intro _ _ _ | split)

theorem kept_endSlipBlanking {keep : Blocks} {base : State} (target : Nat) (hfmu : keep.fmu = true) {s : State}
    (h : Kept keep base s) :
    Kept keep base (endSlipBlanking target s) := by
  unfold endSlipBlanking
  try dsimp only
  repeat (first | with_reducible assumption | exact fun _ => rfl | with_reducible apply kept_modFmu | intro _ _ _ |
            split)

theorem kept_reachSpeed {keep : Blocks} {base : State} (target : Nat) (hfmu : keep.fmu = true)
    (hpmu : keep.pmu = true) (htpe : keep.tpe = true) (htcu : keep.tcu = true) (hspindle : keep.spindle = true)
    (hahs : keep.ahs = true) {s : State} (h : Kept keep base s) :
    Kept keep base (reachSpeed target s) := by
  unfold reachSpeed
  try dsimp only
  repeat (first | with_reducible assumption | exact fun _ => rfl | with_reducible apply kept_modFmu |
            with_reducible apply kept_modTcu | with_reducible apply kept_beginStep |
            with_reducible apply kept_continueCutting | intro _ _ _ | split)

theorem kept_rollersChanged {keep : Blocks} {base : State} (pairL pairR : Nat) (hfmu : keep.fmu = true)
    (hpmu : keep.pmu = true) (htpe : keep.tpe = true) (htcu : keep.tcu = true) (hspindle : keep.spindle = true)
    (hahs : keep.ahs = true) {s : State} (h : Kept keep base s) :
    Kept keep base (rollersChanged pairL pairR s) := by
  unfold rollersChanged
  try dsimp only
  repeat (first | with_reducible assumption | exact fun _ => rfl | with_reducible apply kept_modTcuRest |
            with_reducible apply kept_endSlipBlanking | with_reducible apply kept_reachSpeed | intro _ _ _ | split)

theorem kept_stopExpiry {keep : Blocks} {base : State} (hbridge : keep.bridge = true) (hlift : keep.lift = true)
    (hclamp : keep.clamp = true) (hfmu : keep.fmu = true) (hgbc : keep.gbc = true) (hpmu : keep.pmu = true)
    (htpe : keep.tpe = true) (htcu : keep.tcu = true) (hspindle : keep.spindle = true) (hahs : keep.ahs = true)
    {s : State} (h : Kept keep base s) :
    Kept keep base (stopExpiry s) := by
  unfold stopExpiry
  try dsimp only
  repeat (first | with_reducible assumption | exact fun _ => rfl | with_reducible apply kept_modTcu |
            with_reducible apply kept_leaveMeasureRun | with_reducible apply kept_leaveEnding |
            with_reducible apply kept_runForMeasure | intro _ _ _ | split)

theorem kept_moveEnded {keep : Blocks} {base : State} (side : Side) (parkSwitch : Bool) (hfmu : keep.fmu = true)
    (hpmu : keep.pmu = true) (htpe : keep.tpe = true) (htcu : keep.tcu = true) (hspindle : keep.spindle = true)
    (hahs : keep.ahs = true) {s : State} (h : Kept keep base s) :
    Kept keep base (moveEnded side parkSwitch s) := by
  unfold moveEnded
  try dsimp only
  repeat (first | with_reducible assumption | exact fun _ => rfl | with_reducible apply kept_modHead |
            with_reducible apply kept_leaveEnding | with_reducible apply kept_stepEnd |
            with_reducible apply kept_headParked | with_reducible apply kept_releaseHead | intro _ _ _ | split)

theorem kept_readHistoryRequest {keep : Blocks} {base : State} (axleId : AxleId) (start : Nat) {s : State}
    (h : Kept keep base s) :
    Kept keep base (readHistoryRequest axleId start s).2 := by
  unfold readHistoryRequest
  try dsimp only
  repeat (first | with_reducible assumption | exact fun _ => rfl | with_reducible apply kept_say | intro _ _ _ |
            split)

theorem kept_listBogieRequest {keep : Blocks} {base : State} (bogieId : BogieId) {s : State} (h : Kept keep base s) :
    Kept keep base (listBogieRequest bogieId s).2 := by
  unfold listBogieRequest
  try dsimp only
  repeat (first | with_reducible assumption | exact fun _ => rfl | with_reducible apply kept_say | intro _ _ _ |
            split)

theorem kept_retire {keep : Blocks} {base : State} (e : IndexEntry) (hahs : keep.ahs = true)
    (hslots : keep.slots = true) {s : State} (h : Kept keep base s) :
    Kept keep base (retire e s) := by
  unfold retire
  try dsimp only
  repeat (first | with_reducible assumption | exact fun _ => rfl | with_reducible apply kept_modAhs | intro _ _ _ |
            split)

theorem kept_retireAxleRequest {keep : Blocks} {base : State} (axleId : AxleId) (hahs : keep.ahs = true)
    (hslots : keep.slots = true) {s : State} (h : Kept keep base s) :
    Kept keep base (retireAxleRequest axleId s).2 := by
  unfold retireAxleRequest
  try dsimp only
  repeat (first | with_reducible assumption | exact fun _ => rfl | with_reducible apply kept_retire |
            with_reducible apply kept_say | intro _ _ _ | split)

theorem kept_correct {keep : Blocks} {base : State} (r : Record) (l d : Option Nat) (hahs : keep.ahs = true)
    {s : State} (h : Kept keep base s) :
    Kept keep base (correct r l d s) := by
  unfold correct
  try dsimp only
  repeat (first | with_reducible assumption | exact fun _ => rfl | with_reducible apply kept_appendTo |
            with_reducible apply kept_makePlace | with_reducible apply kept_openRecord | intro _ _ _ | split)

theorem kept_correctHistoryRequest {keep : Blocks} {base : State} (axleId : AxleId)
    (diameterL diameterR : Option Nat) (hahs : keep.ahs = true) {s : State} (h : Kept keep base s) :
    Kept keep base (correctHistoryRequest axleId diameterL diameterR s).2 := by
  unfold correctHistoryRequest
  try dsimp only
  repeat (first | with_reducible assumption | exact fun _ => rfl | with_reducible apply kept_correct |
            with_reducible apply kept_say | intro _ _ _ | split)

theorem kept_commitRequest {keep : Blocks} {base : State} (hahs : keep.ahs = true) {s : State}
    (h : Kept keep base s) :
    Kept keep base (commitRequest s).2 := by
  unfold commitRequest
  try dsimp only
  repeat (first | with_reducible assumption | exact fun _ => rfl | with_reducible apply kept_queueDirty |
            with_reducible apply kept_say | intro _ _ _ | split)

theorem kept_recordOpened {keep : Blocks} {base : State} (hpil : keep.pil = true) (htpe : keep.tpe = true)
    (hahs : keep.ahs = true) {s : State} (h : Kept keep base s) :
    Kept keep base (recordOpened s) := by
  unfold recordOpened
  try dsimp only
  repeat (first | with_reducible assumption | exact fun _ => rfl | with_reducible apply kept_modAhsRest |
            with_reducible apply kept_openRecord | with_reducible apply kept_linkRecord |
            with_reducible apply kept_processMarks | with_reducible apply kept_drainMarks | intro _ _ _ | split)

theorem kept_commitBegin {keep : Blocks} {base : State} (hpil : keep.pil = true) (htpe : keep.tpe = true)
    (hahs : keep.ahs = true) (hslots : keep.slots = true) {s : State} (h : Kept keep base s) :
    Kept keep base (commitBegin s) := by
  unfold commitBegin
  try dsimp only
  repeat (first | with_reducible assumption | exact fun _ => rfl | with_reducible apply kept_commitFront |
            with_reducible apply kept_drainMarks | intro _ _ _ | split)

theorem kept_slotWritten {keep : Blocks} {base : State} (hahs : keep.ahs = true) {s : State} (h : Kept keep base s) :
    Kept keep base (slotWritten s) := by
  unfold slotWritten
  try dsimp only
  repeat (first | with_reducible assumption | exact fun _ => rfl | with_reducible apply kept_modAhsRest |
            intro _ _ _ | split)

theorem kept_verifyDone {keep : Blocks} {base : State} (agrees : Bool) (hpil : keep.pil = true)
    (htpe : keep.tpe = true) (hahs : keep.ahs = true) (hslots : keep.slots = true) {s : State}
    (h : Kept keep base s) :
    Kept keep base (verifyDone agrees s) := by
  unfold verifyDone
  try dsimp only
  repeat (first | with_reducible assumption | exact fun _ => rfl | with_reducible apply kept_verifyAgrees |
            with_reducible apply kept_verifyDisagrees | with_reducible apply kept_drainMarks |
            with_reducible apply kept_skipRetired | intro _ _ _ | split)

theorem kept_scanEnded {keep : Blocks} {base : State} (badChecks : List Nat) (hahs : keep.ahs = true)
    (hslots : keep.slots = true) {s : State} (h : Kept keep base s) :
    Kept keep base (scanEnded badChecks s) := by
  unfold scanEnded
  try dsimp only
  repeat (first | with_reducible assumption | exact fun _ => rfl | with_reducible apply kept_modAhs | intro _ _ _ |
            split)

theorem kept_thresholdsChanged {keep : Blocks} {base : State} (before : Settings) (hpil : keep.pil = true)
    (hlift : keep.lift = true) (hgbc : keep.gbc = true) (hpmu : keep.pmu = true) (htpe : keep.tpe = true)
    (htcu : keep.tcu = true) (hspindle : keep.spindle = true) (hahs : keep.ahs = true) {s : State}
    (h : Kept keep base s) :
    Kept keep base (thresholdsChanged before s) := by
  unfold thresholdsChanged
  try dsimp only
  repeat (first | with_reducible assumption | exact fun _ => rfl | with_reducible apply kept_zonesAfresh |
            intro _ _ _ | split)

theorem kept_offsetChanged {keep : Blocks} {base : State} (before : Settings) (side : Side) (hpmu : keep.pmu = true)
    {s : State} (h : Kept keep base s) :
    Kept keep base (offsetChanged before side s) := by
  unfold offsetChanged
  try dsimp only
  repeat (first | with_reducible assumption | exact fun _ => rfl | with_reducible apply kept_makeStale |
            intro _ _ _ | split)

theorem kept_feedsChanged {keep : Blocks} {base : State} (before : Settings) (htcu : keep.tcu = true) {s : State}
    (h : Kept keep base s) :
    Kept keep base (feedsChanged before s) := by
  unfold feedsChanged
  try dsimp only
  repeat (first | with_reducible assumption | exact fun _ => rfl | with_reducible apply kept_modTcuRest |
            intro _ _ _ | split)

theorem kept_edgeLifeChanged {keep : Blocks} {base : State} (before : Settings) (htcu : keep.tcu = true) {s : State}
    (h : Kept keep base s) :
    Kept keep base (edgeLifeChanged before s) := by
  unfold edgeLifeChanged
  try dsimp only
  repeat (first | with_reducible assumption | exact fun _ => rfl | with_reducible apply kept_modTcuRest |
            intro _ _ _ | split)

theorem kept_edgesChanged {keep : Blocks} {base : State} (before : Settings) (htcu : keep.tcu = true) {s : State}
    (h : Kept keep base s) :
    Kept keep base (edgesChanged before s) := by
  unfold edgesChanged
  try dsimp only
  repeat (first | with_reducible assumption | exact fun _ => rfl | with_reducible apply kept_modTcuRest |
            intro _ _ _ | split)

theorem kept_modesChanged {keep : Blocks} {base : State} (before : Settings) (hclamp : keep.clamp = true)
    (hfmu : keep.fmu = true) {s : State} (h : Kept keep base s) :
    Kept keep base (modesChanged before s) := by
  unfold modesChanged
  try dsimp only
  repeat (first | with_reducible assumption | exact fun _ => rfl | with_reducible apply kept_modeChanged |
            with_reducible apply kept_foldl | intro _ _ _ | split)

theorem kept_restartSilence {keep : Blocks} {base : State} (hslp : keep.slp = true) {s : State}
    (h : Kept keep base s) :
    Kept keep base (restartSilence s) := by
  unfold restartSilence
  try dsimp only
  repeat (first | with_reducible assumption | exact fun _ => rfl | with_reducible apply kept_modSlp | intro _ _ _ |
            split)

theorem kept_ownersAct {keep : Blocks} {base : State} (before : Settings) (hpil : keep.pil = true)
    (hlift : keep.lift = true) (hclamp : keep.clamp = true) (hfmu : keep.fmu = true) (hgbc : keep.gbc = true)
    (hpmu : keep.pmu = true) (htpe : keep.tpe = true) (htcu : keep.tcu = true) (hspindle : keep.spindle = true)
    (hahs : keep.ahs = true) {s : State} (h : Kept keep base s) :
    Kept keep base (ownersAct before s) := by
  unfold ownersAct
  try dsimp only
  repeat (first | with_reducible assumption | exact fun _ => rfl | with_reducible apply kept_forSides |
            with_reducible apply kept_thresholdsChanged | with_reducible apply kept_offsetChanged |
            with_reducible apply kept_feedsChanged | with_reducible apply kept_modesChanged | intro _ _ _ | split)

theorem kept_toolsChanged {keep : Blocks} {base : State} (before : Settings) (htcu : keep.tcu = true) {s : State}
    (h : Kept keep base s) :
    Kept keep base (toolsChanged before s) :=
  kept_edgesChanged before htcu (kept_edgeLifeChanged before htcu h)

theorem kept_takeSetting {keep : Blocks} {base : State} (x : Setting) (v : Int) (hpil : keep.pil = true)
    (hlift : keep.lift = true) (hclamp : keep.clamp = true) (hfmu : keep.fmu = true) (hgbc : keep.gbc = true)
    (hpmu : keep.pmu = true) (htpe : keep.tpe = true) (htcu : keep.tcu = true) (hspindle : keep.spindle = true)
    (hahs : keep.ahs = true) (hsst : keep.sst = true) (hslp : keep.slp = true) {s : State} (h : Kept keep base s) :
    Kept keep base (takeSetting x v s) := by
  unfold takeSetting
  try dsimp only
  repeat (first | with_reducible assumption | exact fun _ => rfl | with_reducible apply kept_modSst |
            with_reducible apply kept_planInputChanged | with_reducible apply kept_restartSilence |
            with_reducible apply kept_ownersAct | with_reducible apply kept_toolsChanged | intro _ _ _ |
            split)

theorem kept_setSettingRequest {keep : Blocks} {base : State} (addr : SettingAddr) (value : Int)
    (hpil : keep.pil = true) (hlift : keep.lift = true) (hclamp : keep.clamp = true) (hfmu : keep.fmu = true)
    (hgbc : keep.gbc = true) (hpmu : keep.pmu = true) (htpe : keep.tpe = true) (htcu : keep.tcu = true)
    (hspindle : keep.spindle = true) (hahs : keep.ahs = true) (hsst : keep.sst = true) (hslp : keep.slp = true)
    {s : State} (h : Kept keep base s) :
    Kept keep base (setSettingRequest addr value s).2 := by
  unfold setSettingRequest
  try dsimp only
  repeat (first | with_reducible assumption | exact fun _ => rfl | with_reducible apply kept_takeSetting |
            with_reducible apply kept_say | intro _ _ _ | split)

theorem kept_getSettingRequest {keep : Blocks} {base : State} (source : Nat) (addr : SettingAddr) {s : State}
    (h : Kept keep base s) :
    Kept keep base (getSettingRequest source addr s).2 := by
  unfold getSettingRequest
  try dsimp only
  repeat (first | with_reducible assumption | exact fun _ => rfl | with_reducible apply kept_say | intro _ _ _ |
            split)

theorem kept_storeSettingsRequest {keep : Blocks} {base : State} (autoload : Nat) (hsst : keep.sst = true)
    {s : State} (h : Kept keep base s) :
    Kept keep base (storeSettingsRequest autoload s).2 := by
  unfold storeSettingsRequest
  try dsimp only
  repeat (first | with_reducible assumption | exact fun _ => rfl | with_reducible apply kept_modSst |
            with_reducible apply kept_say | intro _ _ _ | split)

theorem kept_programmingBegin {keep : Blocks} {base : State} (hsst : keep.sst = true) {s : State}
    (h : Kept keep base s) :
    Kept keep base (programmingBegin s) := by
  unfold programmingBegin
  try dsimp only
  repeat (first | with_reducible assumption | exact fun _ => rfl | with_reducible apply kept_modSst | intro _ _ _ |
            split)

theorem kept_readbackDone {keep : Blocks} {base : State} (agrees : Bool) (hsst : keep.sst = true) {s : State}
    (h : Kept keep base s) :
    Kept keep base (readbackDone agrees s) := by
  unfold readbackDone
  try dsimp only
  repeat (first | with_reducible assumption | exact fun _ => rfl | with_reducible apply kept_modSst | intro _ _ _ |
            split)

theorem kept_replaceSettings {keep : Blocks} {base : State} (st : Settings) (outcome : SettingsOutcome)
    (hpil : keep.pil = true) (hlift : keep.lift = true) (hclamp : keep.clamp = true) (hfmu : keep.fmu = true)
    (hgbc : keep.gbc = true) (hpmu : keep.pmu = true) (htpe : keep.tpe = true) (htcu : keep.tcu = true)
    (hspindle : keep.spindle = true) (hahs : keep.ahs = true) (hsst : keep.sst = true) (hslp : keep.slp = true)
    {s : State} (h : Kept keep base s) :
    Kept keep base (replaceSettings st outcome s) := by
  unfold replaceSettings
  try dsimp only
  repeat (first | with_reducible assumption | exact fun _ => rfl | with_reducible apply kept_modSst |
            with_reducible apply kept_planInputChanged | with_reducible apply kept_restartSilence |
            with_reducible apply kept_ownersAct | intro _ _ _ | split)

theorem kept_loadSettingsRequest {keep : Blocks} {base : State} (hpil : keep.pil = true) (hlift : keep.lift = true)
    (hclamp : keep.clamp = true) (hfmu : keep.fmu = true) (hgbc : keep.gbc = true) (hpmu : keep.pmu = true)
    (htpe : keep.tpe = true) (htcu : keep.tcu = true) (hspindle : keep.spindle = true) (hahs : keep.ahs = true)
    (hsst : keep.sst = true) (hslp : keep.slp = true) {s : State} (h : Kept keep base s) :
    Kept keep base (loadSettingsRequest s).2 := by
  unfold loadSettingsRequest
  try dsimp only
  repeat (first | with_reducible assumption | exact fun _ => rfl | with_reducible apply kept_replaceSettings |
            with_reducible apply kept_say | intro _ _ _ | split)

theorem kept_defaultSettingsRequest {keep : Blocks} {base : State} (hpil : keep.pil = true)
    (hlift : keep.lift = true) (hclamp : keep.clamp = true) (hfmu : keep.fmu = true) (hgbc : keep.gbc = true)
    (hpmu : keep.pmu = true) (htpe : keep.tpe = true) (htcu : keep.tcu = true) (hspindle : keep.spindle = true)
    (hahs : keep.ahs = true) (hsst : keep.sst = true) (hslp : keep.slp = true) {s : State} (h : Kept keep base s) :
    Kept keep base (defaultSettingsRequest s).2 := by
  unfold defaultSettingsRequest
  try dsimp only
  repeat (first | with_reducible assumption | exact fun _ => rfl | with_reducible apply kept_replaceSettings |
            with_reducible apply kept_say | intro _ _ _ | split)

theorem kept_statusRequest {keep : Blocks} {base : State} {s : State} (h : Kept keep base s) :
    Kept keep base (statusRequest s).2 := by
  unfold statusRequest
  try dsimp only
  repeat (first | with_reducible assumption | exact fun _ => rfl | with_reducible apply kept_say | intro _ _ _ |
            split)

theorem kept_resumeLinkRequest {keep : Blocks} {base : State} (hslp : keep.slp = true) {s : State}
    (h : Kept keep base s) :
    Kept keep base (resumeLinkRequest s).2 := by
  unfold resumeLinkRequest
  try dsimp only
  repeat (first | with_reducible assumption | exact fun _ => rfl | with_reducible apply kept_modSlp |
            with_reducible apply kept_say | intro _ _ _ | split)

theorem kept_takeReset {keep : Blocks} {base : State} (hpil : keep.pil = true) (htpe : keep.tpe = true)
    (hahs : keep.ahs = true) (hslp : keep.slp = true) {s : State} (h : Kept keep base s) :
    Kept keep base (takeReset s) := by
  unfold takeReset
  try dsimp only
  repeat (first | with_reducible assumption | exact fun _ => rfl | with_reducible apply kept_modSlp |
            with_reducible apply kept_handEntry | with_reducible apply kept_queueDirty |
            with_reducible apply kept_drainMarks | intro _ _ _ | split)

theorem kept_resetRequest {keep : Blocks} {base : State} (hpil : keep.pil = true) (htpe : keep.tpe = true)
    (hahs : keep.ahs = true) (hslp : keep.slp = true) {s : State} (h : Kept keep base s) :
    Kept keep base (resetRequest s).2 := by
  unfold resetRequest
  try dsimp only
  repeat (first | with_reducible assumption | exact fun _ => rfl | with_reducible apply kept_takeReset |
            with_reducible apply kept_say | intro _ _ _ | split)

theorem kept_acceptFrame {keep : Blocks} {base : State} (f : Frame) (hslp : keep.slp = true) {s : State}
    (h : Kept keep base s) :
    Kept keep base (acceptFrame f s) := by
  unfold acceptFrame
  try dsimp only
  repeat (first | with_reducible assumption | exact fun _ => rfl | with_reducible apply kept_modSlp |
            with_reducible apply kept_restartSilence | intro _ _ _ | split)

theorem kept_hunt {keep : Blocks} {base : State} (hslp : keep.slp = true) {s : State} (h : Kept keep base s) :
    Kept keep base (hunt s) := by
  unfold hunt
  try dsimp only
  repeat (first | with_reducible assumption | exact fun _ => rfl | with_reducible apply kept_modSlp | intro _ _ _ |
            split)

theorem kept_inFrame {keep : Blocks} {base : State} (bytes : List Byte) (hslp : keep.slp = true) {s : State}
    (h : Kept keep base s) :
    Kept keep base (inFrame bytes s) := by
  unfold inFrame
  try dsimp only
  repeat (first | with_reducible assumption | exact fun _ => rfl | with_reducible apply kept_modSlp | intro _ _ _ |
            split)

theorem kept_frameByte {keep : Blocks} {base : State} (bytes : List Byte) (value : Byte) (hslp : keep.slp = true)
    {s : State} (h : Kept keep base s) :
    Kept keep base (frameByte bytes value s) := by
  unfold frameByte
  try dsimp only
  repeat (first | with_reducible assumption | exact fun _ => rfl | with_reducible apply kept_acceptFrame |
            with_reducible apply kept_hunt | with_reducible apply kept_inFrame | intro _ _ _ | split)

theorem kept_byteArrived {keep : Blocks} {base : State} (value : Byte) (hslp : keep.slp = true) {s : State}
    (h : Kept keep base s) :
    Kept keep base (byteArrived value s) := by
  unfold byteArrived
  try dsimp only
  repeat (first | with_reducible assumption | exact fun _ => rfl | with_reducible apply kept_inFrame |
            with_reducible apply kept_frameByte | intro _ _ _ | split)

theorem kept_discardPartial {keep : Blocks} {base : State} (hslp : keep.slp = true) {s : State}
    (h : Kept keep base s) :
    Kept keep base (discardPartial s) := by
  unfold discardPartial
  try dsimp only
  repeat (first | with_reducible assumption | exact fun _ => rfl | with_reducible apply kept_hunt | intro _ _ _ |
            split)

theorem kept_sendReply {keep : Blocks} {base : State} (hslp : keep.slp = true) {s : State} (h : Kept keep base s) :
    Kept keep base (sendReply s) := by
  unfold sendReply
  try dsimp only
  repeat (first | with_reducible assumption | exact fun _ => rfl | with_reducible apply kept_modSlp | intro _ _ _ |
            split)

theorem kept_sendReport {keep : Blocks} {base : State} (hslp : keep.slp = true) {s : State} (h : Kept keep base s) :
    Kept keep base (sendReport s) := by
  unfold sendReport
  try dsimp only
  repeat (first | with_reducible assumption | exact fun _ => rfl | with_reducible apply kept_modSlp | intro _ _ _ |
            split)

theorem kept_frameEnded {keep : Blocks} {base : State} (hslp : keep.slp = true) {s : State} (h : Kept keep base s) :
    Kept keep base (frameEnded s) := by
  unfold frameEnded
  try dsimp only
  repeat (first | with_reducible assumption | exact fun _ => rfl | with_reducible apply kept_modSlp |
            with_reducible apply kept_sendReply | with_reducible apply kept_sendReport | intro _ _ _ | split)

theorem kept_holdForSilence {keep : Blocks} {base : State} (hpil : keep.pil = true) (hlift : keep.lift = true)
    (hfmu : keep.fmu = true) (hgbc : keep.gbc = true) (hpmu : keep.pmu = true) (htpe : keep.tpe = true)
    (htcu : keep.tcu = true) (hspindle : keep.spindle = true) (hahs : keep.ahs = true) (hslp : keep.slp = true)
    {s : State} (h : Kept keep base s) :
    Kept keep base (holdForSilence s) := by
  unfold holdForSilence
  try dsimp only
  repeat (first | with_reducible assumption | exact fun _ => rfl | with_reducible apply kept_modSlp |
            with_reducible apply kept_forSides | with_reducible apply kept_rundown |
            with_reducible apply kept_pauseTurning | with_reducible apply kept_sweepFail |
            with_reducible apply kept_referenceFailed | with_reducible apply kept_restLift | intro _ _ _ | split)

theorem kept_silenceExpiry {keep : Blocks} {base : State} (hpil : keep.pil = true) (hlift : keep.lift = true)
    (hfmu : keep.fmu = true) (hgbc : keep.gbc = true) (hpmu : keep.pmu = true) (htpe : keep.tpe = true)
    (htcu : keep.tcu = true) (hspindle : keep.spindle = true) (hahs : keep.ahs = true) (hslp : keep.slp = true)
    {s : State} (h : Kept keep base s) :
    Kept keep base (silenceExpiry s) := by
  unfold silenceExpiry
  try dsimp only
  repeat (first | with_reducible assumption | exact fun _ => rfl | with_reducible apply kept_modSlp |
            with_reducible apply kept_holdForSilence | intro _ _ _ | split)

/-! ## Every command -/

/-- Every part of the state. -/
def Blocks.all : Blocks :=
  ⟨true, true, true, true, true, true, true, true, true, true, true, true, true, true⟩

theorem kept_reply {keep : Blocks} {base : State} (kind tag : Byte) (hslp : keep.slp = true) {x : Answer}
    (h : Kept keep base x.2) : Kept keep base (reply kind tag x) :=
  kept_modSlp _ hslp h

theorem kept_answer {keep : Blocks} {base : State} (kind tag : Byte) {handler : State → Answer}
    (hslp : keep.slp = true) {s : State} (hf : Kept keep base (handler s).2) (h : Kept keep base s) :
    Kept keep base (answer kind tag handler s) := by
  unfold answer
  split
  · exact kept_reply _ _ hslp hf
  · exact h

theorem kept_press {keep : Blocks} {base : State} {handler : State → Answer} {s : State}
    (hf : Kept keep base (handler s).2) (h : Kept keep base s) : Kept keep base (press handler s) := by
  unfold press
  split
  · exact h
  · exact hf

/-- The request of a frame, whichever it is. -/
theorem kept_serve {base : State} (i : Instr) {s : State} (h : Kept .all base s) : Kept .all base (serve i s).2 := by
  cases i <;> unfold serve <;> dsimp only <;>
    first
    | (with_reducible apply kept_seatAxleRequest) <;> first | with_reducible assumption | rfl
    | (with_reducible apply kept_releaseAxleRequest) <;> first | with_reducible assumption | rfl
    | (with_reducible apply kept_bridgesRequest) <;> first | with_reducible assumption | rfl
    | (with_reducible apply kept_sourceRequest) <;> first | with_reducible assumption | rfl
    | (with_reducible apply kept_setStampRequest) <;> first | with_reducible assumption | rfl
    | (with_reducible apply kept_liftRequest) <;> first | with_reducible assumption | rfl
    | (with_reducible apply kept_lowerRequest) <;> first | with_reducible assumption | rfl
    | (with_reducible apply kept_takeLoadRequest) <;> first | with_reducible assumption | rfl
    | (with_reducible apply kept_haltLiftRequest) <;> first | with_reducible assumption | rfl
    | (with_reducible apply kept_clampsClose) <;> first | with_reducible assumption | rfl
    | (with_reducible apply kept_clampsOpen) <;> first | with_reducible assumption | rfl
    | (with_reducible apply kept_clearFaultRequest) <;> first | with_reducible assumption | rfl
    | (with_reducible apply kept_readFaultsRequest) <;> first | with_reducible assumption | rfl
    | (with_reducible apply kept_sweepRequest) <;> first | with_reducible assumption | rfl
    | (with_reducible apply kept_haltSweepRequest) <;> first | with_reducible assumption | rfl
    | (with_reducible apply kept_referenceRequest) <;> first | with_reducible assumption | rfl
    | (with_reducible apply kept_readProfileRequest) <;> first | with_reducible assumption | rfl
    | (with_reducible apply kept_planRequest) <;> first | with_reducible assumption | rfl
    | (with_reducible apply kept_readPlanRequest) <;> first | with_reducible assumption | rfl
    | (with_reducible apply kept_turnRequest) <;> first | with_reducible assumption | rfl
    | (with_reducible apply kept_pauseRequest) <;> first | with_reducible assumption | rfl
    | (with_reducible apply kept_resumeRequest) <;> first | with_reducible assumption | rfl
    | (with_reducible apply kept_abortRequest) <;> first | with_reducible assumption | rfl
    | (with_reducible apply kept_homeRequest) <;> first | with_reducible assumption | rfl
    | (with_reducible apply kept_indexEdgeRequest) <;> first | with_reducible assumption | rfl
    | (with_reducible apply kept_toolChangedRequest) <;> first | with_reducible assumption | rfl
    | (with_reducible apply kept_readHistoryRequest) <;> first | with_reducible assumption | rfl
    | (with_reducible apply kept_listBogieRequest) <;> first | with_reducible assumption | rfl
    | (with_reducible apply kept_retireAxleRequest) <;> first | with_reducible assumption | rfl
    | (with_reducible apply kept_correctHistoryRequest) <;> first | with_reducible assumption | rfl
    | (with_reducible apply kept_commitRequest) <;> first | with_reducible assumption | rfl
    | (with_reducible apply kept_statusRequest) <;> first | with_reducible assumption | rfl
    | (with_reducible apply kept_resumeLinkRequest) <;> first | with_reducible assumption | rfl
    | (with_reducible apply kept_resetRequest) <;> first | with_reducible assumption | rfl
    | (with_reducible apply kept_setSettingRequest) <;> first | with_reducible assumption | rfl
    | (with_reducible apply kept_getSettingRequest) <;> first | with_reducible assumption | rfl
    | (with_reducible apply kept_storeSettingsRequest) <;> first | with_reducible assumption | rfl
    | (with_reducible apply kept_loadSettingsRequest) <;> first | with_reducible assumption | rfl
    | (with_reducible apply kept_defaultSettingsRequest) <;> first | with_reducible assumption | rfl
    | exact h

theorem kept_judge {base : State} (f : Frame) {s : State} (h : Kept .all base s) : Kept .all base (judge f s).2 := by
  unfold judge
  split
  · exact h
  · exact kept_serve _ h

theorem kept_dispatchFront {base : State} {s : State} (h : Kept .all base s) : Kept .all base (dispatchFront s) := by
  unfold dispatchFront
  split
  · split
    · exact h
    · exact kept_reply _ _ rfl (kept_judge _ (kept_modSlp _ rfl h))
  · exact h

theorem linkResetEffect_pending (x : FieldLines) (s : State) : (linkResetEffect x s).pending = s.pending := by
  unfold linkResetEffect
  split
  · show (resetNotices s).pending = s.pending
    have h : Kept .all s (resetNotices s) := by
      have h := Kept.refl .all s
      unfold resetNotices
      repeat (first | with_reducible assumption | rfl | with_reducible apply kept_forSides |
        with_reducible apply kept_headNotice | intro _ _ _ | split)
    exact h.pending
  · rfl

/-- No command but the next step of the queue takes a command from the queue or adds one. -/
theorem effectOf_pending (i : Instr) (s : State) : (effectOf i s).pending = s.pending := by
  suffices h : Kept .all s (effectOf i s) ∨ (effectOf i s).pending = s.pending from h.elim Kept.pending id
  have h := Kept.refl .all s
  cases i
  case seatAxle =>
    refine .inl (kept_answer _ _ rfl ?_ h)
    (with_reducible apply kept_seatAxleRequest) <;> first | with_reducible assumption | rfl
  case releaseAxle =>
    refine .inl (kept_answer _ _ rfl ?_ h)
    (with_reducible apply kept_releaseAxleRequest) <;> first | with_reducible assumption | rfl
  case bridges =>
    refine .inl (kept_answer _ _ rfl ?_ h)
    (with_reducible apply kept_bridgesRequest) <;> first | with_reducible assumption | rfl
  case source =>
    refine .inl (kept_answer _ _ rfl ?_ h)
    (with_reducible apply kept_sourceRequest) <;> first | with_reducible assumption | rfl
  case setStamp =>
    refine .inl (kept_answer _ _ rfl ?_ h)
    (with_reducible apply kept_setStampRequest) <;> first | with_reducible assumption | rfl
  case lift =>
    refine .inl (kept_answer _ _ rfl ?_ h)
    (with_reducible apply kept_liftRequest) <;> first | with_reducible assumption | rfl
  case lower =>
    refine .inl (kept_answer _ _ rfl ?_ h)
    (with_reducible apply kept_lowerRequest) <;> first | with_reducible assumption | rfl
  case takeLoad =>
    refine .inl (kept_answer _ _ rfl ?_ h)
    (with_reducible apply kept_takeLoadRequest) <;> first | with_reducible assumption | rfl
  case haltLift =>
    refine .inl (kept_answer _ _ rfl ?_ h)
    (with_reducible apply kept_haltLiftRequest) <;> first | with_reducible assumption | rfl
  case clampClose =>
    refine .inl (kept_answer _ _ rfl ?_ h)
    (with_reducible apply kept_clampsClose) <;> first | with_reducible assumption | rfl
  case clampOpen =>
    refine .inl (kept_answer _ _ rfl ?_ h)
    (with_reducible apply kept_clampsOpen) <;> first | with_reducible assumption | rfl
  case clearFault =>
    refine .inl (kept_answer _ _ rfl ?_ h)
    (with_reducible apply kept_clearFaultRequest) <;> first | with_reducible assumption | rfl
  case readFaults =>
    refine .inl (kept_answer _ _ rfl ?_ h)
    (with_reducible apply kept_readFaultsRequest) <;> first | with_reducible assumption | rfl
  case sweep =>
    refine .inl (kept_answer _ _ rfl ?_ h)
    (with_reducible apply kept_sweepRequest) <;> first | with_reducible assumption | rfl
  case haltSweep =>
    refine .inl (kept_answer _ _ rfl ?_ h)
    (with_reducible apply kept_haltSweepRequest) <;> first | with_reducible assumption | rfl
  case referenceSweep =>
    refine .inl (kept_answer _ _ rfl ?_ h)
    (with_reducible apply kept_referenceRequest) <;> first | with_reducible assumption | rfl
  case readProfile =>
    refine .inl (kept_answer _ _ rfl ?_ h)
    (with_reducible apply kept_readProfileRequest) <;> first | with_reducible assumption | rfl
  case plan =>
    refine .inl (kept_answer _ _ rfl ?_ h)
    (with_reducible apply kept_planRequest) <;> first | with_reducible assumption | rfl
  case readPlan =>
    refine .inl (kept_answer _ _ rfl ?_ h)
    (with_reducible apply kept_readPlanRequest) <;> first | with_reducible assumption | rfl
  case turn =>
    refine .inl (kept_answer _ _ rfl ?_ h)
    (with_reducible apply kept_turnRequest) <;> first | with_reducible assumption | rfl
  case pause =>
    refine .inl (kept_answer _ _ rfl ?_ h)
    (with_reducible apply kept_pauseRequest) <;> first | with_reducible assumption | rfl
  case resume =>
    refine .inl (kept_answer _ _ rfl ?_ h)
    (with_reducible apply kept_resumeRequest) <;> first | with_reducible assumption | rfl
  case abort =>
    refine .inl (kept_answer _ _ rfl ?_ h)
    (with_reducible apply kept_abortRequest) <;> first | with_reducible assumption | rfl
  case home =>
    refine .inl (kept_answer _ _ rfl ?_ h)
    (with_reducible apply kept_homeRequest) <;> first | with_reducible assumption | rfl
  case indexEdge =>
    refine .inl (kept_answer _ _ rfl ?_ h)
    (with_reducible apply kept_indexEdgeRequest) <;> first | with_reducible assumption | rfl
  case toolChanged =>
    refine .inl (kept_answer _ _ rfl ?_ h)
    (with_reducible apply kept_toolChangedRequest) <;> first | with_reducible assumption | rfl
  case readHistory =>
    refine .inl (kept_answer _ _ rfl ?_ h)
    (with_reducible apply kept_readHistoryRequest) <;> first | with_reducible assumption | rfl
  case listBogie =>
    refine .inl (kept_answer _ _ rfl ?_ h)
    (with_reducible apply kept_listBogieRequest) <;> first | with_reducible assumption | rfl
  case retireAxle =>
    refine .inl (kept_answer _ _ rfl ?_ h)
    (with_reducible apply kept_retireAxleRequest) <;> first | with_reducible assumption | rfl
  case correctHistory =>
    refine .inl (kept_answer _ _ rfl ?_ h)
    (with_reducible apply kept_correctHistoryRequest) <;> first | with_reducible assumption | rfl
  case commit =>
    refine .inl (kept_answer _ _ rfl ?_ h)
    (with_reducible apply kept_commitRequest) <;> first | with_reducible assumption | rfl
  case status =>
    refine .inl (kept_answer _ _ rfl ?_ h)
    (with_reducible apply kept_statusRequest) <;> first | with_reducible assumption | rfl
  case resumeLink =>
    refine .inl (kept_answer _ _ rfl ?_ h)
    (with_reducible apply kept_resumeLinkRequest) <;> first | with_reducible assumption | rfl
  case reset =>
    refine .inl (kept_answer _ _ rfl ?_ h)
    (with_reducible apply kept_resetRequest) <;> first | with_reducible assumption | rfl
  case setSetting =>
    refine .inl (kept_answer _ _ rfl ?_ h)
    (with_reducible apply kept_setSettingRequest) <;> first | with_reducible assumption | rfl
  case getSetting =>
    refine .inl (kept_answer _ _ rfl ?_ h)
    (with_reducible apply kept_getSettingRequest) <;> first | with_reducible assumption | rfl
  case storeSettings =>
    refine .inl (kept_answer _ _ rfl ?_ h)
    (with_reducible apply kept_storeSettingsRequest) <;> first | with_reducible assumption | rfl
  case loadSettings =>
    refine .inl (kept_answer _ _ rfl ?_ h)
    (with_reducible apply kept_loadSettingsRequest) <;> first | with_reducible assumption | rfl
  case defaultSettings =>
    refine .inl (kept_answer _ _ rfl ?_ h)
    (with_reducible apply kept_defaultSettingsRequest) <;> first | with_reducible assumption | rfl
  case powerOnReset => exact .inr rfl
  case pinReset => exact .inr rfl
  case linkResetEffect => exact .inr (linkResetEffect_pending _ s)
  case goodFrame =>
    left
    unfold effectOf
    dsimp only
    (with_reducible apply kept_acceptFrame) <;> first | with_reducible assumption | rfl
  case lineError =>
    left
    unfold effectOf
    dsimp only
    (with_reducible apply kept_discardPartial) <;> first | with_reducible assumption | rfl
  case gapTimerExpiry =>
    left
    show Kept _ _ (if _ then _ else _)
    split
    · exact kept_discardPartial rfl h
    · exact h
  case dispatch => exact .inl (kept_dispatchFront h)
  case sendingReply =>
    left
    show Kept _ _ (if _ then _ else _)
    split
    · exact kept_sendReply rfl h
    · exact h
  case sendingReport =>
    left
    show Kept _ _ (if _ then _ else _)
    split
    · exact kept_sendReport rfl h
    · exact h
  case frameSent =>
    left
    unfold effectOf
    dsimp only
    (with_reducible apply kept_frameEnded) <;> first | with_reducible assumption | rfl
  case silenceTimerExpiry =>
    left
    unfold effectOf
    dsimp only
    (with_reducible apply kept_silenceExpiry) <;> first | with_reducible assumption | rfl
  case presenceOn =>
    left
    unfold effectOf
    dsimp only
    (with_reducible apply kept_presenceOn) <;> first | with_reducible assumption | rfl
  case presenceOff =>
    left
    unfold effectOf
    dsimp only
    (with_reducible apply kept_presenceOff) <;> first | with_reducible assumption | rfl
  case tagReadBegin =>
    left
    unfold effectOf
    dsimp only
    (with_reducible apply kept_beginTagRead) <;> first | with_reducible assumption | rfl
  case bridgeSwitchMade =>
    left
    unfold effectOf
    dsimp only
    (with_reducible apply kept_bridgeSwitchMade) <;> first | with_reducible assumption | rfl
  case bridgeSwitchDropped =>
    left
    unfold effectOf
    dsimp only
    (with_reducible apply kept_bridgeSwitchDropped) <;> first | with_reducible assumption | rfl
  case bridgeTravelTimerExpiry =>
    left
    unfold effectOf
    dsimp only
    (with_reducible apply kept_bridgeTimeout) <;> first | with_reducible assumption | rfl
  case pitStopAsserted =>
    left
    unfold effectOf
    dsimp only
    (with_reducible apply kept_pitStopAsserted) <;> first | with_reducible assumption | rfl
  case pitStopReleased => exact .inl (kept_modPilRest (fun p => { p with pitStop := false }) (fun _ => rfl) rfl h)
  case pendantJogUp =>
    refine .inl (kept_press ?_ h)
    (with_reducible apply kept_jog) <;> first | with_reducible assumption | rfl
  case pendantJogDown =>
    refine .inl (kept_press ?_ h)
    (with_reducible apply kept_jog) <;> first | with_reducible assumption | rfl
  case pendantJogRelease =>
    left
    unfold effectOf
    dsimp only
    (with_reducible apply kept_jogRelease) <;> first | with_reducible assumption | rfl
  case pendantClampsClose =>
    refine .inl (kept_press ?_ h)
    (with_reducible apply kept_clampsClose) <;> first | with_reducible assumption | rfl
  case pendantClampsOpen =>
    refine .inl (kept_press ?_ h)
    (with_reducible apply kept_clampsOpen) <;> first | with_reducible assumption | rfl
  case pendantBridgesIn =>
    refine .inl (kept_press ?_ h)
    (with_reducible apply kept_bridgesTo) <;> first | with_reducible assumption | rfl
  case pendantBridgesOut =>
    refine .inl (kept_press ?_ h)
    (with_reducible apply kept_bridgesTo) <;> first | with_reducible assumption | rfl
  case pendantHeadsHome =>
    refine .inl (kept_press ?_ h)
    (with_reducible apply kept_headsHome) <;> first | with_reducible assumption | rfl
  case liftControlPeriodExpiry =>
    left
    unfold effectOf
    dsimp only
    (with_reducible apply kept_controlPeriod) <;> first | with_reducible assumption | rfl
  case loadChange =>
    left
    unfold effectOf
    dsimp only
    (with_reducible apply kept_loadChanged) <;> first | with_reducible assumption | rfl
  case clampSwitchMade =>
    left
    unfold effectOf
    dsimp only
    (with_reducible apply kept_clampSwitchMade) <;> first | with_reducible assumption | rfl
  case clampSwitchDropped =>
    left
    unfold effectOf
    dsimp only
    (with_reducible apply kept_setClampSwitch) <;> first | with_reducible assumption | rfl
  case clampMoveTimerExpiry =>
    left
    unfold effectOf
    dsimp only
    (with_reducible apply kept_clampTimeout) <;> first | with_reducible assumption | rfl
  case deglitchTimerExpiry =>
    left
    unfold effectOf
    dsimp only
    (with_reducible apply kept_deglitchExpiry) <;> first | with_reducible assumption | rfl
  case gaugeTransactionBegin =>
    left
    unfold effectOf
    dsimp only
    (with_reducible apply kept_beginOldest) <;> first | with_reducible assumption | rfl
  case gaugeTransactionEnd =>
    left
    unfold effectOf
    dsimp only
    (with_reducible apply kept_transactionEnd) <;> first | with_reducible assumption | rfl
  case clockHold =>
    left
    unfold effectOf
    dsimp only
    (with_reducible apply kept_clockHold) <;> first | with_reducible assumption | rfl
  case clockRelease =>
    left
    unfold effectOf
    dsimp only
    (with_reducible apply kept_clockRelease) <;> first | with_reducible assumption | rfl
  case waitTimerExpiry =>
    left
    unfold effectOf
    dsimp only
    (with_reducible apply kept_waitExpiry) <;> first | with_reducible assumption | rfl
  case arbitrationLoss =>
    left
    unfold effectOf
    dsimp only
    (with_reducible apply kept_arbitrationLoss) <;> first | with_reducible assumption | rfl
  case unexpectedStartStop =>
    left
    unfold effectOf
    dsimp only
    (with_reducible apply kept_unexpectedCondition) <;> first | with_reducible assumption | rfl
  case foreignStart =>
    left
    unfold effectOf
    dsimp only
    (with_reducible apply kept_foreignStart) <;> first | with_reducible assumption | rfl
  case foreignStop =>
    left
    unfold effectOf
    dsimp only
    (with_reducible apply kept_foreignStop) <;> first | with_reducible assumption | rfl
  case quietTimerExpiry =>
    left
    unfold effectOf
    dsimp only
    (with_reducible apply kept_quietExpiry) <;> first | with_reducible assumption | rfl
  case resetObservationTimeout =>
    left
    unfold effectOf
    dsimp only
    (with_reducible apply kept_resetObservationTimeout) <;> first | with_reducible assumption | rfl
  case profileScanBegin =>
    left
    unfold effectOf
    dsimp only
    (with_reducible apply kept_profileScanBegin) <;> first | with_reducible assumption | rfl
  case sweepExtractionDone =>
    left
    unfold effectOf
    dsimp only
    (with_reducible apply kept_extractionDone) <;> first | with_reducible assumption | rfl
  case rimTemperatureReading =>
    left
    unfold effectOf
    dsimp only
    (with_reducible apply kept_rimReading) <;> first | with_reducible assumption | rfl
  case rimSensorFault =>
    left
    unfold effectOf
    dsimp only
    (with_reducible apply kept_rimFault) <;> first | with_reducible assumption | rfl
  case rimHoldTimerExpiry =>
    left
    unfold effectOf
    dsimp only
    (with_reducible apply kept_rimHoldExpiry) <;> first | with_reducible assumption | rfl
  case indexEvent =>
    left
    unfold effectOf
    dsimp only
    (with_reducible apply kept_indexTaken) <;> first | with_reducible assumption | rfl
  case rollerSpeedChange =>
    left
    unfold effectOf
    dsimp only
    (with_reducible apply kept_rollersChanged) <;> first | with_reducible assumption | rfl
  case forceReadingChange =>
    left
    unfold effectOf
    dsimp only
    (with_reducible apply kept_modHead) <;> first | with_reducible assumption | rfl
  case stopTimerExpiry =>
    left
    unfold effectOf
    dsimp only
    (with_reducible apply kept_stopExpiry) <;> first | with_reducible assumption | rfl
  case headMoveEnd =>
    left
    unfold effectOf
    dsimp only
    (with_reducible apply kept_moveEnded) <;> first | with_reducible assumption | rfl
  case planComputationEnd =>
    left
    unfold effectOf
    dsimp only
    (with_reducible apply kept_computationEnd) <;> first | with_reducible assumption | rfl
  case recordOpenComplete =>
    left
    unfold effectOf
    dsimp only
    (with_reducible apply kept_recordOpened) <;> first | with_reducible assumption | rfl
  case commitBegin =>
    left
    unfold effectOf
    dsimp only
    (with_reducible apply kept_commitBegin) <;> first | with_reducible assumption | rfl
  case slotWriteDone =>
    left
    unfold effectOf
    dsimp only
    (with_reducible apply kept_slotWritten) <;> first | with_reducible assumption | rfl
  case commitVerifyDone =>
    left
    unfold effectOf
    dsimp only
    (with_reducible apply kept_verifyDone) <;> first | with_reducible assumption | rfl
  case startupScanEnd =>
    left
    unfold effectOf
    dsimp only
    (with_reducible apply kept_scanEnded) <;> first | with_reducible assumption | rfl
  case settingsProgrammingBegin =>
    left
    unfold effectOf
    dsimp only
    (with_reducible apply kept_programmingBegin) <;> first | with_reducible assumption | rfl
  case settingsReadbackDone =>
    left
    unfold effectOf
    dsimp only
    (with_reducible apply kept_readbackDone) <;> first | with_reducible assumption | rfl
  case byteReceived =>
    left
    unfold effectOf
    dsimp only
    (with_reducible apply kept_byteArrived) <;> first | with_reducible assumption | rfl
  case gaugeBusByte =>
    left
    unfold effectOf
    dsimp only
    (with_reducible apply kept_busByte) <;> first | with_reducible assumption | rfl

end Sys2Proof.Machine
end

