-- ==== Sys2Proof/Laws/Slots.lean ====
section
/-! SUPPORT. The slot array: a read after a write, and that every operation on it keeps its canonical form. -/

namespace Sys2Proof.Machine

/-- A write of one slot leaves every other slot. -/
theorem slotAt_putSlot_ne {m n : Nat} (h : m ≠ n) (v : Option Slot) (l : List (Nat × Slot)) :
    slotAt m (putSlot n v l) = slotAt m l := by
  induction l with
  | nil => cases v <;> simp [putSlot, slotAt, h]
  | cons p rest ih =>
    obtain ⟨k, x⟩ := p
    unfold putSlot
    split
    · cases v <;> simp [slotAt, h]
    · split
      · subst k
        cases v <;> simp [slotAt, h]
      · simp only [slotAt, ih]

/-- A canonical array lists no slot below the first it may list. -/
theorem slotAt_below {lo n : Nat} (h : n < lo) : ∀ l : List (Nat × Slot), slotsFrom lo l = true → slotAt n l = none
  | [], _ => rfl
  | (k, x) :: rest, hl => by
    simp only [slotsFrom, Bool.and_eq_true, decide_eq_true_eq] at hl
    have hk : n ≠ k := by omega
    simp only [slotAt, hk, if_false]
    exact slotAt_below (by omega) rest hl.2

/-- A slot read back is the slot that was written. -/
theorem slotAt_putSlot_same (n : Nat) (v : Option Slot) : ∀ (lo : Nat) (l : List (Nat × Slot)), slotsFrom lo l = true →
    slotAt n (putSlot n v l) = v
  | _, [], _ => by cases v <;> simp [putSlot, slotAt]
  | _, (k, x) :: rest, hl => by
    simp only [slotsFrom, Bool.and_eq_true, decide_eq_true_eq] at hl
    unfold putSlot
    split
    · cases v with
      | some y => simp [slotAt]
      | none =>
        have hk : n ≠ k := by omega
        simp only [slotAt, hk, if_false]
        exact slotAt_below (by omega) rest hl.2
    · split
      · cases v with
        | some y => simp [slotAt]
        | none => exact slotAt_below (by omega) rest hl.2
      · rename_i hk
        simp only [slotAt, hk, if_false]
        exact slotAt_putSlot_same n v (k + 1) rest hl.2

theorem slotsFrom_mono {lo hi : Nat} (h : lo ≤ hi) : ∀ l : List (Nat × Slot), slotsFrom hi l = true → slotsFrom lo l = true
  | [], _ => rfl
  | (k, x) :: rest, hl => by
    simp only [slotsFrom, Bool.and_eq_true, decide_eq_true_eq] at hl ⊢
    exact ⟨⟨by omega, hl.1.2⟩, hl.2⟩

theorem slotsFrom_putSlot {n : Nat} (hn : n < Config.slotCount) (v : Option Slot) :
    ∀ (lo : Nat) (l : List (Nat × Slot)), lo ≤ n → slotsFrom lo l = true → slotsFrom lo (putSlot n v l) = true
  | lo, [], h, _ => by cases v <;> simp [putSlot, slotsFrom, h, hn]
  | lo, (k, x) :: rest, h, hl => by
    simp only [slotsFrom, Bool.and_eq_true, decide_eq_true_eq] at hl
    unfold putSlot
    split
    · cases v with
      | some y => simp only [slotsFrom, Bool.and_eq_true, decide_eq_true_eq]; exact ⟨⟨h, hn⟩, ⟨by omega, hl.1.2⟩, hl.2⟩
      | none => simp only [slotsFrom, Bool.and_eq_true, decide_eq_true_eq]; exact hl
    · split
      · subst k
        cases v with
        | some y => simp only [slotsFrom, Bool.and_eq_true, decide_eq_true_eq]; exact ⟨⟨h, hn⟩, hl.2⟩
        | none => exact slotsFrom_mono (by omega) rest hl.2
      · simp only [slotsFrom, Bool.and_eq_true, decide_eq_true_eq]
        exact ⟨hl.1, slotsFrom_putSlot hn v (k + 1) rest (by omega) hl.2⟩

/-- A write of one slot of the array keeps its canonical form. -/
theorem slotsWf_putSlot {n : Nat} (hn : n < Config.slotCount) (v : Option Slot) {l : List (Nat × Slot)}
    (h : slotsWf l = true) : slotsWf (putSlot n v l) = true := slotsFrom_putSlot hn v 0 l (Nat.zero_le n) h

theorem lowestUnlisted_spec : ∀ (lo : Nat) (l : List (Nat × Slot)), slotsFrom lo l = true →
    lo ≤ lowestUnlisted lo l ∧ slotAt (lowestUnlisted lo l) l = none ∧
      ∀ k, lo ≤ k → slotAt k l = none → lowestUnlisted lo l ≤ k
  | lo, [], _ => ⟨Nat.le_refl lo, rfl, fun _ h _ => h⟩
  | lo, (k, x) :: rest, hl => by
    have hl' := hl
    simp only [slotsFrom, Bool.and_eq_true, decide_eq_true_eq] at hl
    unfold lowestUnlisted
    split
    · rename_i hk
      refine ⟨Nat.le_refl lo, ?_, fun _ h _ => h⟩
      have hne : lo ≠ k := by omega
      simp only [slotAt, hne, if_false]
      exact slotAt_below (by omega) rest hl.2
    · rename_i hk
      have hlo : lo = k := by omega
      obtain ⟨h1, h2, h3⟩ := lowestUnlisted_spec (k + 1) rest hl.2
      refine ⟨by omega, ?_, fun j hj hn => ?_⟩
      · have hne : lowestUnlisted (k + 1) rest ≠ k := by omega
        simp only [slotAt, hne, if_false]
        exact h2
      · by_cases hjk : j = k
        · subst j
          simp [slotAt] at hn
        · simp only [slotAt, hjk, if_false] at hn
          exact h3 j (by omega) hn

/-- The free good slot of lowest number lies in the array, is FREE, and every lower slot is not. -/
theorem lowestFree_spec {l : List (Nat × Slot)} {n : Nat} (hw : slotsWf l = true) (h : lowestFree l = some n) :
    n < Config.slotCount ∧ slotAt n l = none ∧ ∀ k, slotAt k l = none → n ≤ k := by
  obtain ⟨_, h2, h3⟩ := lowestUnlisted_spec 0 l hw
  simp only [lowestFree] at h
  split at h
  · rename_i hn
    cases h
    exact ⟨hn, h2, fun k hk => h3 k (Nat.zero_le k) hk⟩
  · cases h

theorem slotsFrom_scanSlots (bads : List Nat) : ∀ (lo : Nat) (l : List (Nat × Slot)), slotsFrom lo l = true →
    slotsFrom lo (scanSlots bads l).1 = true
  | _, [], _ => rfl
  | lo, (k, x) :: rest, hl => by
    simp only [slotsFrom, Bool.and_eq_true, decide_eq_true_eq] at hl
    have ih := slotsFrom_scanSlots bads (k + 1) rest hl.2
    simp only [scanSlots]
    split
    · simp only [slotsFrom, Bool.and_eq_true, decide_eq_true_eq]
      exact ⟨hl.1, ih⟩
    · exact slotsFrom_mono (by omega) _ ih

/-- The start-up scan keeps the canonical form of the array. -/
theorem slotsWf_scanSlots (bads : List Nat) {l : List (Nat × Slot)} (h : slotsWf l = true) :
    slotsWf (scanSlots bads l).1 = true := slotsFrom_scanSlots bads 0 l h

end Sys2Proof.Machine
end

