-- ==== Sys2Proof/Tests/Slice0.lean ====
section
/-! SUPPORT. Tests of the model: ill-formed commands, frames written out by hand, the worked cases of the manual, and for
every statement with hypotheses a witness that meets them. -/

namespace Sys2Proof.Tests

set_option Elab.async false

open Machine

/-! ## Helpers -/

/-- The state after an outcome passes a test. -/
def after (o : Host.Outcome State Fault Refusal) (p : State → Bool) : Bool :=
  match o with
  | .next t => p t
  | .fault _ => false
  | .refused _ => false

/-- A state made settled. -/
def still (s : State) : State := followClear (handConditions s)

/-- The part after its start-up scan, on an empty store. -/
def ground : State := still { State.reset with ahs := { State.reset.ahs with store := .ready } }

def axleA : AxleId := [0x37#8, 0x52#8, 0x43#8, 0x30#8, 0x30#8, 0x34#8, 0x31#8, 0x35#8, 0x32#8, 0x33#8]
def axleB : AxleId := [0x37#8, 0x52#8, 0x43#8, 0x30#8, 0x30#8, 0x34#8, 0x31#8, 0x35#8, 0x32#8, 0x34#8]
def bogieA : BogieId := [0x30#8, 0x41#8, 0x33#8, 0x31#8, 0x42#8, 0x32#8, 0x43#8, 0x30#8]
def recordA : Record := ⟨axleA, 0, bogieA, 1, .inService, ⟨some 910000, some 910100⟩, none, 3980, 1, 5, 65535, []⟩
def recordB : Record := ⟨axleB, 0, bogieA, 2, .inService, ⟨some 893400, some 893650⟩, none, 0, 0, 3, 0, []⟩
def openA : OpenRecord := ⟨recordA, .clean, false⟩

/-- Two axles of one bogie in the store, the first one open. -/
def stored (s : State) : State :=
  s.modAhs fun a =>
    { a with slots := [(0, .valid recordA), (5, .valid recordB)], index := [⟨axleA, some 0⟩, ⟨axleB, some 5⟩], cache := [openA] }

def identityA : Identity := ⟨axleA, 0, bogieA, 1, .tag⟩

/-- The first axle SEATED, its record the seated one. -/
def seated : State :=
  still (((stored ground).modPil fun p =>
    { p with seatState := .seated, presence := true, identity := some identityA, tagState := .read, tagId := some axleA }).modAhs
      fun a => { a with link := .opened axleA })

/-- The lift HOLDING with every post BEARING at a height, the bridges OUT, the clamps as given. -/
def raised (height : Nat) (e : ClampEnd) (s : State) : State :=
  (s.modBlu fun b =>
    { b with
      posts := .each ⟨height, 2500, .bearing, 0⟩
      lift := .holding
      target := height
      clamp := .both ⟨clampAt e, ⟨e == .closed, e == .opened⟩, none, false, .none⟩ }).modPil fun p =>
        { p with bridge := .both ⟨.out, false, ⟨false, true⟩, none, .none⟩ }

/-- The axle in the lathe: lifted, bridges OUT, clamps CLOSED, heads verified with usable tools. -/
def clamped : State :=
  still (((raised 119150 .closed seated).modTcu fun t => { t with head := t.head.map fun h => { h with tool := .usable } }).modPmu
    fun p => { p with head := p.head.map fun h => { h with calibration := .verified } })

/-- The same with the clamps OPEN. -/
def unclamped : State := still (raised 119150 .opened seated)

/-- Three monitors' settings at will. -/
def withMode (m : MonitorId) (mode : MonitorMode) (s : State) : State :=
  s.modSst fun t => { t with active := { t.active with monitorMode := t.active.monitorMode.set mode m } }

/-- A monitor record at will. -/
def withMonitor (m : MonitorId) (f : Monitor → Monitor) (s : State) : State :=
  s.modFmu fun u => { u with monitors := u.monitors.set (f (u.monitors.get m)) m }

def pendantOwns (s : State) : State :=
  s.modPil fun p => { p with owners := ⟨.pendant, .pendant, .pendant, .pendant⟩ }

/-! ## Well-formedness refuses -/

def smallLines : FieldLines where
  presence := false
  pitStop := false
  bridges := .both ⟨true, false⟩
  positions := .each 0
  loads := .each 0
  clamps := .both ⟨false, true⟩
  rollers := .both 0
  parked := .both true
  forces := .both 0
  rims := .both (some 200)
  busHigh := true
  rateStrap := false

theorem test_wf_axleId_length : (Instr.retireAxle 1#8 [0x37#8]).wf = false := by decide
theorem test_wf_bogieId_length : (Instr.listBogie 1#8 axleA).wf = false := by decide
theorem test_wf_field_of_a_byte : (Instr.sweep 1#8 256).wf = false := by decide
theorem test_wf_height_of_four_bytes : (Instr.lift 1#8 4294967296).wf = false := by decide
theorem test_wf_diameter_of_three_bytes : (Instr.correctHistory 1#8 axleA (some 0xFFFFFF) none).wf = false := by decide
theorem test_wf_value_of_four_bytes : (Instr.setSetting 1#8 (.scalar 3 0) 2147483648).wf = false := by decide
theorem test_wf_address_of_bytes : (Instr.getSetting 1#8 0 (.table 0 256 0)).wf = false := by decide
theorem test_wf_payload_fits_a_frame : (Instr.goodFrame ⟨0x48#8, 1#8, List.replicate 249 0#8⟩).wf = false := by decide +kernel
theorem test_wf_positions_in_travel : (Instr.liftControlPeriodExpiry (.each 250001) (.each 0)).wf = false := by decide
theorem test_wf_slot_numbers : (Instr.startupScanEnd [544]).wf = false := by decide
theorem test_wf_lines_fit : (Instr.powerOnReset { smallLines with positions := .each 250001 }).wf = false := by decide
theorem test_wf_accepts : (Instr.lift 1#8 250001).wf = true ∧ (Instr.powerOnReset smallLines).wf = true := by decide

/-! ## Frames written out from 9.1 and 11.2 -/

theorem test_frame_pil : Decode.frame ⟨0x04#8, 7#8, [0x03#8, 0x01#8]⟩ = .ok (.source 7#8 3 1) := by decide
theorem test_frame_blu : Decode.frame ⟨0x10#8, 7#8, [0x00#8, 0x02#8, 0x6D#8, 0x18#8]⟩ = .ok (.lift 7#8 159000) := by decide
theorem test_frame_fmu : Decode.frame ⟨0x20#8, 7#8, [0x10#8, 0x01#8]⟩ = .ok (.clearFault 7#8 0x1001#16) := by decide
theorem test_frame_pmu : Decode.frame ⟨0x28#8, 7#8, [0x02#8]⟩ = .ok (.sweep 7#8 2) := by decide
theorem test_frame_tpe : Decode.frame ⟨0x30#8, 7#8, []⟩ = .ok (.plan 7#8) := by decide
theorem test_frame_tcu : Decode.frame ⟨0x3D#8, 7#8, [0x01#8]⟩ = .ok (.indexEdge 7#8 1) := by decide
theorem test_frame_ahs :
    Decode.frame ⟨0x43#8, 7#8, axleA ++ [0x0D#8, 0xD0#8, 0xA3#8, 0xFF#8, 0xFF#8, 0xFF#8]⟩ =
      .ok (.correctHistory 7#8 axleA (some 905379) none) := by decide
theorem test_frame_slp : Decode.frame ⟨0x4A#8, 7#8, []⟩ = .ok (.reset 7#8) := by decide
theorem test_frame_sst :
    Decode.frame ⟨0x50#8, 7#8, [0x00#8, 0x1E#8, 0x02#8, 0xFF#8, 0xFF#8, 0xFF#8, 0xF1#8]⟩ =
      .ok (.setSetting 7#8 (.scalar 30 2) (-15)) := by decide
theorem test_frame_refused :
    Decode.frame ⟨0x10#8, 7#8, [0x00#8, 0x00#8, 0x01#8]⟩ = .error .badParameter ∧
    Decode.frame ⟨0x16#8, 7#8, []⟩ = .error .unknownRequest := by decide
theorem test_no_word_is_a_command : decodeTableWord 16 0 = none ∧ decodeTableWord 0 0 = none := by decide

/-! ## Worked cases of the manual -/

/-- A power-on reset with the lines at rest leaves the state after reset. -/
theorem test_power_on_reset : after (exec (.powerOnReset smallLines) State.reset) (fun t => t == State.reset) = true := by
  decide +kernel

/-- 2.4.1: four posts rising toward 159,000 µm. -/
def rising : State :=
  still ((raised 41000 .opened seated).modBlu fun b => { b with lift := .rising, kind := some .target, target := 159000 })

theorem test_levelling_2_4_1 :
    after (exec (.liftControlPeriodExpiry ⟨41000, 41300, 40900, 41220⟩ (.each 2500)) rising) (fun t =>
      decide (t.blu.posts.map PostRecord.step = ⟨212, 80, 240, 103⟩)) = true := by decide +kernel

/-- R21: a post leaves BEARING downwards only below 1,950 daN. -/
theorem test_zone_hysteresis :
    after (exec (.loadChange .p1 1950 (.each 41000)) rising) (fun t => t.blu.posts.p1.zone == .bearing) = true ∧
    after (exec (.loadChange .p1 1949 (.each 41000)) rising) (fun t => t.blu.posts.p1.zone == .taking) = true := by
  decide +kernel

/-- 5.4.1: the samples of wheel L that matter. -/
def profileL : List Sample :=
  [⟨18600, 482316⟩, ⟨21000, 480616⟩, ⟨21600, 480016⟩, ⟨29400, 463016⟩, ⟨30000, 462416⟩, ⟨69600, 452740⟩, ⟨70200, 452704⟩]

/-- The end of a sweep of both wheels, each with the samples of 5.4.1, at 31.2 °C. -/
def computing : State :=
  still ((clamped.modPmu fun p =>
    { p with
      phase := .computing
      selected := some .both
      head := p.head.map fun h => { h with profile := profileL, ring := [⟨0, 452890⟩, ⟨1, 452540⟩] }
      taken := .both (some (312, false)) }).modTcu fun t =>
        { t with head := t.head.map fun h => { h with owner := .measure } })

theorem test_extraction_5_4_1 :
    extractSide .l computing = .ok ⟨905432, 29600, 29700, 8400⟩ ∧ d20Of 905432 312 = 905315 ∧ d20Of 905118 296 = 905018 := by
  decide +kernel

theorem test_sweep_done :
    after (exec .sweepExtractionDone computing) (fun t =>
      t.pmu.record.l == .valid ⟨.asFound, 905432, 905315, 29600, 29700, 8400, 350, 312, false, false, false, some .serviceable, 7⟩ &&
      (openFind axleA t).map (fun o => (o.record.lastD.l, o.record.entries.length)) == some (some 905315, 1)) = true := by
  decide +kernel

/-- 5.7.1: head R at the completing read of its reference sweep, offset +4 (R101). -/
def referring : State :=
  still ((({ ground with sst := { ground.sst with active := { ground.sst.active with probeOffset := ⟨0, 4⟩ } } } : State).modPmu
    fun p => { p with head := { p.head with r := { p.head.r with
      reference := .running, modeOk := true, ring := (List.range 128).map fun k => ⟨k, 400029⟩ } } }).modTcu fun t =>
        { t with head := { t.head with r := { t.head.r with owner := .measure, position := .probing } } })

/-- 5.7.1: radii that sum to 51,203,712 and reach code 1 leave the offset −15 and the head VERIFIED. -/
theorem test_reference_5_7_1 :
    let t := completeReference .r 1 referring
    t.sst.active.probeOffset = ⟨0, -15⟩ ∧ t.pmu.head.r.lastReference = .verified ∧
      t.pmu.head.r.calibration = .verified ∧ t.pmu.head.r.reference = .idle := by decide +kernel

/-- The figures of wheel L in 5.4.1, and of wheel R in 6.10. -/
def figuresL : ProfileFigures :=
  ⟨.asFound, 905432, 905315, 29600, 29700, 8400, 350, 312, false, false, false, some .serviceable, 117⟩
def figuresR : ProfileFigures :=
  ⟨.asFound, 905118, 905018, 27400, 31100, 9000, 900, 296, false, false, false, some .serviceable, 117⟩

/-- Both records VALID. -/
def measured : State :=
  still (clamped.modPmu fun p => { p with record := ⟨.valid figuresL, .valid figuresR⟩ })

def inputs : PlanInputs := planInputs identityA ⟨wheelInput figuresL, wheelInput figuresR⟩ measured

theorem test_plan_6_10 :
    let f := planFigures inputs
    f.d20 = ⟨905315, 905018⟩ ∧ f.required = ⟨18200, 9100⟩ ∧ f.target = 887110 ∧ f.depth = ⟨9103, 8954⟩ ∧
    marksDue inputs f.target = [⟨axleB, 889110, axleA⟩] ∧
    ((planCut inputs f).passes.map fun l => l.map Pass.depth) = ⟨[2935, 2934, 2934, 300], [2885, 2885, 2884, 300]⟩ ∧
    (planCut inputs f).steps = 4 ∧ (planCut inputs f).speed = 80 ∧ (planCut inputs f).force = ⟨some 1100, some 1100⟩ := by
  decide +kernel

/-- 6.11: unequal bands and unequal lists. -/
theorem test_plan_6_11 :
    let p : PlanInputs := { inputs with wheel := ⟨{ inputs.wheel.l with temp := 480 }, { inputs.wheel.r with temp := 300 }⟩ }
    let c := planCut p { planFigures p with depth := ⟨4151, 2000⟩ }
    c.passes = ⟨[⟨1284, 1⟩, ⟨1284, 2⟩, ⟨1283, 3⟩, ⟨300, 4⟩], [⟨1700, 3⟩, ⟨300, 4⟩]⟩ ∧ c.steps = 4 ∧ c.speed = 50 ∧
      c.force = ⟨some 700, some 1100⟩ ∧ c.band = ⟨.d, .c⟩ := by decide +kernel

/-- 8.12: the turning and the as-turned sweep of the second visit. -/
theorem test_entries_8_12 :
    let part := fun d : Int => (⟨d, 28000, 32500, 8000, 100, none⟩ : WheelPart)
    let r := { recordB with
      state := .turnDue 889110 axleA, lastD := ⟨some 893390, some 893640⟩, lastWork := some .checked, loss := 4210, turnings := 2 }
    let turned := appendEntry (.turned 889000 ⟨2195, 2320⟩ ⟨2195, 2320⟩ ⟨2, 2⟩ false) 7#32 r
    let once := appendEntry (.checked ⟨some (part 888998), some (part 889004)⟩ false) 7#32 turned
    let twice := appendEntry (.checked ⟨some (part 888996), some (part 889004)⟩ false) 7#32 once
    turned.turnings = 3 ∧ turned.lastWork = some .turned ∧ once.state = .inService ∧ once.loss = 8602 ∧
      once.lastD = ⟨some 888998, some 889004⟩ ∧ twice.loss = 8602 ∧ twice.lastD = ⟨some 888996, some 889004⟩ := by
  decide +kernel

/-- The check value that this CRC gives for the nine digits 1 to 9 (9.1). -/
theorem test_crc : crc16 [0x31#8, 0x32#8, 0x33#8, 0x34#8, 0x35#8, 0x36#8, 0x37#8, 0x38#8, 0x39#8] = 0x29B1#16 := by decide +kernel

/-- The plan of 6.10 READY. -/
def planned : State :=
  still (measured.modTpe fun t =>
    { t with plan := ⟨.ready, none, some (planFigures inputs), some (planCut inputs (planFigures inputs))⟩ })

/-- 7.4.1: the first revolutions of a pass, in both error modes. -/
theorem test_feed_7_4_1 :
    let h := fun f => { planned.tcu.head.l with feed := f }
    let st := planned.sst.active
    let one := { st with feedMode := ErrorMode.oneStep }
    newFeed st 1100 [1180] (h 500) = 480 ∧ newFeed st 1100 [1130] (h 480) = 473 ∧ newFeed st 1100 [1090] (h 473) = 475 ∧
    newFeed one 1100 [1180] (h 500) = 490 ∧ newFeed one 1100 [1130] (h 490) = 480 ∧ newFeed one 1100 [1090] (h 480) = 490 := by
  decide +kernel

/-- A turning of the plan, with a TCU state and a spindle at will; its heads owned by it. -/
def turningWith (state : TcuState) (spindle : Spindle) : State :=
  ((planned.modTcu fun t =>
    { t with
      state := state
      spindle := spindle
      head := t.head.map fun h => { h with owner := .turn }
      progress := some (newProgress planned) }).modTpe fun t => { t with plan := { t.plan with state := .inUse } }).modPmu
        fun p => { p with record := p.record.map ProfileRecord.supersede }

/-- The spindle running up at the start of a turning. -/
def runningUp : State := still (turningWith .runup (.runup 80))

/-- Step 1: head L in the cut, head R done with its pass. -/
def cutting : State :=
  still ((turningWith .cutting (.atSpeed 80)).modTcu fun t =>
    { t with
      rollerSpeed := 80000
      head := ⟨{ t.head.l with position := .inCut, passIndex := some 1, zDone := some 0, remaining := some 270 },
        { t.head.r with position := .atWork, passIndex := some 1 }⟩
      progress := some ⟨1, ⟨[.active, .pending, .pending, .pending], [.complete, .pending, .pending, .pending]⟩, 135000⟩ })

/-- The same turning PAUSED by a request, head L withdrawn. -/
def paused (spindle : Spindle) : State :=
  still (cutting.modTcu fun t =>
    { t with
      state := .paused .pause
      spindle := spindle
      head := { t.head with l := { t.head.l with position := .retracted, zDone := none, remaining := none } }
      progress := some ⟨1, ⟨[.incomplete, .pending, .pending, .pending], [.complete, .pending, .pending, .pending]⟩, 135000⟩ })

/-- The same turning PAUSED in a step and with the statuses of the passes at will, both heads
AT_WORK. -/
def pausedIn (step : Nat) (l r : List PassStatus) (spindle : Spindle) : State :=
  still ((paused spindle).modTcu fun t =>
    { t with
      head := t.head.map fun h => { h with position := .atWork, dest := none, passIndex := some step }
      progress := some ⟨step, ⟨l, r⟩, 135000⟩ })

/-- R126 with the lists of 6.10: the second pass of wheel L starts 2,934 µm below the 2,935 µm that the first has cut. -/
theorem test_recut_start :
    after (exec (.resume 9#8) (pausedIn 2 [.complete, .incomplete, .pending, .pending]
        [.complete, .complete, .pending, .pending] (.atSpeed 80))) (fun t =>
      t.tcu.head.l.passStart == some ⟨0, 2935, 2934⟩ && t.tcu.head.r.passStart == none) = true := by decide +kernel

/-- R126, R137: at AT_SPEED a head with a WORN tool stays PARKED, its first pass PENDING, while the other begins; after a
PAUSE and a change of its tool, RESUME begins that pass. -/
theorem test_worn_tool_holds_pass :
    let worn := fun tool => still ((runningUp.modTcu fun t => { t with head := ⟨{ t.head.l with tool := tool }, t.head.r⟩ }))
    after (exec (.rollerSpeedChange 80000 80000) (worn .worn)) (fun t =>
      t.tcu.state == .cutting && t.tcu.head.l == (worn .worn).tcu.head.l && t.tcu.head.r.dest == some .passStart &&
        (passStatuses .l t)[0]? == some .pending) = true ∧
    after (exec (.resume 9#8) (pausedIn 1 [.pending, .pending, .pending, .pending] [.complete, .pending, .pending, .pending]
        (.atSpeed 80))) (fun t =>
      t.tcu.head.l.passStart == some ⟨0, 0, 2935⟩ && passStatus .l t == some .active) = true := by decide +kernel

/-- R138: with 4 edges per insert the fourth index exhausts the tool; a count that is not 4 leaves it USABLE. -/
theorem test_next_edge :
    let used := fun n => (Head.nextEdge 4 { planned.tcu.head.l with tool := .worn, edgesUsed := n })
    (used 3).tool = .exhausted ∧ (used 2).tool = .usable ∧ (used 5).tool = .usable ∧ (used 5).edgesUsed = 6 := by
  decide +kernel

/-- R139, R187: the defaults, with an edge life of 600, leave a tool of 700 revolutions USABLE. -/
theorem test_defaults_keep_tools :
    after (exec (.defaultSettings 9#8) (still ((ground.modSst fun t => { t with active := { t.active with edgeLife := 4000 } }).modTcu
        fun t => { t with head := t.head.map fun h => { h with tool := .usable, edgeCount := 700 } }))) (fun t =>
      t.sst.active.edgeLife == 600 && t.tcu.head.l.tool == .usable && t.tcu.head.l.edgeCount == 700) = true := by
  decide +kernel

/-- R147: no free good slot, and one record without a slot. -/
theorem test_spare_slots_below_zero :
    spareSlots { ground with ahs := { ground.ahs with
      slots := List.replicate 544 (0, .bad), index := [⟨axleA, none⟩] } } = -1 := by decide +kernel

/-- R166: the DIRTY record is queued before the seated one, which the TURNED entry makes DIRTY in the drain. -/
theorem test_reset_queues_dirty_first :
    after (exec (.reset 9#8) (still ((paused .stopped).modAhs fun a =>
        { a with cache := [openA, ⟨recordB, .dirty, false⟩] }))) (fun t =>
      t.slp.resetPending && t.ahs.queue == [axleB, axleA]) = true := by decide +kernel

/-- 7.4.1, the first index event of the pass. -/
theorem test_index_7_4_1 :
    after (exec (.indexEvent 2000 [1180] []) cutting) (fun t =>
      (t.tcu.head.l.feed, t.tcu.head.l.zDone, t.tcu.head.l.remaining, t.tcu.head.l.edgeCount) == (480, some 500, some 281, 1)) =
      true := by decide +kernel

/-! ## Witnesses of the statements -/

/-- A queue with a command at its front, and an empty one; and a step from a settled state. -/
theorem witness_StepRunsFront :
    (ground.withPending [.takeLoad 1#8]).pending = .takeLoad 1#8 :: [] ∧ ground.pending = [] := by decide +kernel

theorem witness_ClearToMoveLine : after (exec (.takeLoad 1#8) unclamped) (fun t => !t.pil.clearToMove) = true ∧
    after (exec .presenceOn ground) (fun t => t.pil.clearToMove) = true := by decide +kernel

/-- A step from a settled state; witnesses StepKeepsSettled, StepKeepsQuotas, StepKeepsSettings and StepKeepsSlots. -/
theorem witness_StepKeeps :
    settled (seated.withPending [.takeLoad 1#8]) = true ∧ quotaLaw (seated.withPending [.takeLoad 1#8]) = true ∧
    settingsLaw (seated.withPending [.takeLoad 1#8]) = true ∧
    (slotLaw (seated.withPending [.takeLoad 1#8]) && commitInArray (seated.withPending [.takeLoad 1#8])) = true ∧
    receiveLaw (seated.withPending [.takeLoad 1#8]) = true ∧ storeLaw (seated.withPending [.takeLoad 1#8]) = true ∧
    slotAt 0 seated.ahs.slots = some (.valid recordA) ∧
    after (step (seated.withPending [.takeLoad 1#8])) (fun t => t.blu.lift == .rising) = true := by decide +kernel

theorem witness_StepKeepsSpindleLaw :
    spindleLaw (cutting.withPending [.bridgeSwitchDropped .l .out]) = true ∧ spindleRunning cutting = true ∧
    after (step (cutting.withPending [.bridgeSwitchDropped .l .out])) (fun t => t.tcu.spindle == .rundown) = true := by
  decide +kernel

/-- The bridges begin to move with the mean at the clearance height itself. -/
def atClearance : State := still (raised 40000 .opened ground)

theorem witness_StepKeepsBridgeLaw :
    (bridgeLaw (atClearance.withPending [.bridges 1#8 0]) && clearancesInRange (atClearance.withPending [.bridges 1#8 0])) =
      true ∧
    after (step (atClearance.withPending [.bridges 1#8 0])) bridgesMoving = true := by decide +kernel

/-- StampAndOwnersAreSet, and every statement that asks for a request that can be served. -/
theorem witness_ready : ready ground = true ∧ ready seated = true ∧ ready clamped = true ∧ ready unclamped = true ∧
    ready planned = true ∧ ready cutting = true ∧ ready (paused .rundown) = true := by decide +kernel

/-- A ring scan in its measuring run. -/
def ringScan : State :=
  still ((clamped.modPmu fun p => { p with phase := .ringScan, selected := some .both }).modTcu fun t =>
    { t with
      state := .measureRun .idle
      spindle := .atSpeed 10
      measuring := true
      rollerSpeed := 10000
      head := t.head.map fun h => { h with owner := .measure, position := .probing } })

/-- A transaction of head L with its run at a point at will. -/
def busRun (t : Txn) (r : Run) (s : State) : State :=
  still (s.modGbc fun g => { g with queue := [t], bus := .running, run := some r })

/-- The bytes of a tag: axle ID, bogie ID, wheel type 0, position 1 and their check. -/
def tagBytes : List Byte :=
  let b := axleA ++ bogieA ++ [0x00#8, 0x01#8]
  b ++ be 2 (crc16 b).toNat

def reading (attempts : Nat) (r : Run) : State :=
  busRun tagTxn r ((stored ground).modPil fun p =>
    { p with seatState := .present, presence := true, tagState := .reading, tagAttempts := attempts })

/-- The seated record DIRTY. -/
def dirty : State := still (seated.modAhs fun a => { a with cache := [{ openA with state := .dirty }] })

/-- An axle PRESENT with its tag FAILED, its record open. -/
def present : State :=
  still ((stored ground).modPil fun p => { p with seatState := .present, presence := true, tagState := .failed, tagAttempts := 3 })

def presentUnread : State :=
  still (ground.modPil fun p => { p with seatState := .present, presence := true })

/-- The index filled with a number of records. -/
def filled (n : Nat) (s : State) : State :=
  still (s.modAhs fun a => { a with index := List.replicate n ⟨axleB, none⟩ })

/-- Every place of the cache taken by a DIRTY record. -/
def crowded (s : State) : State :=
  still (s.modAhs fun a => { a with cache := List.replicate 4 ⟨recordB, .dirty, false⟩ })

/-- AxleIsSeated of a PRESENT seat: an open record, an indexed one, and none, with room and without, at the edges of the
checks; the tag FAILED, and not yet read. -/
theorem witness_AxleIsSeated :
    ready present = true ∧ idValid 10 axleA = true ∧ idValid 8 bogieA = true ∧ 7 ≤ 7 ∧ 1 ≤ 3 ∧ 3 ≤ 3 ∧
    idValid 10 bogieA = false ∧
    present.pil.seatState = .present ∧ present.pil.tagState = .failed ∧ noneTripped [.m13] present = true ∧
    openFind axleA present = some openA ∧
    openFind axleB present = none ∧ present.ahs.opening = none ∧ present.ahs.link = .none ∧
    (indexFind axleB present.ahs.index).isSome = true ∧
    ready presentUnread = true ∧ presentUnread.pil.seatState = .present ∧ presentUnread.pil.tagState = .none ∧
    readHeldBack presentUnread = false ∧ noneTripped [.m13] presentUnread = true ∧ openFind axleA presentUnread = none ∧
    presentUnread.ahs.opening = none ∧ presentUnread.ahs.link = .none ∧ indexFind axleA presentUnread.ahs.index = none ∧
    presentUnread.ahs.index.length < 512 ∧ 2 ≤ spareSlots presentUnread ∧ placeAvailable presentUnread = true := by
  decide +kernel

theorem witness_AxleIsSeated_edges :
    ([filled 511 presentUnread, crowded presentUnread, filled 512 presentUnread].all fun s =>
      ready s && s.pil.seatState == .present && s.pil.tagState == .none && !readHeldBack s && noneTripped [.m13] s &&
        openFind axleA s == none && s.ahs.opening == none && s.ahs.link == .none && indexFind axleA s.ahs.index == none) =
      true ∧
    (filled 511 presentUnread).ahs.index.length < 512 ∧ 2 ≤ spareSlots (filled 511 presentUnread) ∧
    placeAvailable (crowded presentUnread) = false ∧ 2 ≤ spareSlots (crowded presentUnread) ∧
    512 ≤ (filled 512 presentUnread).ahs.index.length ∧
    ready ground = true ∧ ground.pil.seatState = .vacant ∧
    (let s := reading 1 ⟨.address, 0, [], none, [.start]⟩
     ready s = true ∧ s.pil.seatState = .present ∧ s.pil.tagState = .reading) ∧
    (let s := still { presentUnread with ahs := { presentUnread.ahs with store := .loading } }
     ready s = true ∧ s.pil.seatState = .present ∧ s.pil.tagState = .none ∧ readHeldBack s = true) := by decide +kernel

/-- AxleIsSeated of a SEATED seat: the same ID, another, and another forced, its former record DIRTY and its own open,
indexed or unknown. -/
theorem witness_AxleIsSeated_forced :
    ready seated = true ∧ seated.pil.seatState = .seated ∧ seated.pil.identity = some identityA ∧
    identityA.axleId = axleA ∧ identityA.axleId ≠ axleB ∧
    ready ringScan = true ∧ ringScan.pil.identity = some identityA ∧ sweepRunning ringScan = true ∧
    ready dirty = true ∧ dirty.pil.seatState = .seated ∧ dirty.pil.identity = some identityA ∧
    sweepRunning dirty = false ∧ turningInProgress dirty = false ∧ dirty.tpe.plan.state ≠ .inUse ∧
    seatedRecord dirty = some axleA ∧ openFind axleA dirty = some { openA with state := .dirty } ∧
    openFind axleB dirty = none ∧ (indexFind axleB dirty.ahs.index).isSome = true ∧ dirty.ahs.opening = none ∧
    (let s := still (dirty.modAhs fun a => { a with cache := a.cache ++ [⟨recordB, .clean, false⟩] })
     ready s = true ∧ s.pil.seatState = .seated ∧ openFind axleB s = some ⟨recordB, .clean, false⟩) ∧
    (let s := still (dirty.modAhs fun a => { a with index := [⟨axleA, some 0⟩] })
     ready s = true ∧ s.pil.seatState = .seated ∧ indexFind axleB s.ahs.index = none ∧ s.ahs.index.length < 512 ∧
     2 ≤ spareSlots s) ∧
    (let s := still (dirty.modAhs fun a => { a with index := List.replicate 512 ⟨axleA, none⟩ })
     ready s = true ∧ s.pil.seatState = .seated ∧ indexFind axleB s.ahs.index = none ∧ 512 ≤ s.ahs.index.length) ∧
    (let s := still (dirty.modAhs fun a =>
       { a with index := [⟨axleA, none⟩], cache := [], link := .waiting axleA, opening := some ⟨axleA, true, some recordA, false⟩ })
     ready s = true ∧ s.pil.seatState = .seated ∧ s.ahs.link = .waiting axleA ∧ openFind axleB s = none) := by decide +kernel

def leaving : State := still (measured.modPil fun p => { p with presence := false })

theorem witness_AxleIsReleased :
    ready leaving = true ∧ leaving.pil.seatState ≠ .vacant ∧ leaving.pil.presence = false ∧ sweepRunning leaving = false ∧
    turningInProgress leaving = false ∧ leaving.tpe.plan.state ≠ .inUse ∧ leaving.pil.seatState = .seated ∧
    seatedRecord leaving = some axleA ∧ openFind axleA leaving = some openA := by decide +kernel

/-- AxleIsReleased of a TCU that is DONE, a record that is COMMITTING with its visits at their end, another commit queued. -/
theorem witness_AxleIsReleased_committing :
    let s := still ((leaving.modTcu fun u => { u with state := .done }).modAhs fun a =>
      { a with cache := [⟨{ recordA with visits := 65535 }, .committing, false⟩], queue := [axleB] })
    ready s = true ∧ s.pil.seatState = .seated ∧ s.pil.presence = false ∧ sweepRunning s = false ∧
    turningInProgress s = false ∧ s.tcu.state = .done ∧ seatedRecord s = some axleA ∧ axleB ∈ s.ahs.queue ∧
    openFind axleA s = some ⟨{ recordA with visits := 65535 }, .committing, false⟩ := by decide +kernel

theorem witness_BridgesBegin :
    settled atClearance = true ∧ atClearance.pil.pitStop = false ∧ bridgesMoving atClearance = false ∧
    atClearance.blu.lift = .holding ∧ atClearance.sst.active.clearance ≤ mean atClearance ∧
    bothClamps .opened atClearance = true ∧ atClearance.tcu.spindle = .stopped ∧ atClearance.pmu.phase = .idle ∧
    atClearance.pil.owners.bridges = .link ∧ canDispatch atClearance = true ∧ directionOf 0 = some .inLine ∧
    directionOf 1 = some .out ∧
    settled (still (pendantOwns atClearance)) = true ∧ (pendantOwns atClearance).pil.owners.bridges = .pendant ∧
    (pendantOwns atClearance).slp.resetPending = false := by decide +kernel

def bridging : State :=
  still (atClearance.modPil fun p =>
    { p with bridge := ⟨⟨.movingIn, false, ⟨false, false⟩, some 10000, .none⟩, ⟨.out, false, ⟨false, true⟩, none, .none⟩⟩ })

theorem witness_BridgeEvents :
    (bridging.pil.bridge.get .l).state = bridgeToward .inLine ∧ visitStays bridging = true ∧
    (bridging.pil.bridge.get .r).state = bridgeAt .out ∧ bridging.pmu.phase = .idle ∧ spindleRunning bridging = false ∧
    (bridging.pil.bridge.get .l).moving = true ∧ (bridging.pil.bridge.get .l).travelTimer.isSome = true ∧
    (cutting.pil.bridge.get .r).state = .out ∧ spindleRunning cutting = true ∧ cutting.pmu.phase = .idle ∧
    turningLive cutting = true := by decide +kernel

theorem witness_BridgeEvents_sweep :
    (ringScan.pil.bridge.get .l).state = .out ∧ spindleRunning ringScan = true ∧ ringScan.pmu.phase ≠ .idle := by decide +kernel

def atEnd : State := still (seated.modPil id)

theorem witness_SensorIsFollowed :
    settled ground = true ∧ readHeldBack ground = false ∧ ground.pil.seatState = .vacant ∧ ground.pil.tagState = .none ∧
    settled presentUnread = true ∧ readHeldBack presentUnread = false ∧ presentUnread.pil.seatState = .present ∧
    presentUnread.pil.tagState = .none ∧
    settled seated = true ∧ seated.pil.seatState = .seated ∧ visitEndConditions seated = true ∧
    settled clamped = true ∧ clamped.pil.seatState = .seated ∧ visitEndConditions clamped = false := by decide +kernel

/-- SensorIsFollowed, the end of a visit: a record CLEAN or COMMITTING with its visits at their end, a plan to discard, a
TCU that is DONE, another commit queued; and a seat without a record. -/
theorem witness_SensorIsFollowed_end :
    ([CacheState.clean, .committing].all fun c =>
      let s := still ((((seated.modTcu fun u => { u with state := .done }).modTpe fun u => { u with plan := planned.tpe.plan })).modAhs
        fun a => { a with cache := [⟨{ recordA with visits := 65535 }, c, false⟩], queue := [axleB] })
      settled s && s.pil.seatState == .seated && visitEndConditions s && s.tpe.plan.state == .ready && s.tcu.state == .done &&
        seatedRecord s == some axleA && openFind axleA s == some ⟨{ recordA with visits := 65535 }, c, false⟩ &&
        s.ahs.queue.contains axleB) = true ∧
    (let s := still (seated.modAhs fun a => { a with link := .none })
     settled s = true ∧ s.pil.seatState = .seated ∧ visitEndConditions s = true ∧ seatedRecord s = none) := by decide +kernel

/-- The pit stop comes in a cut, in a lift move, in a sweep; and there is one to release. -/
def stopped (s : State) : State := still (s.modPil fun p => { p with pitStop := true })

theorem witness_PitStopHaltsAll :
    cutting.pil.pitStop = false ∧ headInSweep .l cutting = false ∧ headInSweep .r cutting = false ∧
    turningLive cutting = true ∧ referenceRunning .l cutting = false ∧ referenceRunning .r cutting = false ∧
    (cutting.tcu.head.get .l).position ≠ .parked ∧ sweepRunning cutting = false ∧ liftMoving rising = true ∧ liftMoving cutting = false ∧
    ringScan.pil.pitStop = false ∧ sweepRunning ringScan = true ∧ headInSweep .l ringScan = true ∧
    (ringScan.tcu.head.get .l).position.active = true ∧ (ringScan.tcu.head.get .r).position.active = true ∧
    settled (stopped seated) = true := by decide +kernel

theorem witness_PitStopRefuses :
    ready (stopped seated) = true ∧ (stopped seated).pil.pitStop = true ∧ (directionOf 1).isSome = true ∧
    (wheelsOf 2).isSome = true ∧ (sideOf 1).isSome = true := by decide +kernel

/-- LiftMoves: heights at the edges of the arrival window of a mean of 119,150, and above the travel. -/
theorem witness_LiftMoves :
    settled unclamped = true ∧ liftMoving unclamped = false ∧ unclamped.pmu.phase = .idle ∧
    noneTripped [.m1, .m2, .m3, .m4, .m5] unclamped = true ∧ canDispatch unclamped = true ∧
    liftRefusal .link unclamped = none ∧ mean unclamped + 200 < min 119351 250000 ∧ mean unclamped + 200 < min 250001 250000 ∧
    0 < 1 ∧ min 118949 250000 + 200 < mean unclamped ∧ min 1 250000 + 200 < mean unclamped ∧ allHome unclamped = false ∧
    allBearing seated = false ∧ liftRefusal .link seated = none ∧
    settled (still (pendantOwns unclamped)) = true ∧ liftRefusal .pendant (pendantOwns unclamped) = none ∧
    (pendantOwns unclamped).slp.resetPending = false ∧ jogging (pendantOwns unclamped) = false := by decide +kernel

theorem witness_LiftMoves_redirected :
    ready rising = true ∧ liftRefusal .link rising = none ∧ liftMoving rising = true ∧ visitStays rising = true ∧
    mean rising + 200 < min 41201 250000 ∧ mean rising + 200 < min 250001 250000 ∧ 0 < 40799 ∧
    min 40799 250000 + 200 < mean rising ∧ min 41200 250000 ≤ mean rising + 200 ∧ mean rising ≤ min 40800 250000 + 200 ∧
    allBearing rising = true ∧
    (let s := still (rising.modBlu fun b => { b with posts := .each ⟨250000, 1900, .taking, 0⟩ })
     ready s = true ∧ liftRefusal .link s = none ∧ liftMoving s = true ∧ visitStays s = true ∧ allBearing s = false ∧
     min 250001 250000 ≤ mean s + 200 ∧ mean s ≤ min 250001 250000 + 200) ∧
    ready unclamped = true ∧ liftMoving unclamped = false ∧ allBearing unclamped = true ∧
    min 119350 250000 ≤ mean unclamped + 200 ∧ mean unclamped ≤ min 118950 250000 + 200 := by decide +kernel

def liftHalted : State := still (unclamped.modBlu fun b => { b with lift := .halted })
def jogRising : State :=
  still ((pendantOwns unclamped).modBlu fun b => { b with lift := .rising, kind := some .jog, target := 250000 })

theorem witness_LiftMoves_halted :
    settled liftHalted = true ∧ visitStays liftHalted = true ∧ canDispatch liftHalted = true ∧ liftHalted.blu.lift = .halted ∧
    settled rising = true ∧ visitStays rising = true ∧ canDispatch rising = true ∧ liftMoving rising = true ∧
    settled unclamped = true ∧ visitStays unclamped = true ∧ unclamped.blu.lift = .holding ∧
    settled jogRising = true ∧ visitStays jogRising = true ∧ jogRising.blu.kind = some .jog ∧ jogRising.blu.lift = .rising := by
  decide +kernel

/-- A lift in a move at will. -/
def lifting (kind : MoveKind) (lift : LiftState) (target : Nat) : State :=
  still (rising.modBlu fun b => { b with lift := lift, kind := some kind, target := target })

/-- LiftPeriodLevels: every kind of move, at rest and HALTED; means one micrometre short of the windows and at their edges,
posts at the height of home and one above it. -/
theorem witness_LiftPeriodLevels :
    ([rising, lifting .target .lowering 41000, lifting .home .lowering 0, lifting .load .rising 250000,
      lifting .jog .rising 250000, lifting .jog .lowering 0, unclamped, ground, liftHalted].all fun s =>
        s.pmu.phase == .idle && !spindleRunning s && !bridgesMoving s && visitStays s) = true ∧
    ([lifting .target .lowering 41000, lifting .home .lowering 0, lifting .load .rising 250000,
      lifting .jog .rising 250000, lifting .jog .lowering 0].all liftMoving) = true ∧
    rising.blu.kind = some .target ∧ rising.blu.lift = .rising ∧ rising.blu.target = 159000 ∧
    ¬159000 ≤ (158799 + 158799 + 158799 + 158799) / 4 + 200 ∧ 159000 ≤ (158800 + 158800 + 158800 + 158800) / 4 + 200 ∧
    ¬(41201 + 41201 + 41201 + 41201) / 4 ≤ 41000 + 200 ∧ (41200 + 41200 + 41200 + 41200) / 4 ≤ 41000 + 200 ∧
    (Four.each 500).all (· ≤ 500) = true ∧ (⟨500, 500, 500, 501⟩ : Four Nat).all (· ≤ 500) = false ∧
    zoneAfter .defaults .taking 2001 = .bearing ∧ zoneAfter .defaults .taking 1000 = .taking ∧
    249800 ≤ (249800 + 249800 + 249800 + 249800) / 4 ∧ ¬249800 ≤ (249800 + 249800 + 249800 + 249799) / 4 ∧
    liftMoving unclamped = false ∧ unclamped.blu.kind = none ∧ unclamped.blu.lift = .holding ∧
    liftMoving liftHalted = false ∧ liftHalted.blu.kind = none ∧ liftHalted.blu.lift = .halted := by decide +kernel

/-- The law of the step: posts below, at and above the mean, at both ends of the travel, in each zone. -/
theorem witness_LiftPeriodLevels_step :
    (⟨250000, 2500, .bearing, 0⟩ : PostRecord).position ≤ 250000 ∧ (⟨0, 0, .free, 0⟩ : PostRecord).position ≤ 250000 ∧
    (⟨40900, 2500, .bearing, 0⟩ : PostRecord).position ≤ (⟨41300, 2500, .bearing, 0⟩ : PostRecord).position := by decide

/-- A post at 2,500 daN leaves BEARING, by 1,949 daN to TAKING and by 4,000 daN to OVERLOAD, under a turning, a measuring
run and a turning that is PAUSED; a LOAD move has its last post at the threshold, and one daN below. -/
theorem witness_ZoneFollowsLoad_support :
    ([cutting, ringScan, paused (.atSpeed 80)].all fun s =>
      spindleRunning s && visitStays s && (s.blu.posts.get .p3).zone == .bearing &&
        zoneAfter s.sst.active .bearing (min 1949 30000) == .taking &&
        zoneAfter s.sst.active .bearing (min 40000 30000) == .overload) = true ∧
    turningLive cutting = true ∧ cutting.pmu.phase = .idle ∧ ringScan.pmu.phase ≠ .idle ∧
    (let s := still ((lifting .load .rising 250000).modBlu fun b =>
       { b with posts := ⟨⟨500, 2500, .bearing, 0⟩, ⟨500, 2500, .bearing, 0⟩, ⟨500, 1999, .taking, 7⟩, ⟨500, 2500, .bearing, 0⟩⟩ })
     s.pmu.phase = .idle ∧ spindleRunning s = false ∧ bridgesMoving s = false ∧ visitStays s = true ∧
     s.blu.kind = some .load ∧ (s.blu.posts.all fun p => p.load ≤ 30000) = true ∧
     ([(2000, true), (1999, false)].all fun (load, all) =>
       ([Post.p1, .p2, .p3, .p4].all fun p => zoneAfter s.sst.active (s.blu.posts.get p).zone
         (if p = Post.p3 then min load 30000 else (s.blu.posts.get p).load) == .bearing) == all) = true) := by decide +kernel

/-- A sweep in its profile scan, the spindle not driven. -/
def scanning (x : Spindle) : State :=
  still ((ringScan.modPmu fun p => { p with phase := .profileScan }).modTcu fun t =>
    { t with state := .idle, spindle := x, measuring := false, rollerSpeed := 0 })

/-- ZoneFollowsLoad, and LiftPeriodLevels of a lift that stays HOLDING: a post that leaves BEARING in the profile scan of
a sweep, with the spindle STOPPED and in RUNDOWN, and one that keeps it there, by the last load that does. -/
theorem witness_ZoneFollowsLoad_atRest :
    ([Spindle.stopped, .rundown].all fun x =>
      let s := scanning x
      !spindleRunning s && s.pmu.phase == .profileScan && !bridgesMoving s && s.blu.kind == none &&
        s.blu.lift == .holding && visitStays s && (s.blu.posts.all fun p => p.load ≤ 30000) &&
        (s.blu.posts.get .p3).zone == .bearing && zoneAfter s.sst.active .bearing (min 1949 30000) == .taking &&
        [Post.p1, .p2, .p3, .p4].all fun p =>
          zoneAfter s.sst.active .bearing (min (((s.blu.posts.map PostRecord.load).set 1950 .p3).get p) 30000) ==
            .bearing) = true ∧
    (Four.each 119150).all (· ≤ 500) = false := by
  decide +kernel

/-- R92: a post that leaves BEARING in the profile scan ends the sweep, the spindle STOPPED staying so; one at speed is
run down (R37). -/
theorem test_post_leaves_bearing :
    after (exec (.loadChange .p3 1949 (.each 119150)) (scanning .stopped)) (fun t =>
      (t.blu.posts.get .p3).zone == .taking && t.pmu.phase == .idle && t.pmu.lastSweep == .failed .support &&
        t.tcu.spindle == .stopped) = true ∧
    after (exec (.loadChange .p3 1949 (.each 119150)) ringScan) (fun t =>
      (t.blu.posts.get .p3).zone == .taking && t.pmu.lastSweep == .failed .support && t.tcu.spindle == .rundown) = true := by
  decide +kernel

theorem witness_ZoneFollowsLoad :
    rising.pmu.phase = .idle ∧ spindleRunning rising = false ∧ bridgesMoving rising = false ∧ rising.blu.kind ≠ some .load ∧
    (rising.blu.posts.all fun p => p.load ≤ 30000) = true ∧ settingsOrdered .defaults = true := by decide +kernel

def seatedRaised : State := still (raised 119150 .opened seated)

theorem witness_ClampsMove :
    settled seatedRaised = true ∧ seatedRaised.pil.pitStop = false ∧ clampsMoving seatedRaised = false ∧
    liftMoving seatedRaised = false ∧ seatedRaised.pmu.phase = .idle ∧ noneTripped [.m6, .m7] seatedRaised = true ∧
    seatedRaised.blu.lift = .holding ∧ bothBridges .out seatedRaised = true ∧ seatedRaised.pil.seatState = .seated ∧
    seatedRaised.pil.owners.clamps = .link ∧ canDispatch seatedRaised = true ∧
    settled (still (pendantOwns seatedRaised)) = true ∧ (pendantOwns seatedRaised).pil.owners.clamps = .pendant ∧
    (pendantOwns seatedRaised).slp.resetPending = false ∧
    settled clamped = true ∧ clamped.tcu.spindle = .stopped ∧
    (clamped.tcu.head.any fun h => h.position == .inCut || h.position == .probing) = false := by decide +kernel

/-- ClampsMove of a lift that moves: one clamp HALTED, and both OPEN; asked by the link and by the pendant. -/
theorem witness_ClampsMove_handshake :
    ([ClampState.halted, .opened].all fun c => [ClampMode.sensor, .timed].all fun mode => [false, true].all fun pendant =>
      let u := still ((rising.modBlu fun b => { b with clamp := { b.clamp with l := { b.clamp.l with state := c } } }).modSst fun t =>
        { t with active := { t.active with clampMode := mode } })
      let s := if pendant then still (pendantOwns u) else u
      settled s && !s.pil.pitStop && !clampsMoving s && liftMoving s && visitStays s && s.pmu.phase == .idle &&
        noneTripped [.m6, .m7] s && s.tcu.spindle == .stopped && canDispatch s && !s.slp.resetPending &&
        !(s.tcu.head.any fun h => h.position == .inCut || h.position == .probing) &&
        s.pil.owners.clamps == (if pendant then .pendant else .link) && s.sst.active.clampMode == mode &&
        bothClamps .opened s == (c == .opened) && (s.blu.clamp.get .l).state == c) = true := by decide +kernel

/-- Clamp L on its way to CLOSED, its monitor in a mode at will. -/
def closing (mode : MonitorMode) : State :=
  still (withMode .m6 mode (seatedRaised.modBlu fun b =>
    { b with clamp := { b.clamp with l := ⟨.closing, ⟨false, false⟩, some 5000, false, .none⟩ } }))

def timed : State :=
  still ((closing .latched).modSst fun t => { t with active := { t.active with clampMode := .timed } })

theorem witness_ClampsMove_events :
    (closing .latched).sst.active.clampMode = .sensor ∧ ((closing .latched).blu.clamp.get .l).state = clampToward .closed ∧
    ((closing .latched).blu.clamp.get .l).moving = true ∧ ((closing .latched).blu.clamp.get .l).moveTimer.isSome = true ∧
    (closing .perStroke).sst.active.monitorMode.get (clampMonitor .l) = .perStroke ∧
    (closing .latched).sst.active.monitorMode.get (clampMonitor .l) = .latched ∧
    (closing .off).sst.active.monitorMode.get (clampMonitor .l) = .off ∧
    (closing .warnOnly).sst.active.monitorMode.get (clampMonitor .l) = .warnOnly ∧
    ((closing .off).blu.clamp.get .l).moving = true ∧ ((closing .off).blu.clamp.get .l).moveTimer.isSome = true ∧
    timed.sst.active.clampMode = .timed ∧ (timed.blu.clamp.get .l).moving = true ∧
    (timed.blu.clamp.get .l).moveTimer.isSome = true := by decide +kernel

/-- M8 has tripped, its condition gone. -/
def warned : State := still (withMonitor .m8 (fun m => { m with state := .tripped, count := 3 }) ground)
/-- M5 is LATCHED with the tilt still there. -/
def tilted : State :=
  still (withMonitor .m5 (fun m => { m with state := .latched, count := 1, condition := true }) (unclamped.modBlu fun b =>
    { b with posts := { b.posts with p1 := { b.posts.p1 with position := 122151 } } }))

theorem witness_FaultsAreCleared :
    ready warned = true ∧ warned.blu.lift ≠ .halted ∧ 8192 ≤ (8192#16).toNat ∧ (8191#16).toNat < 8192 ∧
    named 8191#16 .m8 = true ∧ (warned.fmu.monitors.get .m8).hasTripped = true ∧
    (MonitorId.list.all fun m =>
      !(named 8191#16 m && (warned.fmu.monitors.get m).hasTripped) || !(warned.fmu.monitors.get m).condition) = true ∧
    ready tilted = true ∧ tilted.blu.lift ≠ .halted ∧ named 16#16 .m5 = true ∧
    (tilted.fmu.monitors.get .m5).hasTripped = true ∧ (tilted.fmu.monitors.get .m5).condition = true := by decide +kernel

/-- The lift HALTED by a trip of M5 whose tilt has gone. -/
def cleared : State := still (withMonitor .m5 (fun m => { m with state := .latched, count := 1 }) liftHalted)

theorem witness_FaultsAreCleared_lift :
    ready cleared = true ∧ cleared.blu.lift = .halted ∧ cleared.pil.pitStop = false ∧ visitStays cleared = true ∧
    (16#16).toNat < 8192 ∧ (cleared.fmu.monitors.get .m5).hasTripped = true ∧
    (cleared.fmu.monitors.get .m5).condition = false ∧
    (MonitorId.list.all fun m => !(named 16#16 m && (cleared.fmu.monitors.get m).hasTripped) ||
      !(cleared.fmu.monitors.get m).condition) = true ∧
    ([MonitorId.m1, .m2, .m3, .m4, .m5, .m13].all fun m => !latched m cleared || named 16#16 m) = true := by decide +kernel

/-- A monitor TRIPPED in a mode at will, its condition present or absent. -/
def waiting (m : MonitorId) (mode : MonitorMode) (condition : Bool) (s : State) : State :=
  withMonitor m (fun r => { r with state := .tripped, count := 255, condition := condition }) (withMode m mode s)

/-- Head L about to begin its cut. -/
def awaiting (force : Nat) : State :=
  still (cutting.modTcu fun t =>
    { t with head := { t.head with l :=
      { t.head.l with position := .moving, dest := some .awaitIndex, zDone := none, remaining := none, force := force } } })

/-- R58 of FaultsAreCleared: the next stroke of each kind of monitor, with the condition absent and present. -/
theorem witness_FaultsAreCleared_stroke :
    ([MonitorMode.latched, .perStroke].all fun mode =>
      (let jog := fun c => still (waiting .m5 mode c (pendantOwns (unclamped.modBlu fun b =>
          { b with posts := { b.posts with p1 := { b.posts.p1 with position := if c then 122151 else 119150 } } })))
       [true, false].all fun c => let s := jog c
         settled s && !s.slp.resetPending && s.pmu.phase == .idle && liftRefusal .pendant s == none && !liftMoving s &&
           !jogging s && (s.fmu.monitors.get .m5).state == .tripped && ownerCondition s .m5 == c) &&
      (let s := still (waiting .m6 mode false (pendantOwns seatedRaised))
       settled s && !s.pil.pitStop && s.pil.owners.clamps == .pendant && !clampsMoving s && s.blu.lift == .holding &&
         bothBridges .out s && s.pil.seatState == .seated && (s.fmu.monitors.get .m6).state == .tripped &&
         (s.blu.clamp.get .l).state != .closed &&
         !((s.blu.clamp.get .l).switches.closedMade && (s.blu.clamp.get .l).switches.openMade)) &&
      ([true, false].all fun c => let s := still (waiting .m12 mode c ground)
       settled s && canDispatch s && s.pmu.phase == .idle && s.pil.owners.heads == .link &&
         (s.tcu.head.get .r).owner == .none && (s.tcu.head.get .r).position == .parked &&
         overtravelOf .r == .m12 && (s.fmu.monitors.get .m12).state == .tripped &&
         (s.fmu.monitors.get .m12).condition == c) &&
      ([2500, 2501].all fun force =>
        let s := still (waiting .m9 mode (decide ((awaiting force).sst.active.forceLimit < force)) (awaiting force))
        settled s && !s.slp.resetPending && s.pmu.phase == .idle && (s.tcu.head.get .l).position == .moving &&
          (s.tcu.head.get .l).dest == some .awaitIndex && (s.fmu.monitors.get .m9).state == .tripped &&
          s.tcu.state == .cutting && (s.tcu.head.get .l).force == force && s.sst.active.forceLimit == 2500) &&
      (let s := still (waiting .m8 mode false planned)
       settled s && canDispatch s && s.pmu.phase == .idle && !s.pil.pitStop && s.pil.owners.heads == .link && tcuFree s &&
         (s.tcu.head.all fun h => h.owner == .none && h.position == .parked) && !turnBlocked s && planFits s &&
         turnSupported s && s.tcu.spindle == .stopped && toolsReady s .l && toolsReady s .r && !s.slp.silenceHold &&
         (s.fmu.monitors.get .m8).state == .tripped) &&
      (let s := still (waiting .m13 mode false present)
       settled s && canDispatch s && s.pmu.phase == .idle && s.pil.seatState == .present && s.pil.tagState == .failed &&
         s.pil.presence && (s.fmu.monitors.get .m13).state == .tripped)) = true := by decide +kernel

/-- A monitor at the end of its deglitch time, in a mode at will, on a state at will. -/
def deglitching (m : MonitorId) (mode : MonitorMode) (s : State) : State :=
  withMonitor m (fun r => { r with state := .deglitch, timer := some 10, count := 255 }) (withMode m mode s)

/-- MonitorsTrip for each kind of action: the lift in motion, a clamp that is not HALTED, the slip, a head in the cut, the
overtravel, the lost presence; with the count at its end. -/
theorem witness_MonitorsTrip :
    ([(MonitorId.m1, rising), (.m5, unclamped), (.m6, cutting), (.m8, cutting), (.m9, cutting), (.m11, clamped), (.m13, cutting)].all
      fun (m, s) => [MonitorMode.latched, .perStroke, .warnOnly, .off].all fun mode =>
        let t := deglitching m mode s
        tripDue m t && t.sst.active.monitorMode.get m == mode) = true ∧
    tripDue .m8 (withMonitor .m8 (fun r => { r with state := .latched, timer := some 50, recurrence := .timing }) cutting) =
      true ∧
    turningLive (deglitching .m13 .latched cutting) = true ∧
    ((deglitching .m13 .latched cutting).tcu.head.get .l).position.active = true ∧
    headInSweep .l (deglitching .m13 .latched cutting) = false ∧
    liftMoving (deglitching .m1 .latched rising) = true ∧ (deglitching .m1 .latched rising).blu.lift ≠ .halted ∧
    MonitorId.m6 = clampMonitor .l ∧ ((deglitching .m6 .latched cutting).blu.clamp.get .l).state ≠ .halted ∧
    MonitorId.m9 = forceOf .l ∧ MonitorId.m11 = overtravelOf .l ∧ (deglitching .m11 .latched clamped).pmu.phase = .idle ∧
    anyReference (deglitching .m11 .latched clamped) = false := by decide +kernel

/-- MonitorsTrip in a sweep, in a reference sweep and with the scope of M9 at will. -/
theorem witness_MonitorsTrip_sweep :
    ([MonitorId.m1, .m6, .m8, .m11, .m13].all fun m => [MonitorMode.latched, .perStroke].all fun mode =>
      let s := deglitching m mode ringScan
      tripDue m s && s.sst.active.monitorMode.get m == mode && sweepRunning s && headInSweep .l s && s.tcu.measuring &&
        (s.blu.clamp.get .l).state == .closed && (s.tcu.head.get .l).position == .probing) = true ∧
    (let s := deglitching .m12 .latched referring
     tripDue .m12 s = true ∧ referenceRunning .r s = true ∧ headInSweep .r s = false ∧
     (s.tcu.head.get .r).position = .probing) ∧
    ([MonitorId.m1, .m6, .m8].all fun m => turningLive (deglitching m .latched cutting)) = true ∧
    (deglitching .m1 .latched cutting).pmu.phase = .idle ∧ (cutting.tcu.head.get .l).position = .inCut ∧
    passStatus .l cutting = some .active ∧
    ([Scope.side, .pit].all fun x =>
      let s := deglitching .m9 .latched (cutting.modSst fun u => { u with active := { u.active with scope := .both x } })
      tripDue .m9 s && s.sst.active.scope.get .l == x && s.tcu.state == .cutting) = true := by decide +kernel

def closingRun (result : TxnResult) (data : List Byte) : Run := ⟨.closing, 0, data, some result, []⟩
def dropped : Txn := { modeTxn .l .park .discarded with retries := 3 }
def queued : State := still (ground.modGbc fun g => { g with queue := [dropped] })
/-- A recovery with the clock still held, or released and the nine pulses sent. -/
def recovering (held : Bool) : State :=
  still ((busRun dropped (closingRun .ok []) ground).modGbc fun g =>
    { g with
      bus := .recovering
      run := none
      clockHeld := held
      recovery := if held then [] else List.replicate 9 .pulse })

theorem witness_TransactionsRun :
    settled queued = true ∧ queued.gbc.bus = .idle ∧ queued.gbc.queue ≠ [] ∧
    let s := busRun dropped (closingRun .ok []) ground
    settled s = true ∧ s.gbc.queue = dropped :: [] ∧ dropped.purpose = .discarded ∧ s.gbc.held = .both [] ∧
    s.gbc.clockHeld = false ∧ s.gbc.run = some (closingRun .ok []) ∧ (closingRun .ok []).phase = .closing ∧
    (closingRun .ok []).result.isSome = true ∧ s.gbc.bus = .running ∧
    (recovering false).gbc.queue = [dropped] ∧ (recovering false).gbc.clockHeld = false ∧
    settled (recovering false) = true ∧ (recovering false).gbc.held = .both [] ∧ (recovering false).gbc.bus = .recovering := by
  decide +kernel

/-- R72: the release of the clock in a recovery is followed by nine clock pulses, whose end is the part's STOP. -/
theorem test_release_in_recovery :
    after (exec .clockRelease (recovering true)) (fun t => t.gbc.recovery == List.replicate 9 .pulse && !t.gbc.clockHeld) =
      true ∧
    after (exec .gaugeTransactionEnd (recovering false)) (fun t =>
      t.gbc.recovery == [.pulse, .pulse, .pulse, .pulse, .pulse, .pulse, .pulse, .pulse, .pulse, .stop] &&
        t.gbc.bus == .idle && t.gbc.queue == []) = true := by decide +kernel

def claiming : State :=
  still ((clamped.modPmu fun p =>
    { p with phase := .claiming, selected := some .both, head := p.head.map fun h => { h with modeOk := true } }).modTcu fun t =>
      { t with head := t.head.map fun h => { h with owner := .measure, position := .probing } })

/-- A transaction of head L that ends with a result, on a state at will. -/
def endingTxn (purpose : Purpose) (result : TxnResult) (data : List Byte) (s : State) : State :=
  busRun { modeTxn .l .ring purpose with } (closingRun result data) s

/-- Head L in a profile scan, and in a reference sweep, with lists at will. -/
def profiling (n : Nat) : State :=
  still (ringScan.modPmu fun p =>
    { p with phase := .profileScan, head := p.head.map fun h => { h with profile := List.replicate n ⟨0, 0⟩ } })
def referringL (list : List Sample) : State :=
  still ((ground.modPmu fun p => { p with head := { p.head with l :=
    { p.head.l with reference := .running, modeOk := true, ring := list } } }).modTcu fun t =>
      { t with head := { t.head with l := { t.head.l with owner := .measure, position := .probing } } })

/-- A block of 16 samples. -/
def block : List Byte := List.replicate 96 0#8

theorem witness_TransactionsRun_results :
    ([(Purpose.mode .sweep, [], claiming), (.mode .reference, [], referringL []), (.command .sweep, [], ringScan),
      (.stateRead .sweep, [1#8, 0x40#8], ringScan), (.stateRead .reference, [1#8, 0x40#8], referringL []),
      (.stateRead .sweep, [17#8, 0x83#8], ringScan), (.stateRead .sweep, [0#8, 0x3F#8], ringScan),
      (.blockRead .sweep, block, profiling 240), (.blockRead .sweep, block, profiling 241),
      (.blockRead .reference, block, referringL (List.replicate 112 ⟨0, 0⟩)),
      (.blockRead .reference, block, referringL (List.replicate 113 ⟨0, 0⟩)),
      (.blockRead .sweep, block, ringScan)].all fun (purpose, data, s) =>
        let u := endingTxn purpose .ok data s
        (match txnEnding u with
         | some (t, rest, result, x) =>
           t.requester == .pmu .l && t.purpose == purpose && rest == [] && result == .ok && x == data
         | none => false) && u.gbc.held == .both []) = true ∧
    ([(Purpose.mode .sweep, claiming), (.command .reference, referringL []), (.stateRead .sweep, ringScan),
      (.blockRead .reference, referringL [])].all fun (purpose, s) =>
        let u := endingTxn purpose .rejected [] s
        (match txnEnding u with
         | some (t, rest, result, x) =>
           t.requester == .pmu .l && t.purpose == purpose && rest == [] && result == .rejected && x == []
         | none => false) && u.gbc.held == .both []) = true ∧
    sweepRunning claiming = true ∧ sweepRunning ringScan = true ∧ referenceRunning .l (referringL []) = true ∧
    (profiling 240).pmu.phase = .profileScan ∧
    ((profiling 240).pmu.head.get .l).profile.length + (samplesOf false block).length = 256 ∧
    (List.replicate 112 (⟨0, 0⟩ : Sample)).length + (samplesOf true block).length = 128 ∧
    (0x40#8 : Byte).getLsbD 6 = true ∧ (0x83#8 : Byte).getLsbD 6 = false ∧ (0x3F#8 : Byte).getLsbD 7 = false := by
  decide +kernel

/-- ByteMovesRun: a WRITE of two bytes, a READ with a select byte, a READ without, at each phase's last byte but one and
at its last. -/
def phaseRun (phase : RunPhase) (sent : Nat) (received : List Byte) : Run := ⟨phase, sent, received, none, []⟩
def stateTxn : Txn := stateReadTxn .l .sweep

theorem witness_ByteMovesRun :
    ([(dropped, phaseRun .address 0 []), (dropped, phaseRun .write 0 []), (dropped, phaseRun .write 1 []),
      (stateTxn, phaseRun .write 0 []), (stateTxn, phaseRun .turn 1 []), (stateTxn, phaseRun .read 1 []),
      (stateTxn, phaseRun .read 1 [0x05#8]), (stateTxn, phaseRun .closing 1 []), (tagTxn, phaseRun .address 0 [])].all
        fun (t, r) =>
          let s := busRun t r ground
          settled s && s.gbc.bus == .running && s.gbc.queue == [t] && s.gbc.run == some r && !s.gbc.clockHeld) = true ∧
    0 + 1 < dropped.writeBytes.length ∧ 1 + 1 = dropped.writeBytes.length ∧ dropped.direction = .write ∧
    dropped.writeBytes[1]?.isSome = true ∧ stateTxn.writeBytes.length = 0 + 1 ∧ stateTxn.direction = .read ∧
    tagTxn.writeBytes = [] ∧ 0 + 1 < stateTxn.readLength ∧ stateTxn.readLength ≤ 1 + 1 := by decide +kernel

/-- ByteMovesRun, the line of R66: a WRITE and a READ with a select byte go through their bytes, the first ends OK. -/
theorem witness_ByteMovesRun_line :
    ([dropped, stateTxn, tagTxn].all fun t =>
      let runs := (List.range (t.writeBytes.length + t.readLength + 3)).map fun n =>
        (List.replicate n ()).foldl (fun r _ => r.step t 0x05#8 true) (⟨.address, 0, [], none, [.start]⟩ : Run)
      t.shaped && runs.all (runLaw t) && runs.getLast?.any fun r => r.phase == .closing && r.result == some .ok) = true ∧
    stateTxn.direction = .read ∧ stateTxn.writeBytes.length = 1 := by decide +kernel

theorem witness_TagAttemptEnds :
    let s := reading 1 (closingRun .ok tagBytes)
    s.gbc.bus = .running ∧ s.gbc.queue = [tagTxn] ∧ tagTxn.requester = .pilTag ∧ tagTxn.purpose = .tagAttempt ∧
    s.gbc.run = some (closingRun .ok tagBytes) ∧ tagData tagBytes = some (axleA, bogieA, 0, 1) ∧ s.gbc.clockHeld = false ∧
    s.pil.seatState = .present ∧ s.pil.tagState = .reading ∧ noneTripped [.m13] s = true ∧ openFind axleA s = some openA := by
  decide +kernel

theorem witness_TagAttemptEnds_failed :
    ([2, 3].all fun n =>
      let s := reading n (closingRun .absent [])
      settled s && s.gbc.bus == .running && s.gbc.queue == [tagTxn] && s.gbc.run == some (closingRun .absent []) &&
        !s.gbc.clockHeld && s.pil.seatState == .present && s.pil.tagState == .reading && s.pil.tagAttempts == n) = true ∧
    TxnResult.absent ≠ .ok ∧ tagData (tagBytes.drop 1) = none := by decide +kernel

/-- ArbitrationIsLost: at the address, at a write byte and at the turn, with 2 retries used and with 3. -/
theorem witness_ArbitrationIsLost :
    ([phaseRun .address 0 [], phaseRun .write 1 [], phaseRun .turn 1 []].all fun r =>
      let t : Txn := { stateTxn with retries := 2 }
      let s := busRun t r ground
      settled s && s.gbc.bus == .running && s.gbc.queue == [t] && s.gbc.run == some r && decide (t.retries < 3) &&
        !anyReference s) = true ∧
    ([phaseRun .address 0 [], phaseRun .write 1 [], phaseRun .turn 1 [], phaseRun .read 1 [], closingRun .ok []].all fun r =>
      let s := busRun dropped r ground
      settled s && s.gbc.bus == .running && s.gbc.queue == [dropped] && s.gbc.run == some r && s.gbc.held == .both [] &&
        !anyReference s) = true ∧ 3 ≤ dropped.retries ∧ dropped.purpose = .discarded ∧
    (let s := still ((busRun dropped (phaseRun .write 0 []) ground).modGbc fun g => { g with clockHeld := true, waitTimer := some 25 })
     settled s = true ∧ s.gbc.bus = .running ∧ s.gbc.waitTimer.isSome = true ∧ s.gbc.clockHeld = true ∧ s.gbc.queue ≠ []) ∧
    settled (recovering true) = true ∧ (recovering true).gbc.bus = .recovering ∧ (recovering true).gbc.clockHeld = true := by
  decide +kernel

/-- ArbitrationIsLost: a recovery of a transaction without work, and one of a sweep and of a reference sweep, LOST and
recovering. -/
theorem witness_ArbitrationIsLost_ends :
    (let s := still ((busRun dropped (phaseRun .write 0 []) ground).modGbc fun g => { g with bus := .recovering, run := none })
     settled s = true ∧ s.gbc.bus = .recovering ∧ s.gbc.queue = [dropped] ∧ s.gbc.held = .both []) ∧
    ([(Work.sweep, ringScan), (.reference, referringL [])].all fun (w, s) =>
      let t : Txn := { stateReadTxn .l w with retries := 3 }
      let s := busRun t (phaseRun .turn 1 []) s
      let u := s.modGbc fun g => { g with bus := .recovering, run := none }
      t.requester == .pmu .l && t.purpose == .stateRead w && s.gbc.queue == [t] && s.gbc.bus == .running &&
        (s.gbc.run.map Run.phase) == some .turn && u.gbc.bus == .recovering && !u.gbc.clockHeld &&
        (if w = .sweep then sweepRunning s && sweepRunning u else referenceRunning .l s && referenceRunning .l u)) = true := by
  decide +kernel

def observing (o : Observation) : State :=
  still (clamped.modGbc fun g => { g with bus := .observing, observation := some o, foreignFlag := true })

def quieting : State := still (clamped.modGbc fun g => { g with foreignFlag := true, quietTimer := some 1000 })

theorem witness_ForeignIsObserved :
    settled clamped = true ∧ clamped.gbc.bus = .idle ∧
    settled (observing ⟨true, .both false, true⟩) = true ∧ (observing ⟨true, .both false, true⟩).gbc.bus = .observing ∧
    (observing ⟨true, .both false, true⟩).gbc.observation = some ⟨true, .both false, true⟩ ∧
    (observing ⟨true, ⟨true, false⟩, false⟩).gbc.bus = .observing ∧
    (observing ⟨true, ⟨true, false⟩, false⟩).gbc.observation = some ⟨true, ⟨true, false⟩, false⟩ ∧
    anyReference (observing ⟨true, ⟨true, false⟩, false⟩) = false ∧
    (observing ⟨false, .both false, false⟩).gbc.bus = .observing ∧
    (observing ⟨false, .both false, false⟩).gbc.observation = some ⟨false, .both false, false⟩ ∧
    anyReference (observing ⟨false, .both false, false⟩) = false := by decide +kernel

/-- ForeignIsObserved: the quiet timer of an IDLE and of a RUNNING bus, the other timers, and a head in a reference sweep. -/
theorem witness_ForeignIsObserved_quiet :
    settled quieting = true ∧ quieting.gbc.bus = .idle ∧ quieting.gbc.quietTimer.isSome = true ∧
    (let s := still ((busRun stateTxn (phaseRun .address 0 []) clamped).modGbc fun g =>
       { g with foreignFlag := true, quietTimer := some 1000 })
     settled s = true ∧ s.gbc.bus = .running ∧ s.gbc.quietTimer.isSome = true) ∧
    clamped.gbc.quietTimer = none ∧
    (let s := still ((referringL []).modGbc fun g =>
       { g with bus := .observing, observation := some ⟨true, ⟨true, false⟩, false⟩, foreignFlag := true })
     s.gbc.bus = .observing ∧ s.gbc.observation = some ⟨true, ⟨true, false⟩, false⟩ ∧
     referenceRunning .l s = true ∧ (s.pmu.head.get .l).calibration = .stale) ∧
    (let s := still ((referringL []).modGbc fun g =>
       { g with bus := .observing, observation := some ⟨false, .both false, false⟩, foreignFlag := true })
     let v := still (s.modPmu fun p => { p with head := p.head.map fun h => { h with calibration := .verified } })
     v.gbc.bus = .observing ∧ v.gbc.observation = some ⟨false, .both false, false⟩ ∧ referenceRunning .l v = true ∧
     (v.pmu.head.get .l).calibration = .verified ∧ referenceRunning .r s = false ∧ (s.pmu.head.get .r).calibration = .stale) := by
  decide +kernel

/-- R80: the part ends an observation that a reset began with nine clock pulses and a STOP of its own; the STOP of another
master ends it without. -/
theorem test_reset_observation_timeout :
    after (exec .resetObservationTimeout (observing ⟨false, .both false, false⟩)) (fun t =>
      t.gbc.recovery == List.replicate 9 .pulse ++ [.stop] && t.gbc.bus == .idle && t.gbc.quietTimer == some 1000) = true ∧
    after (exec .foreignStop (observing ⟨false, .both false, false⟩)) (fun t => t.gbc.recovery == []) = true := by
  decide +kernel

/-- R101: a notice ends the reference sweep of its head FAILED(STALE), of a head that is STALE already too. -/
theorem test_notice_of_a_stale_head :
    let at' := fun c : Calibration => still (((referringL []).modPmu fun p =>
        { p with head := p.head.map fun h => { h with calibration := c } }).modGbc fun g =>
      { g with bus := .observing, observation := some ⟨true, ⟨true, false⟩, false⟩, foreignFlag := true })
    ([Calibration.stale, .verified].all fun c => after (exec .foreignStop (at' c)) (fun t =>
      !referenceRunning .l t && (t.pmu.head.get .l).lastReference == .failed .stale &&
        (t.pmu.head.get .l).calibration == .stale)) = true := by decide +kernel

/-- SweepBegins, of both wheels and of one. -/
theorem witness_SweepBegins :
    ready clamped = true ∧ wheelsOf 2 = some .both ∧ wheelsOf 0 = some .l ∧ clamped.pil.pitStop = false ∧
    clamped.pil.owners.heads = .link ∧ clamped.pmu.phase = .idle ∧ clamped.pil.seatState = .seated ∧
    bothClamps .closed clamped = true ∧ holdingBearing clamped = true ∧ tcuFree clamped = true ∧
    ([Side.l, .r].all fun side =>
      (clamped.tcu.head.get side).owner == .none && (clamped.tcu.head.get side).position == .parked &&
        (clamped.pmu.head.get side).calibration == .verified && !latched (overtravelOf side) clamped) = true ∧
    noneTripped [.m11, .m12] clamped = true ∧ clamped.gbc.queue = [] ∧ clamped.gbc.held = .both [] := by decide +kernel

theorem witness_SweepIsHalted :
    ready ringScan = true ∧ anyReference ringScan = false ∧ ringScan.pmu.phase ≠ .idle ∧ ringScan.pmu.selected = some .both ∧
    ready clamped = true ∧ anyReference clamped = false ∧ clamped.pmu.phase = .idle ∧
    ringScan.tpe.plan.state ≠ .inUse := by decide +kernel

/-- SweepIsHalted: a running reference sweep, its head PROBING and HALTED, a state read waiting. -/
theorem witness_SweepIsHalted_reference :
    ([HeadPosition.probing, .halted].all fun x =>
      let s := still (((referringL []).modTcu fun t => { t with head := { t.head with l := { t.head.l with position := x } } }).modGbc
        fun g => { g with queue := [stateReadTxn .l .reference] })
      ready s && referenceRunning .l s && (s.tcu.head.get .l).position == x && (s.tcu.head.get .l).owner == .measure &&
        s.pmu.phase == .idle && s.gbc.held == .both [] && (stateReadTxn .l .reference).requester == .pmu .l) = true := by
  decide +kernel

/-- A sweep of one wheel, as far as a sweep of both; the other head is not claimed. -/
def single (w : Wheels) (s : State) : State :=
  let free := fun (h : Head) => { h with owner := .none, position := .parked, dest := none }
  still ((s.modPmu fun p => { p with selected := some w }).modTcu fun t =>
    { t with head := ⟨if w.has .l then t.head.l else free t.head.l, if w.has .r then t.head.r else free t.head.r⟩ })

theorem witness_ScansBegin :
    ready ground = true ∧ sideOf 0 = some .l ∧ sideOf 1 = some .r ∧ ground.pil.pitStop = false ∧
    ground.pil.owners.heads = .link ∧ (ground.tcu.head.get .r).owner = .none ∧ (ground.tcu.head.get .r).position = .parked ∧
    latched (overtravelOf .r) ground = false ∧ noneTripped [overtravelOf .r] ground = true ∧ heldBy (.pmu .r) ground = 0 ∧
    ground.gbc.held.get .r = [] ∧
    settled claiming = true ∧ claiming.pmu.phase = .claiming ∧ claiming.pmu.selected = some .both ∧
    headsReady claiming = true ∧ claiming.tcu.spindle = .stopped ∧ claiming.gbc.queue = [] ∧ claiming.gbc.held = .both [] ∧
    ([(Wheels.l, Side.l), (.r, .r)].all fun (w, side) =>
      let s := single w claiming
      settled s && s.pmu.phase == .claiming && s.pmu.selected == some w && w.has side && !w.has side.other &&
        (s.tcu.head.get side).position == .probing && (s.pmu.head.get side).modeOk && s.tcu.spindle == .stopped &&
        s.gbc.queue.isEmpty && s.gbc.held == .both []) = true := by
  decide +kernel

/-- A state read with no samples left and the list complete, its flags at will. -/
def listEnds (work : Work) (flags : Byte) (s : State) : State := endingTxn (.stateRead work) .ok [0#8, flags] s

/-- A profile scan whose other list is complete, its lists at will, the spindle not driven. -/
def profiled (l r : List Sample) (e : ClampEnd) : State :=
  still ((clamped.modPmu fun p =>
    { p with
      phase := .profileScan
      selected := some .both
      head := ⟨{ p.head.l with profile := l }, { p.head.r with profile := r, listDone := true }⟩ }).modBlu fun b =>
        { b with clamp := b.clamp.map fun c => { c with state := clampAt e } })

/-- Sixteen samples about the taping line. -/
def sixteen : List Sample := (List.range 16).map fun k => ⟨65500 + 600 * k, 452700⟩

def roundRing : List Sample := (List.range 128).map fun k => ⟨k, 400029⟩

def ringed (l r : List Sample) : State :=
  still (ringScan.modPmu fun p =>
    { p with head := ⟨{ p.head.l with ring := l }, { p.head.r with ring := r, listDone := true }⟩ })

theorem witness_ScansBegin_ends :
    ([listEnds .sweep 0x80#8 ringScan, listEnds .sweep 0x83#8 (profiled sixteen sixteen .closed),
      listEnds .sweep 0x80#8 (profiled sixteen sixteen .opened), listEnds .sweep 0x80#8 (profiled [] sixteen .closed),
      listEnds .sweep 0x80#8 (profiled sixteen (sixteen.drop 1) .closed), listEnds .sweep 0x80#8 (ringed roundRing roundRing),
      listEnds .sweep 0x80#8 (ringed [] roundRing), listEnds .sweep 0x80#8 (ringed roundRing [])].all fun s =>
        s.gbc.held == .both [] && s.pmu.selected == some .both &&
        (match txnEnding s with
         | some (t, rest, result, data) =>
           t.requester == .pmu .l && t.purpose == .stateRead .sweep && rest == [] && result == .ok && data.length == 2
         | none => false)) = true ∧
    (ringScan.pmu.head.get .r).listDone = false ∧
    (let s := profiled sixteen sixteen .closed
     profileCheck s.sst.active.zTl sixteen = none ∧ (profileCheck s.sst.active.zTl []).isSome = true ∧
     (profileCheck s.sst.active.zTl (sixteen.drop 1)).isSome = true ∧
     (bothClamps .closed s && bothBridges .out s) = true ∧ tcuFree s = true ∧ noneTripped [.m8] s = true ∧
     s.tcu.spindle = .stopped) ∧
    (let s := profiled sixteen sixteen .opened
     (bothClamps .closed s && bothBridges .out s) = false) ∧
    ringCheck roundRing = none ∧ (ringCheck []).isSome = true ∧ (ringed roundRing roundRing).pmu.phase = .ringScan ∧
    ([0x81#8, 0x83#8, 0x80#8, 0x82#8].all fun flags : Byte =>
      [roundRing, [], roundRing.map fun x => { x with r := x.r + 511 }].all fun list =>
        let s := listEnds .reference flags (referringL list)
        referenceRunning .l s && (match txnEnding s with
         | some (t, rest, result, data) =>
           t.requester == .pmu .l && t.purpose == .stateRead .reference && rest == [] && result == .ok && data == [0#8, flags]
         | none => false)) = true := by decide +kernel

/-- ScansBegin of wheel L alone: the profile list and the ring list, good and bad. -/
theorem witness_ScansBegin_single :
    ([profiled sixteen [] .closed, profiled [] [] .closed, ringed roundRing [], ringed [] []].all fun u =>
      let s := listEnds .sweep 0x80#8 (single .l u)
      s.gbc.held == .both [] && s.pmu.selected == some .l && Wheels.l.has .l && !Wheels.l.has .r && noneTripped [.m8] s &&
        (s.pmu.phase == .ringScan || tcuFree s && bothClamps .closed s && bothBridges .out s) &&
        (match txnEnding s with
         | some (t, rest, result, data) =>
           t.requester == .pmu .l && t.purpose == .stateRead .sweep && rest == [] && result == .ok && data == [0#8, 0x80#8]
         | none => false)) = true := by decide +kernel

/-- ExtractionEndsSweep: both extractions succeed; L fails; R alone fails. -/
def shortOf (l r : List Sample) : State :=
  still (computing.modPmu fun p => { p with head := ⟨{ p.head.l with profile := l }, { p.head.r with profile := r }⟩ })

theorem witness_ExtractionEndsSweep :
    computing.pmu.phase = .computing ∧ computing.pmu.selected = some .both ∧
    extractSide .l computing = .ok ⟨905432, 29600, 29700, 8400⟩ ∧ extractSide .r computing = .ok ⟨905432, 29600, 29700, 8400⟩ ∧
    computing.pmu.taken = (Sides.both ((312 : Int), false)).map some ∧
    (let s := shortOf [⟨69600, 452740⟩, ⟨70200, 452704⟩] profileL
     s.pmu.phase = .computing ∧ s.pmu.selected = some .both ∧ extractSide .l s = .error .noFlank) ∧
    (let s := shortOf profileL [⟨70000, 452740⟩, ⟨70200, 482704⟩]
     s.pmu.phase = .computing ∧ s.pmu.selected = some .both ∧ extractSide .l s = .ok ⟨905432, 29600, 29700, 8400⟩ ∧
     extractSide .r s = .error .noFlange) ∧
    ([(Wheels.l, Side.r), (.r, .l)].all fun (w, other) =>
      let s := still (computing.modPmu fun p => { p with selected := some w, taken := p.taken.set none other })
      s.pmu.phase == .computing && s.pmu.selected == some w && !w.has other) = true := by decide +kernel

/-- ExtractionEndsSweep, its entry: an open record, none, both heads made STALE, and a sweep after a turning of a record
that is COMMITTING. -/
theorem witness_ExtractionEndsSweep_entry :
    seatedRecord computing = some axleA ∧ openFind axleA computing = some openA ∧ computing.pmu.turnedSince = false ∧
    (computing.pmu.head.all fun h => !h.staleDuring) = true ∧
    seatedRecord (still (computing.modAhs fun a => { a with link := .none })) = none ∧
    (still (computing.modPmu fun p => { p with head := p.head.map fun h => { h with staleDuring := true } })).pmu.phase =
      .computing ∧
    (let s := still ((computing.modPmu fun p => { p with turnedSince := true }).modAhs fun a =>
       { a with cache := [{ openA with state := .committing }] })
     s.pmu.phase = .computing ∧ s.pmu.turnedSince = true ∧ openFind axleA s = some { openA with state := .committing }) := by
  decide +kernel

/-- The law of R143 and R145: the work before the CHECKED entry a turning, the least diameter smaller; a due mark. -/
theorem witness_ExtractionEndsSweep_checked :
    let r := { recordB with lastWork := some .turned, loss := 999999, state := RecordState.turnDue 889110 axleA }
    r.lastWork = some .turned ∧ leastDiameter r.lastD = some 893400 ∧ r.loss ≤ 1000000 ∧ recordA.loss ≤ 1000000 ∧
    recordA.lastWork ≠ some .turned ∧ recordA.state = .inService := by decide +kernel

def held : State := still (ground.modPmu fun p => { p with rim := .both ⟨312, .held, some 10000⟩ })

theorem witness_ReadingsAreTaken :
    settled ground = true ∧ (ground.pmu.rim.get .l).state = .live ∧ settled held = true ∧ (held.pmu.rim.get .r).state = .held ∧
    (held.pmu.rim.get .r).holdTimer.isSome = true := by decide +kernel

/-- The samples of 5.4.1 as pairs, and their figures; a profile without a flange; one whose level is nowhere crossed. -/
def points : List (Int × Int) := profileL.map fun x => (x.pos, x.r)

theorem witness_ReadingsAreTaken_extraction :
    Rises points ∧ IsTapingRadius 70000 points 452716 ∧ IsFlangeTip points (18600, 482316) ∧
    IsCrossing (452716 + 10000) 18600 70000 points 29700 ∧ (452716 + 10000 : Int) < 482316 - 2000 ∧
    IsCrossing (482316 - 2000) 18600 70000 points 21300 :=
  have h : Rises points := by decide +kernel
  have hz : ∀ x ∈ points, (18600 : Int) ≤ x.1 := by decide +kernel
  ⟨h, (tapingRadius_iff h _).1 (by decide +kernel), flangeTip_spec h (by decide +kernel),
    (crossing_iff h hz _).1 (by decide +kernel), by decide, (crossing_iff h hz _).1 (by decide +kernel)⟩

theorem witness_ReadingsAreTaken_fails :
    (let list : List (Int × Int) := [(70000, 452740), (70200, 482704)]
     Rises list ∧ IsTapingRadius 70000 list 452740 ∧ IsFlangeTip list (70200, 482704)) ∧
    (let list : List (Int × Int) := [(69600, 452740), (70200, 452704)]
     Rises list ∧ IsTapingRadius 70000 list 452716 ∧ IsFlangeTip list (69600, 452740) ∧
       (482740 - 2000 ≤ (452716 + 30000 : Int)) ∧ ∀ z, ¬IsCrossing (452716 + 10000) 69600 70000 list z) :=
  have h : Rises [(70000, 452740), (70200, 482704)] := by decide +kernel
  have h' : Rises [(69600, 452740), (70200, 452704)] := by decide +kernel
  ⟨⟨h, (tapingRadius_iff h _).1 (by decide +kernel), flangeTip_spec h (by decide +kernel)⟩,
    h', (tapingRadius_iff h' _).1 (by decide +kernel), flangeTip_spec h' (by decide +kernel), by decide,
    fun z hz => by
      have := (crossing_iff h' (by decide +kernel) z).2 hz
      revert this
      rw [show crossing (452716 + 10000) 70000 [(69600, 452740), (70200, 452704)] = none by decide +kernel]
      simp⟩

theorem witness_PlanIsComputed :
    ready measured = true ∧ measured.tpe.work = .idle ∧ measured.pmu.phase = .idle ∧ turningInProgress measured = false ∧
    measured.pil.seatState = .seated ∧ measured.pil.identity = some identityA ∧ measured.pmu.record.l = .valid figuresL ∧
    measured.pmu.record.r = .valid figuresR ∧ figuresL.calStale = false ∧ figuresR.calStale = false ∧
    (measured.sst.active.wheelType identityA.wheelType).dScrap ≠ 0 ∧ (seatedRecord measured).isSome = true := by decide +kernel

/-- A computation of inputs at will. -/
def planning (p : PlanInputs) : State :=
  still (measured.modTpe fun t => { t with work := .computing, inputs := some p })

def alone : PlanInputs := { inputs with siblings := [] }
/-- Two wheels of one diameter with nothing to take off. -/
def perfect : PlanInputs :=
  let w : WheelInput := ⟨905000, 28000, 32500, 0, 200, false⟩
  { alone with wheel := ⟨w, w⟩, cMin := 0 }

/-- PlanIsComputed: at the scrap diameter's edge, at the depth limit's edge, with nothing to do, and READY. -/
theorem witness_PlanIsComputed_ends :
    ([alone, perfect, { alone with dScrap := 887111 }, { alone with dScrap := 887110 }, { alone with depthLimit := 9102 },
      { alone with depthLimit := 9103 }].all fun p =>
        let s := planning p
        settled s && s.tpe.work == .computing && s.tpe.inputs == some p && s.tpe.computed == none && s.tpe.marks == [] &&
          s.ahs.opening == none && !turningInProgress s && (readRecord p.axleId s).map Record.state == some .inService) = true ∧
    (planFigures alone).target < 887111 ∧ 887110 ≤ (planFigures alone).target ∧ (9102 : Int) < (planFigures alone).depth.l ∧
    (planFigures alone).depth.l ≤ 9103 ∧ (planFigures alone).depth.r ≤ 9103 ∧ marksDue alone (planFigures alone).target = [] ∧
    (planFigures perfect).depth.l = 0 ∧ (planFigures perfect).depth.r = 0 ∧ perfect.dScrap ≤ (planFigures perfect).target ∧
    (0 : Int) ≤ perfect.depthLimit := by decide +kernel

/-- PlanIsComputed of a record that is CONDEMNED, and of one that becomes so while a commit of it runs. -/
theorem witness_PlanIsComputed_condemned :
    (let s := still ((planning alone).modAhs fun a =>
       { a with cache := [{ openA with record := { recordA with state := .condemned } }] })
     settled s = true ∧ s.tpe.work = .computing ∧ s.tpe.inputs = some alone ∧ s.ahs.opening = none ∧
     (readRecord alone.axleId s).map Record.state = some .condemned) ∧
    ([CacheState.clean, .dirty, .committing].all fun c =>
      let s := still ((planning { alone with dScrap := 887111 }).modAhs fun a => { a with cache := [{ openA with state := c }] })
      settled s && s.tpe.work == .computing && s.ahs.opening == none && seatedRecord s == some axleA &&
        openFind axleA s == some { openA with state := c } && !s.slp.resetPending) = true := by decide +kernel

/-- PlanIsComputed with a sibling due: its record to be opened, open in each state, CONDEMNED, and not in the store; and
the law under which the siblings are those of the bogie. -/
theorem witness_PlanIsComputed_siblings :
    let m : Mark := ⟨axleB, 889110, axleA⟩
    let f := planFigures inputs
    inputs.dScrap ≤ f.target ∧ f.depth.l ≤ inputs.depthLimit ∧ f.depth.r ≤ inputs.depthLimit ∧ f.depth.l ≠ 0 ∧
    marksDue inputs f.target = [] ++ [m] ∧ marksDue inputs f.target = [m] ++ [] ∧
    (let s := planning inputs
     settled s = true ∧ s.slp.resetPending = false ∧ s.ahs.opening = none ∧ (indexFind axleB s.ahs.index).isSome = true ∧
     isOpen axleB s = false) ∧
    ([CacheState.clean, .dirty, .committing].all fun c => [RecordState.inService, .turnDue 889110 axleA, .condemned].all fun x =>
      let o : OpenRecord := ⟨{ recordB with state := x }, c, false⟩
      let s := still ((planning inputs).modAhs fun a => { a with cache := a.cache ++ [o] })
      settled s && s.tpe.work == .computing && openFind axleB s == some o && s.ahs.opening == none) = true ∧
    indexFind axleB (still ((planning inputs).modAhs fun a => { a with index := [⟨axleA, some 0⟩] })).ahs.index = none ∧
    (slotLaw measured && storeLaw measured) = true ∧ inputs.siblings = [⟨axleB, 893400⟩] := by decide +kernel

theorem witness_DepthIsSplit_bands :
    inputs.ta ≤ inputs.tb ∧ inputs.tb ≤ inputs.tc ∧ (planCut inputs (planFigures inputs)).passes.l ≠ [] := by decide +kernel

theorem witness_DepthIsSplit : 0 < 1000 ∧ 0 < 15000 ∧ 15000 ≤ 15000 ∧ 1000 ≤ 1000 ∧ (passDepths 15000 1 1000).length = 16 := by
  decide +kernel

theorem witness_TurningBegins :
    ready planned = true ∧ planned.pil.pitStop = false ∧ planned.pil.owners.heads = .link ∧ tcuFree planned = true ∧
    planned.pmu.phase = .idle ∧ (planned.tcu.head.all fun h => h.owner == .none) = true ∧ turnBlocked planned = false ∧
    planFits planned = true ∧ turnSupported planned = true ∧ planned.tcu.spindle = .stopped ∧
    (planned.tcu.head.all fun h => h.position == .parked) = true ∧ toolsReady planned .l = true ∧
    toolsReady planned .r = true ∧ planned.slp.silenceHold = false ∧ noneTripped [.m8] planned = true := by decide +kernel

theorem witness_TurningIsPaused :
    ready cutting = true ∧ cutting.tcu.state = .cutting ∧ ready runningUp = true ∧ runningUp.tcu.state = .runup ∧
    passStatus .l cutting = some .active ∧ ready (paused .rundown) = true ∧ turningPaused (paused .rundown) = true ∧
    ready clamped = true ∧ turningLive clamped = false := by decide +kernel

theorem witness_TurningIsResumed :
    ([Spindle.runup 80, .stopped, .rundown, .atSpeed 80].all fun x =>
      let s := paused x
      ready s && !s.pil.pitStop && s.pil.owners.heads == .link && !turnBlocked s && turningPaused s && turnSupported s &&
        toolsFit s .l && toolsFit s .r && !s.slp.silenceHold && s.tcu.spindle == x && noneTripped [.m8] s) = true ∧
    (paused (.atSpeed 80)).tcu.progress.map Progress.step = some 1 ∧
    passInStep 1 (planPasses .l (paused (.atSpeed 80))) = some 1 ∧
    (passStatuses .l (paused (.atSpeed 80)))[1 - 1]? = some .incomplete ∧
    ((planPasses .l (paused (.atSpeed 80)))[1 - 1]?).isSome = true ∧
    (let s := pausedIn 1 [.pending, .pending, .pending, .pending] [.complete, .pending, .pending, .pending] (.atSpeed 80)
     ready s = true ∧ turningPaused s = true ∧ turnSupported s = true ∧ toolsFit s .l = true ∧ toolsFit s .r = true ∧
     (passStatuses .l s)[1 - 1]? = some .pending) := by decide +kernel

/-- TurningIsResumed where the step is complete: in the last step, and before it; and a re-cut of head R. -/
theorem witness_TurningIsResumed_complete :
    (let good := fun s : State => ready s && !s.pil.pitStop && s.pil.owners.heads == .link && !turnBlocked s &&
        turningPaused s && turnSupported s && toolsFit s .l && toolsFit s .r && !s.slp.silenceHold &&
        s.tcu.spindle == .atSpeed 80
     let all := [PassStatus.complete, .complete, .complete, .complete]
     let two := [PassStatus.complete, .complete, .pending, .pending]
     let last := pausedIn 4 all all (.atSpeed 80)
     let next := pausedIn 2 two two (.atSpeed 80)
     let recut := pausedIn 2 two [.complete, .incomplete, .pending, .pending] (.atSpeed 80)
     good last && good next && good recut && last.tpe.plan.cut.map PlanCut.steps == some 4 &&
       ([(4, last), (2, next)].all fun (k, s) => s.tcu.progress.map Progress.step == some k && sideStepDone k s .l &&
         sideStepDone k s .r && !wornForLater k s .l && !wornForLater k s .r) &&
       passInStep 2 (planPasses .r recut) == some 2 && (passStatuses .r recut)[2 - 1]? == some .incomplete) = true := by
  decide +kernel

def endingWith (aborted : Bool) (spindle : Spindle) : State :=
  still ((turningWith (.ending aborted) spindle).modTcu fun t => { t with stopTimer := some 2000 })

theorem witness_TurningIsAborted :
    ready cutting = true ∧ turningLive cutting = true ∧ cutting.slp.resetPending = false ∧
    (cutting.tcu.head.get .l).position ≠ .parked ∧ (cutting.tcu.head.get .l).position ≠ .halted ∧
    passStatus .l cutting = some .active ∧ seatedRecord cutting = some axleA ∧ openFind axleA cutting = some openA ∧
    ready (endingWith true .rundown) = true ∧ (endingWith true .rundown).tcu.state = .ending true ∧
    ready clamped = true ∧ turningInProgress clamped = false := by decide +kernel

/-- Heads at will. -/
def withHeads (f : Head → Head) (s : State) : State := still (s.modTcu fun t => { t with head := t.head.map f })

theorem witness_HeadsTravel :
    (settled (withHeads (fun h => { h with position := .halted }) ground) = true ∧
      canDispatch (withHeads (fun h => { h with position := .halted }) ground) = true ∧
      (withHeads (fun h => { h with position := .halted }) ground).pil.owners.heads = .link ∧
      ((withHeads (fun h => { h with position := .halted }) ground).tcu.head.get .l).owner = .none) ∧
    (settled claiming = true ∧ canDispatch claiming = true ∧ (claiming.tcu.head.get .l).owner ≠ .none) ∧
    (settled ground = true ∧ ground.pil.pitStop = false ∧ (ground.tcu.head.get .l).owner = .none ∧
      (ground.tcu.head.get .l).position = .parked) ∧
    (let s := withHeads (fun h => { h with position := .retracted }) (pendantOwns ground)
     settled s = true ∧ s.pil.pitStop = false ∧ s.pil.owners.heads = .pendant ∧ s.slp.resetPending = false ∧
     (s.tcu.head.all fun h => h.owner == .none && h.position == .retracted) = true) ∧
    ([HeadPosition.moving, .inCut, .probing, .atWork].all fun x =>
      let s := withHeads (fun h => { h with position := x }) ground
      ready s && !s.pil.pitStop && s.pil.owners.heads == .link && (s.tcu.head.get .l).owner == .none) = true ∧
    ([HeadDest.park, .retracted, .scanStart, .tapingLine, .passStart, .atWork].all fun d =>
      let s := withHeads (fun h => { h with owner := .measure, position := .moving, dest := some d }) clamped
      settled s && (s.tcu.head.get .l).position == .moving && (s.tcu.head.get .l).dest == some d &&
        !headInSweep .l s && !referenceRunning .l s && s.tcu.state != .cutting) = true ∧ sideOf 2 = none := by decide +kernel

/-- HeadsTravel: the arrival that ends a turning, done and aborted, one before the spindle has STOPPED and one before the
other head; and the head of a reference sweep that has ended, and of one that runs on. -/
theorem witness_HeadsTravel_park :
    ([true, false].all fun ab => [Spindle.stopped, .rundown].all fun x => [HeadPosition.parked, .halted, .moving].all fun other =>
      let s := still ((endingWith ab x).modTcu fun t =>
        { t with head := ⟨{ t.head.l with position := .moving, dest := some .park }, { t.head.r with position := other }⟩ })
      s.tcu.state == .ending ab && s.tcu.spindle == x && (s.tcu.head.get Side.l.other).position == other &&
        (s.tcu.head.get .l).position == .moving && (s.tcu.head.get .l).dest == some .park) = true ∧
    ([true, false].all fun ended =>
      let s := still (withHeads (fun h => { h with owner := .measure, position := .parked, dest := some .stow })
        (if ended then clamped else referringL []))
      (s.tcu.head.get .l).position == .parked && (s.tcu.head.get .l).dest == some .stow &&
        referenceRunning .l s == !ended && !headInSweep .l s) = true := by decide +kernel

/-- R130: the last head's arrival at park ends the turning: DONE, the plan SPENT, both heads released. -/
theorem test_last_head_parks :
    after (exec (.headMoveEnd .l true) ((endingWith false .stopped).modTcu fun t =>
        { t with head := ⟨{ t.head.l with position := .moving, dest := some .park }, t.head.r⟩ })) (fun t =>
      t.tcu.state == .done && t.tpe.plan.state == .spent && t.pmu.turnedSince &&
        t.tcu.head.all fun h => h.owner == .none) = true := by decide +kernel

/-- Head L on its way to AT_WORK, in a step and with the statuses of the passes and a tool at will. -/
def arriving (step : Nat) (l r : List PassStatus) (tool : ToolState) : State :=
  still (cutting.modTcu fun t =>
    { t with
      head := ⟨{ t.head.l with position := .moving, dest := some .atWork, zDone := none, remaining := none, tool := tool },
        t.head.r⟩
      progress := some ⟨step, ⟨l, r⟩, 135000⟩ })

/-- HeadsTravel, an arrival while CUTTING: the step of head R not complete, the last step, a worn tool, and the next step. -/
theorem witness_HeadsTravel_step :
    let one := [PassStatus.complete, .pending, .pending, .pending]
    let all := [PassStatus.complete, .complete, .complete, .complete]
    ([(1, one, [PassStatus.incomplete, .pending, .pending, .pending], ToolState.usable, false, false), (4, all, all, .worn, true, false),
      (1, one, one, .worn, true, true), (1, one, one, .usable, true, false)].all fun (k, l, r, tool, stepDone, worn) =>
        let s := arriving k l r tool
        let there := modHead .l (fun h => { h with position := .atWork, dest := none }) s
        (s.tcu.head.get .l).position == .moving && (s.tcu.head.get .l).dest == some .atWork && s.tcu.state == .cutting &&
          s.tcu.progress == some ⟨k, ⟨l, r⟩, 135000⟩ && (s.tpe.plan.cut.map PlanCut.steps) == some 4 &&
          [Side.l, .r].all (sideStepDone k there) == stepDone && [Side.l, .r].any (wornForLater k there) == worn) = true ∧
    seatedRecord cutting = some axleA ∧ openFind axleA cutting = some openA := by decide +kernel

/-- EdgeIsIndexed: the last edge and the last but one, an EXHAUSTED tool, a head in the cut. -/
theorem witness_EdgeIsIndexed :
    ready ground = true ∧ sideOf 2 = none ∧ sideOf 1 = some .r ∧ ready cutting = true ∧
    (cutting.tcu.head.get .l).position = .inCut ∧ cutting.tcu.state = .cutting ∧
    ([2, 3, 4, 8].all fun n =>
      let s := withHeads (fun h => { h with tool := .worn, edgesUsed := n }) ground
      ready s && (s.tcu.head.get .r).position != .inCut && s.tcu.state != .cutting && (s.tcu.head.get .r).tool != .exhausted &&
        s.sst.active.edgesPerInsert == 4) = true ∧
    (let s := withHeads (fun h => { h with tool := .exhausted, edgesUsed := 4 }) ground
     ready s = true ∧ (s.tcu.head.get .r).tool = .exhausted) := by decide +kernel

/-- IndexEventIsTaken: no cut and no ring; a cut with its travel one short and one done. -/
theorem witness_IndexEventIsTaken :
    headInCut runningUp = false ∧ runningUp.pmu.phase ≠ .ringWait ∧ (runningUp.tcu.head.get .l).dest ≠ some .awaitIndex ∧
    (runningUp.tcu.head.get .r).dest ≠ some .awaitIndex ∧
    ([134499, 134500].all fun z =>
      let s := cutting.modTcu fun t => { t with head := { t.head with l := { t.head.l with zDone := some z } } }
      s.pmu.phase != .ringWait && s.tcu.head.l.position == .inCut && s.tcu.head.l.zDone == some z &&
        s.tcu.progress.map Progress.lProf == some 135000 && s.tcu.head.r.position != .inCut &&
        s.tcu.head.r.dest != some .awaitIndex && s.tcu.head.l.feed == 500) = true ∧
    134499 + 500 < 135000 ∧ 135000 ≤ 134500 + 500 ∧ passStatus .l cutting = some .active ∧
    cutting.tcu.revolutions < 4294967295 := by decide +kernel

/-- IndexEventIsTaken: both heads in the cut, and a head that begins its cut beside one that cuts. -/
theorem witness_IndexEventIsTaken_heads :
    (let both := cutting.modTcu fun t => { t with head := { t.head with r :=
       { t.head.r with position := .inCut, zDone := some 134500, remaining := some 1 } } }
     both.tcu.progress = some ⟨1, ⟨[.active, .pending, .pending, .pending], [.complete, .pending, .pending, .pending]⟩, 135000⟩ ∧
     noneTripped [.m9, .m10] both = true ∧ headInCut both = true ∧ (both.tcu.head.get .l).zDone = some 0 ∧
     (both.tcu.head.get .r).zDone = some 134500) ∧
    (let enters := (awaiting 0).modTcu fun t => { t with head := { t.head with r :=
       { t.head.r with position := .inCut, zDone := some 0, remaining := some 270 } } }
     enters.tcu.progress.isSome = true ∧ noneTripped [.m9, .m10] enters = true ∧
     (enters.tcu.head.get .l).position = .moving ∧ (enters.tcu.head.get .l).dest = some .awaitIndex ∧
     headInCut enters = true) := by decide +kernel

/-- IndexEventIsTaken in RING_WAIT: the first and the second revolution counted, and one that is not, the spindle not yet at
its speed. -/
theorem witness_IndexEventIsTaken_ring :
    let wait := fun (n : Nat) (spindle : Spindle) => still ((ringScan.modPmu fun p =>
      { p with phase := .ringWait, settle := n, head := p.head.map fun h => { h with modeOk := true } }).modTcu fun t =>
        { t with spindle := spindle })
    ([0, 1].all fun n => [Spindle.atSpeed 10, .runup 10].all fun x =>
      let s := wait n x
      s.pmu.phase == .ringWait && s.pmu.selected == some .both && !headInCut s && s.pmu.settle == n &&
        (s.tcu.head.all fun h => h.dest == none && h.position == .probing) && s.gbc.queue == [] && s.gbc.held == .both []) =
      true ∧ atSpeed (wait 0 (.atSpeed 10)) = true ∧ atSpeed (wait 0 (.runup 10)) = false := by decide +kernel

theorem witness_FeedStaysInRange :
    Settings.defaults.fMin ≤ Settings.defaults.fMax ∧ Settings.defaults.fMin ≤ cutting.tcu.head.l.feed ∧
    cutting.tcu.head.l.feed ≤ Settings.defaults.fMax ∧ Settings.defaults.feedMode = .full ∧
    ({ Settings.defaults with feedMode := .oneStep } : Settings).feedMode = .oneStep ∧ [1100, 1180] ≠ ([] : List Nat) ∧
    (∀ x ∈ [1100, 1180], 1100 ≤ x) ∧ 1100 ≤ 5000 ∧ (∀ x ∈ [1000, 1100], x ≤ 1100) := by decide +kernel

/-- SpindleFollowsRollers: 2 % of 80 m/min is 1,600 mm/min. -/
theorem witness_SpindleFollowsRollers :
    spindleTarget clamped = none ∧ cutting.tcu.spindle = .atSpeed 80 ∧ runningUp.tcu.spindle = .runup 80 ∧
    withinTarget ((78400 + 78400) / 2) 80 = true ∧ withinTarget ((78399 + 78399) / 2) 80 = false ∧
    runningUp.tcu.state = .runup ∧ runningUp.tcu.progress.map Progress.step = some 0 ∧
    (passInStep 1 (planPasses .l runningUp)).isSome = true ∧ (runningUp.tcu.head.get .l).tool = .usable ∧
    (let s := still (clamped.modTcu fun t => { t with state := .measureRun .done, spindle := .runup 10 })
     s.tcu.spindle = .runup 10 ∧ s.tcu.state ≠ .runup) := by decide +kernel

/-- SpindleFollowsRollers at AT_SPEED after a RESUME: a pass to re-cut, a step that goes on, the last step, a worn tool,
and the next step. -/
theorem witness_SpindleFollowsRollers_resumed :
    let one := [PassStatus.complete, .pending, .pending, .pending]
    let all := [PassStatus.complete, .complete, .complete, .complete]
    ([(1, one, [PassStatus.incomplete, .pending, .pending, .pending], ToolState.usable, false, false),
      (1, [.incomplete, .pending, .pending, .pending], one, .worn, false, true),
      (1, [.pending, .pending, .pending, .pending], one, .usable, false, false), (1, one, [.active, .pending, .pending, .pending], .usable, false, false), (4, all, all, .worn, true, false),
      (1, one, one, .worn, true, true), (1, one, one, .usable, true, false)].all fun (k, l, r, tool, stepDone, worn) =>
        let s := still ((pausedIn k l r (.runup 80)).modTcu fun t =>
          { t with state := .runup, head := { t.head with l := { t.head.l with tool := tool } } })
        s.tcu.state == .runup && s.tcu.spindle == .runup 80 && s.tcu.progress == some ⟨k, ⟨l, r⟩, 135000⟩ &&
          (s.tpe.plan.cut.map PlanCut.steps) == some 4 && [Side.l, .r].all (sideStepDone k s) == stepDone &&
          [Side.l, .r].any (wornForLater k s) == worn) = true := by decide +kernel

theorem witness_SpindleFollowsRollers_stop :
    ([true, false].all fun ab =>
      let s := endingWith ab .rundown
      s.tcu.spindle == .rundown && s.tcu.stopTimer.isSome && !s.tcu.measuring && s.tcu.state == .ending ab &&
        s.tcu.head.all fun h => h.position == .parked) = true ∧
    (let s := still (clamped.modTcu fun t => { t with state := .measureRun .done, spindle := .rundown, stopTimer := some 2000 })
     s.tcu.spindle = .rundown ∧ s.tcu.stopTimer.isSome = true ∧ s.tcu.measuring = false ∧ s.tcu.state = .measureRun .done) := by
  decide +kernel

/-- SpindleFollowsRollers: a measuring run that waits for the spindle, with its support and without. -/
theorem witness_SpindleFollowsRollers_waiting :
    ([true, false].all fun held =>
      let s := still (((if held then ringScan else still (ringScan.modPil fun p =>
          { p with bridge := p.bridge.map fun b => { b with state := .halted } })).modPmu fun p =>
            { p with phase := .ringWait }).modTcu fun t =>
              { t with state := .measureRun .done, spindle := .rundown, stopTimer := some 2000 })
      s.tcu.spindle == .rundown && s.tcu.stopTimer.isSome && s.tcu.measuring && s.tcu.state == .measureRun .done &&
        (bothClamps .closed s && bothBridges .out s) == held && sweepRunning s && noneTripped [.m8] s) = true := by
  decide +kernel

def imaged : State :=
  still (seated.modSst fun t => { t with image := some ⟨.defaults, .both ⟨5, 1, .usable⟩, false⟩ })

theorem witness_ReadsAreServed :
    ready imaged = true ∧ sideOf 0 = some .l ∧ imaged.ahs.store = .ready ∧ idValid 10 axleB = true ∧
    (indexFind axleB imaged.ahs.index).isSome = true ∧ readRecord axleB imaged = some recordB ∧ 0 ≤ recordB.entries.length ∧
    (settingOf (.scalar 3 0)).isSome = true ∧ imaged.sst.store ≠ .writing ∧ imaged.sst.image.isSome = true := by decide +kernel

/-- HistoryIsMended: the record of the other axle retired, that of the seated one corrected at the edges of the range. -/
theorem witness_HistoryIsMended :
    ready seated = true ∧ seated.ahs.store = .ready ∧ idValid 10 axleB = true ∧
    indexFind axleB seated.ahs.index = some ⟨axleB, some 5⟩ ∧ commitOwed axleB seated = false ∧
    seatedOrWaited axleB seated = false ∧
    commitOwed axleA dirty = true ∧ ready dirty = true ∧ commitOwed axleA seated = false ∧ seatedOrWaited axleA seated = true ∧
    (let s := still (seated.modAhs fun a => { a with cache := [], link := .waiting axleA, opening := some ⟨axleA, true, none, true⟩ })
     ready s = true ∧ s.ahs.store = .ready ∧ commitOwed axleA s = false ∧ seatedOrWaited axleA s = true) ∧
    openFind axleA seated = some openA ∧ (indexFind axleA seated.ahs.index).isSome = true ∧ openingWaits seated = false ∧
    500000 ≤ 500000 ∧ 920000 ≤ 1200000 ∧ 920000 ≤ (seated.sst.active.wheelType openA.record.wheelType).dNew := by decide +kernel

theorem witness_DirtyRecordsAreQueued :
    ready State.reset = true ∧ State.reset.ahs.store = .loading ∧ ready dirty = true ∧ dirty.ahs.store = .ready ∧
    axleA ∉ dirty.ahs.queue ∧ (openFind axleA dirty).map (·.state) = some .dirty := by decide +kernel

def committing (c : Commit) (changed : Bool) : State :=
  still (seated.modAhs fun a =>
    { a with slots := putSlot c.slot (some (.written recordA)) a.slots, commit := some c, cache := [⟨recordA, .committing, changed⟩] })

theorem witness_CommitsRun :
    (let s := still (dirty.modAhs fun a => { a with queue := [axleA] })
     settled s = true ∧ slotLaw s = true ∧ s.ahs.opening = none ∧ s.ahs.commit = none ∧ s.ahs.store = .ready ∧
     s.sst.store = .idle ∧ s.ahs.queue = axleA :: [] ∧ openFind axleA s = some { openA with state := .dirty } ∧
     CacheState.dirty ≠ .clean ∧ lowestFree s.ahs.slots = some 1) ∧
    ([true, false].all fun x =>
      let c : Commit := ⟨axleA, 1, .verify, x, 0⟩
      let s := committing c x
      settled s && slotLaw s && s.ahs.opening == none && s.ahs.commit == some c && c.stage == .verify &&
        openFind axleA s == some ⟨recordA, .committing, x⟩ && slotAt 1 s.ahs.slots == some (.written recordA) &&
        lowestFree (putSlot 1 (some .bad) s.ahs.slots) == some 2) = true := by decide +kernel

/-- The array with its first two slots at will and no other slot free. -/
def noneFree (first second : Slot) : List (Nat × Slot) :=
  (0, first) :: (1, second) :: (List.range' 2 542).map fun k => (k, .bad)

theorem noneFree_full (first second : Slot) : ∀ k, k < 544 → slotAt k (noneFree first second) ≠ none := by
  have h : ∀ n lo k, lo ≤ k → k < lo + n → slotAt k ((List.range' lo n).map fun k => (k, Slot.bad)) ≠ none := by
    intro n
    induction n with
    | zero => omega
    | succ n ih =>
      intro lo k hl hk
      simp only [List.range'_succ, List.map_cons, slotAt]
      split
      · simp
      · exact ih (lo + 1) k (by omega) (by omega)
  intro k hk
  unfold noneFree
  simp only [slotAt]
  repeat' split
  all_goals simp
  exact h 542 2 k (by omega) (by omega)

/-- CommitsRun with no free good slot, at the first write and at the retry; and a record that is CLEAN in the queue. -/
theorem witness_CommitsRun_full :
    (let s := still (dirty.modAhs fun a => { a with queue := [axleA], slots := noneFree (.valid recordA) (.valid recordB) })
     settled s = true ∧ slotLaw s = true ∧ s.ahs.opening = none ∧ s.ahs.commit = none ∧ s.ahs.store = .ready ∧
     s.sst.store = .idle ∧ s.ahs.queue = axleA :: [] ∧ openFind axleA s = some { openA with state := .dirty } ∧
     s.ahs.slots = noneFree (.valid recordA) (.valid recordB)) ∧
    (let c : Commit := ⟨axleA, 1, .verify, false, 0⟩
     let s := still ((committing c true).modAhs fun a => { a with slots := noneFree (.valid recordA) (.written recordA) })
     settled s = true ∧ slotLaw s = true ∧ s.ahs.opening = none ∧ s.ahs.commit = some c ∧
     openFind axleA s = some ⟨recordA, .committing, true⟩ ∧ slotAt 1 s.ahs.slots = some (.written recordA) ∧
     s.ahs.slots = noneFree (.valid recordA) (.written recordA)) ∧
    (let s := still (seated.modAhs fun a => { a with queue := [axleA] })
     settled s = true ∧ slotLaw s = true ∧ s.ahs.opening = none ∧ s.ahs.commit = none ∧ s.ahs.store = .ready ∧
     s.sst.store = .idle ∧ s.ahs.queue = axleA :: [] ∧ openFind axleA s = some openA ∧ openA.state = .clean) := by
  decide +kernel

/-- The law of R147 through a creation, a commit and a retirement. -/
theorem witness_StepKeepsSlots :
    ([(presentUnread, Instr.seatAxle 1#8 axleA 0 bogieA 1 false), (committing ⟨axleA, 1, .verify, false, 0⟩ false, .commitVerifyDone true),
      (still (ground.modAhs fun a => { a with slots := seated.ahs.slots, index := seated.ahs.index }), .retireAxle 1#8 axleB),
      (still (ground.modAhs fun a => { a with slots := seated.ahs.slots, store := .loading }), .startupScanEnd [])].all fun (s, i) =>
        (slotLaw s && commitInArray s && storeLaw s && workLaw s) &&
          after (step (s.withPending [i])) fun t => storeLaw t && workLaw t && t.ahs != s.ahs) = true := by decide +kernel

/-- The works that exclude one another, each begun where the law holds: a lift move, a sweep, plan work, a turning; and a
mark whose record is being opened. -/
theorem witness_StepKeepsSlots_works :
    ([(seated, Instr.takeLoad 1#8), (clamped, .sweep 1#8 2), (measured, .plan 1#8), (planned, .turn 1#8),
      (planning inputs, .planComputationEnd)].all fun (s, i) =>
        workLaw s && after (step (s.withPending [i])) fun t =>
          workLaw t && (liftMoving t || sweepRunning t || t.tpe.work != .idle || turningInProgress t)) = true := by
  decide +kernel

/-- The record of axle B being opened, for a seating and for a mark. -/
def opening (seating : Bool) : State :=
  still (seated.modAhs fun a =>
    { a with
      cache := []
      link := if seating then .waiting axleB else .opened axleA
      opening := some ⟨axleB, seating, none, true⟩ })

theorem witness_RecordsAreFound :
    ([true, false].all fun x =>
      let s := opening x
      settled s && s.ahs.opening == some ⟨axleB, x, none, true⟩ && !isOpen axleB s &&
        indexFind axleB s.ahs.index == some ⟨axleB, some 5⟩ && slotAt 5 s.ahs.slots == some (.valid recordB) &&
        recordB.axleId == axleB) = true ∧
    (let s := still ((opening false).modTpe fun t =>
      { t with
        work := .marking
        marks := [⟨axleB, 889110, axleA⟩]
        computed := some (planFigures inputs, planCut inputs (planFigures inputs)) })
     settled s = true ∧ s.tpe.marks = [⟨axleB, 889110, axleA⟩] ∧
     s.tpe.computed = some (planFigures inputs, planCut inputs (planFigures inputs)) ∧ recordB.state = .inService) ∧
    (let s := still (State.reset.modAhs fun a => { a with slots := [(0, .valid recordA), (543, .written recordB)] })
     settled s = true ∧ s.ahs.store = .loading ∧ slotLaw s = true) := by decide +kernel

/-- The record of axle B retired while the opening for its mark waits for a place, the cache held by a commit. -/
def retiredMark : State :=
  still (((committing ⟨axleA, 1, .verify, true, 0⟩ false).modAhs fun a =>
    { a with link := .none, index := [⟨axleA, some 0⟩], opening := some ⟨axleB, false, none, false⟩ }).modTpe fun t =>
      { t with
        work := .marking
        marks := [⟨axleB, 889110, axleA⟩]
        computed := some (planFigures inputs, planCut inputs (planFigures inputs)) })

theorem witness_RecordsAreFound_retired :
    settled retiredMark = true ∧ retiredMark.ahs.commit = some ⟨axleA, 1, .verify, true, 0⟩ ∧
    openFind axleA retiredMark = some ⟨recordA, .committing, false⟩ ∧ seatedRecord retiredMark ≠ some axleA ∧
    retiredMark.ahs.opening = some ⟨axleB, false, none, false⟩ ∧ indexFind axleB retiredMark.ahs.index = none ∧
    retiredMark.tpe.marks = [⟨axleB, 889110, axleA⟩] ∧ retiredMark.tpe.computed.isSome = true := by decide +kernel

/-- R158: the mark of a record that is retired while it waits is skipped, and no record is closed for it. -/
theorem test_retired_mark_is_skipped :
    after (exec (.commitVerifyDone true) retiredMark) (fun t =>
      t.tpe.plan.state == .ready && t.tpe.work == .idle && t.ahs.opening == none &&
        (openFind axleA t).map OpenRecord.state == some .clean) = true := by decide +kernel

/-- SettingIsSet: set at the edges of the range and past them, held, a plan input of a plan IN_USE, no setting at all. -/
theorem witness_SettingIsSet :
    ready ground = true ∧ settingOf (.scalar 99 0) = none ∧ settingOf (.scalar 2 0) = some .liftMode ∧
    badValue .liftMode 2 = true ∧ badValue .liftMode 1 = false ∧ ground.sst.store = .idle ∧
    (isPlanInput ground .liftMode && planInUse ground) = false ∧ settingHeld ground .liftMode = false ∧
    settingsGood ground.sst.active = true ∧ workLaw ground = true ∧ ready rising = true ∧ settingHeld rising .liftMode = true ∧
    ready cutting = true ∧ (isPlanInput cutting .depthLimit && planInUse cutting) = true := by decide +kernel

/-- SettingIsSet, what the owners do: a bearing threshold above the loads of a turning, the modes of a monitor that is QUIET,
WARNED or of a clamp that moves, a READY plan, tools that have reached the new life, a zero silence timeout. -/
theorem witness_SettingIsSet_acts :
    workLaw cutting = true ∧ workLaw planned = true ∧ settingHeld cutting .bearing = false ∧ (isPlanInput cutting .bearing && planInUse cutting) = false ∧
    badValue .bearing 9000 = false ∧ spindleRunning cutting = true ∧ turningLive cutting = true ∧
    zoneAfresh { cutting.sst.active with bearing := 9000 } (cutting.blu.posts.get .p1).load ≠ .bearing ∧
    (cutting.blu.posts.get .p1).zone = .bearing ∧
    ([MonitorMode.latched, .perStroke, .warnOnly, .off].all fun mode =>
      let quiet := still (withMode .m5 mode ground)
      let warned := still (withMode .m5 mode (withMonitor .m5 (fun m => { m with state := .warned, condition := true }) unclamped))
      let timeout := still (withMode .m6 mode ((closing .latched).modBlu fun b =>
        { b with clamp := { b.clamp with l := { b.clamp.l with timeout := true } } }))
      ready quiet && workLaw quiet && workLaw warned && workLaw timeout && !clampsMoving quiet && (quiet.fmu.monitors.get .m5).state == .quiet &&
        quiet.sst.active.monitorMode.get .m5 == mode && !settingHeld quiet (.monitorMode .m5) &&
        warned.sst.active.monitorMode.get .m5 == mode && clampsMoving timeout &&
        !settingHeld timeout (.monitorMode .m6)) = true ∧
    badValue (.monitorMode .m5) 3 = false ∧ badValue (.probeOffset .l) 5 = false ∧
    ready planned = true ∧ planned.tpe.plan.state = .ready ∧ isPlanInput planned .depthLimit = true ∧
    planInUse planned = false ∧ isPlanInput planned .edgeLife = false ∧ planned.pmu.phase = .idle ∧
    badValue .edgeLife 700 = false ∧ badValue .edgesPerInsert 4 = false ∧ badValue .fMin 300 = false ∧
    badValue .silenceTimeout 0 = false ∧ settingHeld planned .edgeLife = false := by decide +kernel

/-- SettingIsSet, the value taken: at an end of the range, and at an order of its group. -/
theorem witness_SettingIsSet_value :
    let st := { Settings.defaults with overload := 6000 }
    settingsGood st = true ∧ settingOf (.scalar 4 0) = some .bearing ∧ badValue .bearing 9000 = false ∧
    badValue .bearing 0 = false ∧ takenValue st .bearing 0 = 500 ∧ takenValue st .bearing 9000 = 5999 := by decide +kernel

theorem witness_SettingsAreStored :
    settled imaged = true ∧ canDispatch imaged = true ∧ imaged.sst.store = .idle ∧ autoloadOf 0 = some true ∧
    planInUse imaged = false ∧ settingsHeld imaged = false ∧ settled rising = true ∧ settingsHeld rising = true ∧
    planInUse rising = false ∧ settled seated = true ∧ seated.sst.image = none ∧ settingsHeld seated = false ∧
    (let s := still (imaged.modSst fun t => { t with store := .pending, snapshot := t.image })
     settled s = true ∧ s.sst.store = .pending ∧ s.ahs.store = .ready ∧ s.ahs.commit = none) ∧
    (let s := still (imaged.modSst fun t => { t with store := .writing, snapshot := t.image, image := none })
     settled s = true ∧ s.sst.store = .writing) := by decide +kernel

/-- SettingsAreStored, what the owners do: an image that differs in what each of them looks at, loaded by a PAUSED turning
at its speed, and with a READY plan. -/
theorem witness_SettingsAreStored_owners :
    let st := { Settings.defaults with
      bearing := 3000, probeOffset := ⟨5, 0⟩, fMin := 600, fStart := 600, silenceTimeout := 50
      monitorMode := ((Settings.defaults.monitorMode.set .off .m1).set .warnOnly .m2) }
    settingsGood st = true ∧
    ([paused (.atSpeed 80), planned].all fun s =>
      let s := still (s.modSst fun t => { t with image := some ⟨st, .both ⟨5, 1, .usable⟩, false⟩ })
      settled s && canDispatch s && s.sst.store == .idle && !settingsHeld s && workLaw s) = true ∧ workLaw imaged = true ∧
    spindleRunning (paused (.atSpeed 80)) = true ∧ (cutting.blu.posts.get .p1).zone = .bearing ∧
    zoneAfresh st (cutting.blu.posts.get .p1).load ≠ .bearing ∧ planInUse planned = false ∧ planned.tpe.plan.state = .ready := by
  decide +kernel

def resetting : State := still (seated.modSlp fun p => { p with resetPending := true })

theorem witness_SilenceHoldIsCleared : ready ground = true ∧ resetReady resetting = true := by decide +kernel

def silent (mode : SilenceMode) (s : State) : State :=
  still ((s.modSlp fun p => { p with silenceTimer := some 30 }).modSst fun t => { t with active := { t.active with silenceMode := mode } })

theorem witness_SilenceExpires :
    (silent .report cutting).slp.silenceTimer.isSome = true ∧ settled (silent .report cutting) = true ∧
    (silent .report cutting).sst.active.silenceMode = .report ∧
    (silent .hold cutting).slp.silenceTimer.isSome = true ∧ (silent .hold cutting).sst.active.silenceMode = .hold ∧
    (silent .hold cutting).tcu.state = .cutting ∧ liftMoving (silent .hold rising) = true ∧
    (silent .hold rising).slp.silenceTimer.isSome = true ∧ sweepRunning (silent .hold ringScan) = true ∧
    (silent .hold ringScan).slp.silenceTimer.isSome = true := by decide +kernel

/-- STATUS as a frame: its bytes after SYNC. -/
def statusBytes : List Byte := (frameBytes 0x48#8 7#8 []).drop 1
def receiving (bytes : List Byte) : State :=
  still (ground.modSlp fun p => { p with receiver := .inFrame bytes, gapTimer := some 5 })

/-- FramesAreReceived: the lengths 248 and 249, the last byte but one, the last, and a last byte that spoils the CRC. -/
theorem witness_FramesAreReceived :
    settled ground = true ∧ ground.slp.receiver = .hunting ∧
    (let s := receiving (statusBytes.take 4)
     settled s = true ∧ s.slp.receiver = .inFrame (statusBytes.take 4) ∧ s.slp.gapTimer.isSome = true) ∧
    statusBytes.length = 5 ∧ frameOf statusBytes = some ⟨0x48#8, 7#8, []⟩ ∧
    frameOf (statusBytes.take 4 ++ [(statusBytes.getD 4 0#8) ^^^ 1#8]) = none ∧ statusBytes.getD 0 1#8 = 0#8 ∧
    (0xF8#8).toNat ≤ 248 ∧ 248 < (0xF9#8).toNat := by decide +kernel

def withFrame (f : Frame) (s : State) : State := still (s.modSlp fun p => { p with queue := [f] })

theorem witness_FrontFrameIsDispatched :
    settled ground = true ∧ ground.slp.queue = [] ∧
    (let s := withFrame ⟨0x11#8, 7#8, []⟩ seated
     settled s = true ∧ canDispatch s = true ∧ s.slp.queue = ⟨0x11#8, 7#8, []⟩ :: [] ∧
     Decode.frame ⟨0x11#8, 7#8, []⟩ = .ok (.takeLoad 7#8)) ∧
    Decode.frame ⟨0x7F#8, 7#8, []⟩ = .error .unknownRequest ∧ (0x7F#8 : Byte).toNat = 127 ∧
    Decode.frame ⟨0x02#8, 7#8, [0#8]⟩ = .error .badParameter ∧ canDispatch resetting = false ∧ settled resetting = true := by
  decide +kernel

def sending (x : Transmitter) (r : Option Reply) (due : Bool) : State :=
  still (ground.modSlp fun p => { p with transmitter := x, replySlot := r, reportDue := due })

theorem witness_FramesAreSent :
    ([Transmitter.idle, .sendingReply [1#8], .sendingReport [1#8]].all fun x =>
      [none, some ⟨0xC8#8, 1#8, .late .status⟩].all fun r => [true, false].all fun due =>
        let s := sending x r due
        settled s && s.slp.transmitter == x && s.slp.replySlot == r && s.slp.reportDue == due) = true := by decide +kernel

/-- RequestsAreCarried: a request's frame, and a frame of the greatest length at a part that hunts. -/
theorem witness_RequestsAreCarried :
    Decode.toFrame (.lift 7#8 159000) = some ⟨0x10#8, 7#8, [0x00#8, 0x02#8, 0x6D#8, 0x18#8]⟩ ∧
    (Instr.lift 7#8 159000).wf = true ∧ settled ground = true ∧ (List.replicate 248 (0xA5#8 : Byte)).length ≤ 248 ∧
    ground.slp.receiver = .hunting ∧ ground.slp.gapTimer = none := by decide +kernel

theorem witness_PartIsReset :
    ready rising = true ∧ resetRefused rising = true ∧ ready seated = true ∧ resetRefused seated = false ∧
    resetReady ground = false ∧ settled ground = true ∧ resetReady resetting = true ∧ imaged.sst.image.isSome = true ∧
    ground.sst.image = none := by decide +kernel

/-- PartIsReset: RESET with a turning PAUSED, its record in each state; a DIRTY record; and a link reset in an observation
that has seen head L addressed. -/
theorem witness_PartIsReset_kept :
    ([CacheState.clean, .dirty, .committing].all fun c =>
      let s := still ((paused .stopped).modAhs fun a => { a with cache := [{ openA with state := c }] })
      ready s && !resetRefused s && workLaw s && turningPaused s && seatedRecord s == some axleA &&
        openFind axleA s == some { openA with state := c }) = true ∧
    ready dirty = true ∧ resetRefused dirty = false ∧ openFind axleA dirty = some { openA with state := .dirty } ∧
    turningPaused dirty = false ∧ workLaw dirty = true ∧ workLaw seated = true ∧
    (let s := still (resetting.modGbc fun g => { g with bus := .observing, observation := some ⟨true, ⟨true, false⟩, false⟩ })
     resetReady s = true ∧ s.gbc.observation = some ⟨true, ⟨true, false⟩, false⟩) := by decide +kernel

end Sys2Proof.Tests
end

section
namespace Sys2Proof.Machine

/-! ## The order of the axle IDs -/

@[simp] theorem idBefore_irrefl : ∀ a : List Byte, idBefore a a = false
  | [] => rfl
  | x :: xs => by simp [idBefore, idBefore_irrefl xs]

theorem idBefore_trans : ∀ {a b c : List Byte}, idBefore a b = true → idBefore b c = true → idBefore a c = true
  | [], [], _, h, _ => by cases h
  | [], _ :: _, [], _, h => by cases h
  | [], _ :: _, _ :: _, _, _ => rfl
  | _ :: _, [], _, h, _ => by cases h
  | _ :: _, _ :: _, [], _, h => by cases h
  | x :: xs, y :: ys, z :: zs, h1, h2 => by
    simp only [idBefore] at h1 h2 ⊢
    have ih := @idBefore_trans xs ys zs
    split_ifs at h1 h2 ⊢ <;> first | rfl | omega | exact ih h1 h2

/-- Of two different axle IDs one stands before the other. -/
theorem idBefore_total : ∀ {a b : List Byte}, a ≠ b → idBefore a b = false → idBefore b a = true
  | [], [], h, _ => absurd rfl h
  | [], _ :: _, _, h => by cases h
  | _ :: _, [], _, _ => rfl
  | x :: xs, y :: ys, hne, h => by
    simp only [idBefore] at h ⊢
    split_ifs at h ⊢ with h1 h2
    · rfl
    · have hxy : x = y := BitVec.eq_of_toNat_eq (by omega)
      exact idBefore_total (fun e => hne (by rw [hxy, e])) h

/-! ## The record index (R147) -/

/-- The entries stand in ascending order, each before all that follow. -/
theorem idsRise_iff : ∀ l : List IndexEntry,
    idsRise l = true ↔ l.Pairwise fun a b => idBefore a.axleId b.axleId = true
  | [] => by simp [idsRise]
  | [_] => by simp [idsRise]
  | a :: b :: rest => by
    have ih := idsRise_iff (b :: rest)
    simp only [idsRise, Bool.and_eq_true, ih]
    refine ⟨fun ⟨hab, hp⟩ => List.pairwise_cons.2 ⟨fun e he => ?_, hp⟩, fun h => ?_⟩
    · rcases List.mem_cons.1 he with rfl | he
      · exact hab
      · exact idBefore_trans hab (List.rel_of_pairwise_cons hp he)
    · exact ⟨List.rel_of_pairwise_cons h (List.mem_cons_self ..), h.of_cons⟩

theorem nodup_of_idsRise {l : List IndexEntry} (h : idsRise l = true) : (l.map IndexEntry.axleId).Nodup := by
  rw [idsRise_iff] at h
  refine List.pairwise_map.2 (h.imp fun {a b} hab e => ?_)
  rw [e, idBefore_irrefl] at hab
  cases hab

/-- The index has one entry for an axle ID. -/
theorem index_unique {l : List IndexEntry} (h : idsRise l = true) {d e : IndexEntry} (hd : d ∈ l) (he : e ∈ l)
    (hid : d.axleId = e.axleId) : d = e :=
  List.inj_on_of_nodup_map (nodup_of_idsRise h) hd he hid

theorem indexFind_mem {id : AxleId} {l : List IndexEntry} {e : IndexEntry} (h : indexFind id l = some e) :
    e ∈ l ∧ e.axleId = id :=
  ⟨List.mem_of_find?_eq_some h, by simpa using List.find?_some h⟩

theorem indexFind_isSome {id : AxleId} {l : List IndexEntry} :
    (indexFind id l).isSome = true ↔ ∃ e ∈ l, e.axleId = id := by
  simp [indexFind, List.find?_isSome]

theorem indexFind_eq_none {id : AxleId} {l : List IndexEntry} :
    indexFind id l = none ↔ ∀ e ∈ l, e.axleId ≠ id := by
  simp [indexFind]

theorem indexFind_of_mem {l : List IndexEntry} (h : idsRise l = true) {e : IndexEntry} (he : e ∈ l) :
    indexFind e.axleId l = some e := by
  obtain ⟨d, hd⟩ := Option.isSome_iff_exists.1 (indexFind_isSome.2 ⟨e, he, rfl⟩)
  obtain ⟨hm, hid⟩ := indexFind_mem hd
  rw [hd, index_unique h hm he hid]

theorem mem_indexInsert {d e : IndexEntry} {l : List IndexEntry} : d ∈ indexInsert e l ↔ d = e ∨ d ∈ l := by
  induction l with
  | nil => simp [indexInsert]
  | cons x rest ih =>
    simp only [indexInsert]
    split
    · simp
    · simp only [List.mem_cons, ih]; tauto

@[simp] theorem indexInsert_length (e : IndexEntry) (l : List IndexEntry) :
    (indexInsert e l).length = l.length + 1 := by
  induction l with
  | nil => rfl
  | cons x rest ih => simp only [indexInsert]; split <;> simp [ih]

/-- An entry of an axle ID that the index does not hold goes to its place. -/
theorem idsRise_indexInsert {e : IndexEntry} {l : List IndexEntry} (hnew : ∀ d ∈ l, d.axleId ≠ e.axleId)
    (h : idsRise l = true) : idsRise (indexInsert e l) = true := by
  rw [idsRise_iff] at h ⊢
  induction l with
  | nil => simp [indexInsert]
  | cons x rest ih =>
    obtain ⟨hx, hrest⟩ := List.pairwise_cons.1 h
    simp only [indexInsert]
    split
    · next hb =>
      refine List.pairwise_cons.2 ⟨fun d hd => ?_, h⟩
      rcases List.mem_cons.1 hd with rfl | hd
      · exact hb
      · exact idBefore_trans hb (hx d hd)
    · next hb =>
      refine List.pairwise_cons.2 ⟨fun d hd => ?_, ih (fun d hd => hnew d (.tail _ hd)) hrest⟩
      rcases mem_indexInsert.1 hd with rfl | hd
      · exact idBefore_total (Ne.symm (hnew x (.head _))) (by simpa using hb)
      · exact hx d hd

theorem idsRise_filter (p : IndexEntry → Bool) {l : List IndexEntry} (h : idsRise l = true) :
    idsRise (l.filter p) = true := by
  rw [idsRise_iff] at h ⊢
  exact h.filter p

theorem indexSetSlot_ids (id : AxleId) (n : Nat) (l : List IndexEntry) :
    (indexSetSlot id n l).map IndexEntry.axleId = l.map IndexEntry.axleId := by
  simp only [indexSetSlot, List.map_map]
  refine List.map_congr_left fun e _ => ?_
  simp only [Function.comp]
  split <;> rfl

theorem idsRise_indexSetSlot (id : AxleId) (n : Nat) {l : List IndexEntry} (h : idsRise l = true) :
    idsRise (indexSetSlot id n l) = true := by
  rw [idsRise_iff] at h ⊢
  rw [← List.pairwise_map (f := IndexEntry.axleId) (R := fun a b => idBefore a b = true)] at h ⊢
  rwa [indexSetSlot_ids]

theorem indexFind_isSome_indexSetSlot (id other : AxleId) (n : Nat) (l : List IndexEntry) :
    (indexFind other (indexSetSlot id n l)).isSome = (indexFind other l).isSome := by
  rw [Bool.eq_iff_iff, indexFind_isSome, indexFind_isSome]
  have h := congrArg (other ∈ ·) (indexSetSlot_ids id n l)
  simpa [List.mem_map] using h

theorem mem_slots_iff {l : List (Nat × Slot)} {n : Nat} {x : Slot} (lo : Nat) (h : slotsFrom lo l = true) :
    (n, x) ∈ l ↔ slotAt n l = some x := by
  induction l generalizing lo with
  | nil => simp [slotAt]
  | cons p rest ih =>
    obtain ⟨k, y⟩ := p
    simp only [slotsFrom, Bool.and_eq_true, decide_eq_true_eq] at h
    obtain ⟨⟨_, _⟩, hrest⟩ := h
    simp only [List.mem_cons, Prod.mk.injEq, slotAt, ih (k + 1) hrest]
    by_cases hn : n = k
    · have hb := slotAt_below (n := k) (lo := k + 1) (by omega) rest hrest
      subst hn
      simp [hb, eq_comm]
    · simp [hn]

/-- In a canonical array a slot is listed exactly where it is read. -/
theorem mem_slots {l : List (Nat × Slot)} (h : slotsWf l = true) (n : Nat) (x : Slot) :
    (n, x) ∈ l ↔ slotAt n l = some x := mem_slots_iff 0 h

/-- A slot made FREE leaves the array canonical, wherever it lies. -/
theorem slotsFrom_free (n : Nat) : ∀ (lo : Nat) (l : List (Nat × Slot)), slotsFrom lo l = true →
    slotsFrom lo (putSlot n none l) = true
  | _, [], _ => rfl
  | lo, (k, x) :: rest, hl => by
    have hl' := hl
    simp only [slotsFrom, Bool.and_eq_true, decide_eq_true_eq] at hl
    obtain ⟨hk, hrest⟩ := hl
    unfold putSlot
    split
    · exact hl'
    · split
      · exact slotsFrom_mono (by omega) rest hrest
      · simp only [slotsFrom, Bool.and_eq_true, decide_eq_true_eq]
        exact ⟨hk, slotsFrom_free n (k + 1) rest hrest⟩

theorem slotsWf_free (n : Nat) {l : List (Nat × Slot)} (h : slotsWf l = true) : slotsWf (putSlot n none l) = true :=
  slotsFrom_free n 0 l h

end Sys2Proof.Machine

namespace Sys2Proof.Machine

/-! ## The laws of the history store, clause by clause -/

/-- The clauses of `slotLaw` and `commitInArray`. -/
structure ArrayOk (a : Ahs) : Prop where
  wf : slotsWf a.slots = true
  inArray : ∀ c, a.commit = some c → c.slot < Config.slotCount

theorem arrayOk_iff (s : State) : (slotLaw s && commitInArray s) = true ↔ ArrayOk s.ahs := by
  have hc : commitInArray s = true ↔ ∀ c, s.ahs.commit = some c → c.slot < Config.slotCount := by
    unfold commitInArray
    cases s.ahs.commit <;> simp
  rw [Bool.and_eq_true, hc]
  exact ⟨fun ⟨h1, h2⟩ => ⟨h1, h2⟩, fun ⟨h1, h2⟩ => ⟨h1, h2⟩⟩

/-- An open record of an axle ID is the one that is found for it, and is COMMITTING. -/
def Committing (id : AxleId) (cache : List OpenRecord) : Prop :=
  (cache.find? fun o => o.record.axleId == id).map OpenRecord.state = some .committing

/-- What stands before the start-up scan has ended (R165). -/
structure Unscanned (a : Ahs) : Prop where
  index : a.index = []
  cache : a.cache = []
  commit : a.commit = none
  opening : a.opening = none
  nodup : (validIds a.slots).Nodup
  few : (validIds a.slots).length ≤ Config.maxRecords

/-- The index and the VALID slots give each other (R147). -/
structure Indexed (a : Ahs) : Prop where
  valid : ∀ n r, (n, Slot.valid r) ∈ a.slots → ⟨r.axleId, some n⟩ ∈ a.index
  slot : ∀ e ∈ a.index, ∀ n, e.slot = some n → ∃ r, slotAt n a.slots = some (.valid r) ∧ r.axleId = e.axleId

/-- The clauses of `storeLaw` that speak of the history store alone. -/
structure StoreOk (a : Ahs) : Prop where
  rise : idsRise a.index = true
  few : a.index.length ≤ Config.maxRecords
  cached : ∀ o ∈ a.cache, ∃ e ∈ a.index, e.axleId = o.record.axleId
  commit : ∀ c, a.commit = some c →
    Committing c.axleId a.cache ∧ ∃ r, slotAt c.slot a.slots = some (.written r) ∧ r.axleId = c.axleId
  created : ∀ o r, a.opening = some o → o.created = some r →
    r.axleId = o.axleId ∧ o.placed = false ∧ (∀ p ∈ a.cache, p.record.axleId ≠ o.axleId) ∧
      ∀ e ∈ a.index, e.axleId = o.axleId → e.slot = none
  unscanned : a.store = .loading → Unscanned a
  indexed : a.store = .ready → Indexed a

/-- Before the start-up scan has ended no axle is seated and no tag read (R2, R165). -/
def SeatWaits (s : State) : Prop :=
  s.ahs.store = .loading → s.pil.tagState = .none ∧ s.pil.seatState ≠ .seated

theorem commitLaw_iff (s : State) : commitLaw s = true ↔ ∀ c, s.ahs.commit = some c →
    Committing c.axleId s.ahs.cache ∧ ∃ r, slotAt c.slot s.ahs.slots = some (.written r) ∧ r.axleId = c.axleId := by
  unfold commitLaw
  cases s.ahs.commit with
  | none => simp
  | some c =>
    simp only [Bool.and_eq_true, beq_iff_eq, Option.some.injEq, forall_eq']
    refine and_congr Iff.rfl ?_
    rcases slotAt c.slot s.ahs.slots with _ | (_ | _ | _) <;> simp

theorem isOpen_iff (id : AxleId) (s : State) : isOpen id s = true ↔ ∃ p ∈ s.ahs.cache, p.record.axleId = id := by
  simp [isOpen, openFind, List.find?_isSome]

theorem createdLaw_iff (s : State) (hr : idsRise s.ahs.index = true) : createdLaw s = true ↔
    ∀ o r, s.ahs.opening = some o → o.created = some r →
      r.axleId = o.axleId ∧ o.placed = false ∧ (∀ p ∈ s.ahs.cache, p.record.axleId ≠ o.axleId) ∧
        ∀ e ∈ s.ahs.index, e.axleId = o.axleId → e.slot = none := by
  unfold createdLaw
  rcases s.ahs.opening with _ | ⟨id, seating, _ | r, placed⟩
  · simp
  · simp only [Option.some.injEq, true_iff]
    rintro o q rfl hq
    cases hq
  · have hopen : isOpen id s = false ↔ ∀ p ∈ s.ahs.cache, p.record.axleId ≠ id := by
      rw [← Bool.not_eq_true, isOpen_iff]; simp
    have hslot : (match indexFind id s.ahs.index with | some e => e.slot.isNone | none => true) = true ↔
        ∀ e ∈ s.ahs.index, e.axleId = id → e.slot = none := by
      cases hf : indexFind id s.ahs.index with
      | none => simpa using fun e he hid => absurd hid (indexFind_eq_none.1 hf e he)
      | some d =>
        obtain ⟨hm, hid⟩ := indexFind_mem hf
        simp only [Option.isNone_iff_eq_none]
        refine ⟨fun h e he heid => ?_, fun h => h d hm hid⟩
        rwa [index_unique hr he hm (heid.trans hid.symm)]
    simp only [Bool.and_eq_true, beq_iff_eq, Bool.not_eq_true', hopen, Option.some.injEq]
    constructor
    · rintro ⟨⟨⟨h1, h2⟩, h3⟩, h4⟩ o q rfl hq
      cases hq
      exact ⟨h1, h2, h3, hslot.1 h4⟩
    · intro h
      obtain ⟨h1, h2, h3, h4⟩ := h _ r rfl rfl
      exact ⟨⟨⟨h1, h2⟩, h3⟩, hslot.2 h4⟩

theorem indexed_iff (s : State) : (validIndexed s && indexedValid s) = true ↔ Indexed s.ahs := by
  have hv : validIndexed s = true ↔ ∀ n r, (n, Slot.valid r) ∈ s.ahs.slots → ⟨r.axleId, some n⟩ ∈ s.ahs.index := by
    simp only [validIndexed, List.all_eq_true]
    refine ⟨fun h n r hm => by simpa using h _ hm, fun h p hp => ?_⟩
    obtain ⟨n, x⟩ := p
    cases x with
    | valid r => simpa using h n r hp
    | written r => rfl
    | bad => rfl
  have hs : indexedValid s = true ↔ ∀ e ∈ s.ahs.index, ∀ n, e.slot = some n →
      ∃ r, slotAt n s.ahs.slots = some (.valid r) ∧ r.axleId = e.axleId := by
    simp only [indexedValid, List.all_eq_true]
    refine forall₂_congr fun e _ => ?_
    cases e.slot with
    | none => simp
    | some n => simp only [Option.some.injEq, forall_eq']; rcases slotAt n s.ahs.slots with _ | (_ | _ | _) <;> simp
  rw [Bool.and_eq_true, hv, hs]
  exact ⟨fun ⟨h1, h2⟩ => ⟨h1, h2⟩, fun ⟨h1, h2⟩ => ⟨h1, h2⟩⟩

theorem loadingLaw_iff (s : State) : loadingLaw s = true ↔
    Unscanned s.ahs ∧ s.pil.tagState = .none ∧ s.pil.seatState ≠ .seated := by
  simp only [loadingLaw, Bool.and_eq_true, List.isEmpty_iff, Option.isNone_iff_eq_none, beq_iff_eq, bne_iff_ne,
    decide_eq_true_eq]
  exact ⟨fun ⟨⟨⟨⟨⟨⟨⟨h1, h2⟩, h3⟩, h4⟩, h5⟩, h6⟩, h7⟩, h8⟩ => ⟨⟨h1, h2, h3, h4, h7, h8⟩, h5, h6⟩,
    fun ⟨⟨h1, h2, h3, h4, h7, h8⟩, h5, h6⟩ => ⟨⟨⟨⟨⟨⟨⟨h1, h2⟩, h3⟩, h4⟩, h5⟩, h6⟩, h7⟩, h8⟩⟩

theorem storeLaw_iff (s : State) : storeLaw s = true ↔ StoreOk s.ahs ∧ SeatWaits s := by
  have hcached : (s.ahs.cache.all fun o => (indexFind o.record.axleId s.ahs.index).isSome) = true ↔
      ∀ o ∈ s.ahs.cache, ∃ e ∈ s.ahs.index, e.axleId = o.record.axleId := by
    simp only [List.all_eq_true, indexFind_isSome]
  have hstore : (if s.ahs.store == .loading then loadingLaw s else validIndexed s && indexedValid s) = true ↔
      (s.ahs.store = .loading → Unscanned s.ahs) ∧ (s.ahs.store = .ready → Indexed s.ahs) ∧ SeatWaits s := by
    unfold SeatWaits
    cases s.ahs.store with
    | loading => simp [loadingLaw_iff]
    | ready => simp [← indexed_iff]
  simp only [storeLaw, Bool.and_eq_true, decide_eq_true_eq, hcached, hstore, commitLaw_iff]
  constructor
  · rintro ⟨⟨⟨⟨⟨h1, h2⟩, h3⟩, h4⟩, h5⟩, h6, h7, h8⟩
    exact ⟨⟨h1, h2, h3, h4, (createdLaw_iff s h1).1 h5, h6, h7⟩, h8⟩
  · rintro ⟨⟨h1, h2, h3, h4, h5, h6, h7⟩, h8⟩
    exact ⟨⟨⟨⟨⟨h1, h2⟩, h3⟩, h4⟩, (createdLaw_iff s h1).2 h5⟩, h6, h7, h8⟩

/-! ## What changes of the history store keep -/

/-- A store that holds an entry has ended its start-up scan. -/
theorem StoreOk.ready {a : Ahs} (h : StoreOk a) {e : IndexEntry} (he : e ∈ a.index) : a.store = .ready := by
  cases hs : a.store with
  | ready => rfl
  | loading => rw [(h.unscanned hs).index] at he; cases he

/-- No two VALID slots hold the same axle ID (R147). -/
theorem StoreOk.validUnique {a : Ahs} (h : StoreOk a) (hs : a.store = .ready) {m n : Nat} {q r : Record}
    (hm : (m, Slot.valid q) ∈ a.slots) (hn : (n, Slot.valid r) ∈ a.slots) (hid : q.axleId = r.axleId) : m = n := by
  have hi := h.indexed hs
  have he := index_unique h.rise (hi.valid m q hm) (hi.valid n r hn) hid
  simpa using congrArg IndexEntry.slot he

theorem committing_mem {id : AxleId} {cache : List OpenRecord} (h : Committing id cache) :
    ∃ o ∈ cache, o.record.axleId = id := by
  unfold Committing at h
  cases hf : cache.find? fun o => o.record.axleId == id with
  | none => rw [hf] at h; cases h
  | some o => exact ⟨o, List.mem_of_find?_eq_some hf, by simpa using List.find?_some hf⟩

/-- What the laws do not look at: the queue, the link, the flags and the outcomes. -/
theorem StoreOk.congr {a b : Ahs} (h : StoreOk a) (hstore : b.store = a.store) (hslots : b.slots = a.slots)
    (hindex : b.index = a.index) (hcache : b.cache = a.cache) (hcommit : b.commit = a.commit)
    (hopening : b.opening = a.opening) : StoreOk b where
  rise := hindex ▸ h.rise
  few := hindex ▸ h.few
  cached := hcache ▸ hindex ▸ h.cached
  commit := by rw [hcommit, hcache, hslots]; exact h.commit
  created := by rw [hopening, hcache, hindex]; exact h.created
  unscanned e := by
    have u := h.unscanned (hstore ▸ e)
    exact ⟨hindex ▸ u.index, hcache ▸ u.cache, hcommit ▸ u.commit, hopening ▸ u.opening, hslots ▸ u.nodup, hslots ▸ u.few⟩
  indexed e := by
    have i := h.indexed (hstore ▸ e)
    exact ⟨hslots ▸ hindex ▸ i.valid, by rw [hindex, hslots]; exact i.slot⟩

/-- The commit in progress ends. -/
theorem StoreOk.endCommit {a : Ahs} (h : StoreOk a) : StoreOk { a with commit := none } :=
  { h with
    commit := fun _ hc => by cases hc
    unscanned := fun e => { h.unscanned e with commit := rfl }
    indexed := fun e => ⟨(h.indexed e).valid, (h.indexed e).slot⟩ }

/-- The commit in progress goes on in its slot. -/
theorem StoreOk.stage {a : Ahs} (h : StoreOk a) {c : Commit} (hc : a.commit = some c) (stage : CommitStage) :
    StoreOk { a with commit := some { c with stage := stage } } :=
  { h with
    commit := fun d hd => by cases hd; exact h.commit c hc
    unscanned := fun e => by have u := (h.unscanned e).commit; rw [hc] at u; cases u
    indexed := fun e => ⟨(h.indexed e).valid, (h.indexed e).slot⟩ }

theorem Committing.map {id : AxleId} {cache : List OpenRecord} (h : Committing id cache) (f : OpenRecord → OpenRecord)
    (hid : ∀ o, (f o).record.axleId = o.record.axleId)
    (hst : ∀ o, o.state = .committing → (f o).state = .committing) : Committing id (cache.map f) := by
  unfold Committing at h ⊢
  rw [List.find?_map]
  have hp : ((fun o : OpenRecord => o.record.axleId == id) ∘ f) = fun o => o.record.axleId == id := by
    funext o; simp [hid o]
  rw [hp]
  cases hf : cache.find? fun o => o.record.axleId == id with
  | none => rw [hf] at h; cases h
  | some o => rw [hf] at h; simpa using hst o (by simpa using h)

/-- Open records change, each keeping its axle ID, and with a commit in progress what is COMMITTING. -/
theorem StoreOk.mapCache {a : Ahs} (h : StoreOk a) (f : OpenRecord → OpenRecord)
    (hid : ∀ o, (f o).record.axleId = o.record.axleId)
    (hst : a.commit = none ∨ ∀ o, o.state = .committing → (f o).state = .committing) :
    StoreOk { a with cache := a.cache.map f } where
  rise := h.rise
  few := h.few
  cached o ho := by
    obtain ⟨p, hp, rfl⟩ := List.mem_map.1 ho
    rw [hid]
    exact h.cached p hp
  commit c hc := by
    have hc' : a.commit = some c := hc
    rcases hst with hn | hst
    · rw [hn] at hc'; cases hc'
    · exact ⟨(h.commit c hc').1.map f hid hst, (h.commit c hc').2⟩
  created o r ho hr := by
    obtain ⟨h1, h2, h3, h4⟩ := h.created o r ho hr
    refine ⟨h1, h2, fun p hp => ?_, h4⟩
    obtain ⟨q, hq, rfl⟩ := List.mem_map.1 hp
    rw [hid]
    exact h3 q hq
  unscanned e := { h.unscanned e with cache := by simp [(h.unscanned e).cache] }
  indexed e := ⟨(h.indexed e).valid, (h.indexed e).slot⟩

/-- An opening that is not of a record being created, or none. -/
theorem StoreOk.opening {a : Ahs} (h : StoreOk a) (o : Option Opening)
    (hc : ∀ x, o = some x → x.created = none ∧ a.store = .ready) : StoreOk { a with opening := o } :=
  { h with
    created := fun x r hx hr => by rw [(hc x hx).1] at hr; cases hr
    unscanned := fun e => { h.unscanned e with
      opening := by
        cases ho : o with
        | none => rfl
        | some x => rw [show a.store = _ from e] at hc; cases (hc x ho).2 }
    indexed := fun e => ⟨(h.indexed e).valid, (h.indexed e).slot⟩ }

/-- A record is created: in the index with no slot, its opening waiting (R149). -/
theorem StoreOk.create {a : Ahs} (h : StoreOk a) (hs : a.store = .ready) {id : AxleId} {o : Opening} {r : Record}
    (hfew : a.index.length < Config.maxRecords) (hnew : indexFind id a.index = none)
    (hclosed : ∀ p ∈ a.cache, p.record.axleId ≠ id) (ho : o.axleId = id) (hr : o.created = some r) (hid : r.axleId = id)
    (hp : o.placed = false) : StoreOk { a with index := indexInsert ⟨id, none⟩ a.index, opening := some o } where
  rise := idsRise_indexInsert (indexFind_eq_none.1 hnew) h.rise
  few := by simpa using hfew
  cached p hp := by
    obtain ⟨e, he, hid⟩ := h.cached p hp
    exact ⟨e, mem_indexInsert.2 (.inr he), hid⟩
  commit := h.commit
  created x q hx hq := by
    cases hx
    rw [hr] at hq
    cases hq
    refine ⟨hid.trans ho.symm, hp, ho ▸ hclosed, fun e he heid => ?_⟩
    rcases mem_indexInsert.1 he with rfl | he
    · rfl
    · exact absurd (heid.trans ho) (indexFind_eq_none.1 hnew e he)
  unscanned e := by rw [show a.store = _ from e] at hs; cases hs
  indexed _ :=
    ⟨fun n q hm => mem_indexInsert.2 (.inr ((h.indexed hs).valid n q hm)), fun e he n hn => by
      rcases mem_indexInsert.1 he with rfl | he
      · cases hn
      · exact (h.indexed hs).slot e he n hn⟩

theorem removeFirst_subset {α : Type} (p : α → Bool) : ∀ l : List α, ∀ x ∈ removeFirst p l, x ∈ l
  | [], _, h => by cases h
  | y :: rest, x, h => by
    unfold removeFirst at h
    split at h
    · exact .tail _ h
    · rcases List.mem_cons.1 h with rfl | h
      · exact .head _
      · exact .tail _ (removeFirst_subset p rest x h)

/-- A record that leaves the cache is not the COMMITTING one. -/
theorem Committing.removeFirst {id : AxleId} {cache : List OpenRecord} (h : Committing id cache) (p : OpenRecord → Bool)
    (hp : ∀ o, p o = true → o.state ≠ .committing) : Committing id (removeFirst p cache) := by
  unfold Committing at h ⊢
  induction cache with
  | nil => exact h
  | cons x rest ih =>
    rw [List.find?_cons] at h
    unfold Machine.removeFirst
    split at h
    · next hx =>
      have hnp : p x = false := by
        rw [← Bool.not_eq_true]; exact fun hpx => hp x hpx (by simpa using h)
      simp [hnp, hx, h]
    · next hx =>
      split
      · exact h
      · simpa [hx] using ih h

/-- A record leaves the cache to make a place (R152). -/
theorem StoreOk.removeFirst {a : Ahs} (h : StoreOk a) (p : OpenRecord → Bool)
    (hp : ∀ o, p o = true → o.state ≠ .committing) : StoreOk { a with cache := removeFirst p a.cache } where
  rise := h.rise
  few := h.few
  cached o ho := h.cached o (removeFirst_subset p _ o ho)
  commit c hc := ⟨(h.commit c hc).1.removeFirst p hp, (h.commit c hc).2⟩
  created o r ho hr := by
    obtain ⟨h1, h2, h3, h4⟩ := h.created o r ho hr
    exact ⟨h1, h2, fun q hq => h3 q (removeFirst_subset p _ q hq), h4⟩
  unscanned e := { h.unscanned e with cache := by rw [(h.unscanned e).cache]; rfl }
  indexed e := ⟨(h.indexed e).valid, (h.indexed e).slot⟩

/-- A record that is indexed is opened at the end of the cache (R152). -/
theorem StoreOk.openRecord {a : Ahs} (h : StoreOk a) (o : OpenRecord) (hi : ∃ e ∈ a.index, e.axleId = o.record.axleId)
    (hne : ∀ x r, a.opening = some x → x.created = some r → o.record.axleId ≠ x.axleId) :
    StoreOk { a with cache := a.cache ++ [o] } where
  rise := h.rise
  few := h.few
  cached p hp := by
    rcases List.mem_append.1 hp with hp | hp
    · exact h.cached p hp
    · rw [List.mem_singleton.1 hp]; exact hi
  commit c hc := by
    obtain ⟨h1, h2⟩ := h.commit c hc
    refine ⟨?_, h2⟩
    unfold Committing at h1 ⊢
    rw [List.find?_append]
    cases hf : a.cache.find? fun o => o.record.axleId == c.axleId with
    | none => rw [hf] at h1; cases h1
    | some x => rw [hf] at h1; simpa using h1
  created x r hx hr := by
    obtain ⟨h1, h2, h3, h4⟩ := h.created x r hx hr
    refine ⟨h1, h2, fun p hp => ?_, h4⟩
    rcases List.mem_append.1 hp with hp | hp
    · exact h3 p hp
    · rw [List.mem_singleton.1 hp]; exact hne x r hx hr
  unscanned e := by
    obtain ⟨x, hx, _⟩ := hi
    rw [h.ready hx] at e
    cases e
  indexed e := ⟨(h.indexed e).valid, (h.indexed e).slot⟩

/-- A record leaves the index with its slot, and its open copy the cache; no commit of it is in progress. -/
theorem StoreOk.remove {a : Ahs} (h : StoreOk a) (hw : ArrayOk a) {e : IndexEntry} (he : e ∈ a.index)
    (hc : ∀ c, a.commit = some c → c.axleId ≠ e.axleId) :
    StoreOk { a with
      slots := (match e.slot with | some n => putSlot n none a.slots | none => a.slots)
      index := indexRemove e.axleId a.index
      cache := a.cache.filter fun o => o.record.axleId != e.axleId } := by
  have hs := h.ready he
  have hi := h.indexed hs
  have hslot : ∀ n x, slotAt n a.slots = some x → (∀ r, x = .valid r → r.axleId ≠ e.axleId) →
      slotAt n (match e.slot with | some n => putSlot n none a.slots | none => a.slots) = some x := by
    intro n x hx hv
    cases hes : e.slot with
    | none => exact hx
    | some m =>
      obtain ⟨r, hr, hid⟩ := hi.slot e he m hes
      have hne : n ≠ m := by rintro rfl; rw [hr] at hx; cases hx; exact hv r rfl hid
      exact (slotAt_putSlot_ne hne none a.slots).trans hx
  have hwf : slotsWf (match e.slot with | some n => putSlot n none a.slots | none => a.slots) = true := by
    cases e.slot with
    | none => exact hw.wf
    | some m => exact slotsWf_free m hw.wf
  have hmem : ∀ d ∈ indexRemove e.axleId a.index, d ∈ a.index ∧ d.axleId ≠ e.axleId := by
    intro d hd; simpa [indexRemove] using hd
  have hin : ∀ d ∈ a.index, d.axleId ≠ e.axleId → d ∈ indexRemove e.axleId a.index := by
    intro d hd hne; simpa [indexRemove] using ⟨hd, hne⟩
  refine ⟨idsRise_filter _ h.rise, (List.length_filter_le ..).trans h.few, ?_, ?_, ?_, ?_, ?_⟩
  · intro o ho
    obtain ⟨ho, hne⟩ : o ∈ a.cache ∧ o.record.axleId ≠ e.axleId := by simpa using ho
    obtain ⟨d, hd, hid⟩ := h.cached o ho
    exact ⟨d, hin d hd (hid ▸ hne), hid⟩
  · intro c hcc
    obtain ⟨h1, r, h2, h3⟩ := h.commit c hcc
    refine ⟨?_, r, hslot c.slot _ h2 (by rintro q ⟨⟩), h3⟩
    unfold Committing at h1 ⊢
    have hf : (a.cache.filter fun o => o.record.axleId != e.axleId).find? (fun o => o.record.axleId == c.axleId) =
        a.cache.find? fun o => o.record.axleId == c.axleId := by
      rw [List.find?_filter]
      congr 1
      funext o
      by_cases ho : o.record.axleId = c.axleId
      · simp [ho, hc c hcc]
      · simp [ho]
    rw [hf]
    exact h1
  · intro o r ho hr
    obtain ⟨h1, h2, h3, h4⟩ := h.created o r ho hr
    exact ⟨h1, h2, fun p hp => h3 p (List.mem_of_mem_filter hp), fun d hd => h4 d (hmem d hd).1⟩
  · intro hl; rw [show a.store = _ from hl] at hs; cases hs
  · refine fun _ => ⟨fun n r hm => ?_, fun d hd n hn => ?_⟩
    · have hm := (mem_slots hwf n _).1 hm
      have hold : slotAt n a.slots = some (.valid r) ∧ (∀ m, e.slot = some m → n ≠ m) := by
        cases hes : e.slot with
        | none => rw [hes] at hm; exact ⟨hm, fun _ h => by cases h⟩
        | some m =>
          rw [hes] at hm
          by_cases hnm : n = m
          · subst hnm; rw [slotAt_putSlot_same n none 0 _ hw.wf] at hm; cases hm
          · exact ⟨(slotAt_putSlot_ne hnm none a.slots).symm.trans hm, fun _ h => by cases h; exact hnm⟩
      have hin' := hi.valid n r ((mem_slots hw.wf n _).2 hold.1)
      refine hin _ hin' fun hid => ?_
      have := index_unique h.rise hin' he hid
      exact hold.2 n (by rw [← this]) rfl
    · obtain ⟨hd, hne⟩ := hmem d hd
      obtain ⟨r, hr, hid⟩ := hi.slot d hd n hn
      exact ⟨r, hslot n _ hr fun q hq => by cases hq; rw [hid]; exact hne, hid⟩

/-- A created record that was never opened leaves the index with its opening (R148). -/
theorem StoreOk.uncreate {a : Ahs} (h : StoreOk a) {o : Opening} {r : Record} (ho : a.opening = some o)
    (hr : o.created = some r) : StoreOk { a with opening := none, index := indexRemove o.axleId a.index } := by
  obtain ⟨h1, h2, h3, h4⟩ := h.created o r ho hr
  have hmem : ∀ d ∈ indexRemove o.axleId a.index, d ∈ a.index ∧ d.axleId ≠ o.axleId := by
    intro d hd; simpa [indexRemove] using hd
  have hin : ∀ d ∈ a.index, d.axleId ≠ o.axleId → d ∈ indexRemove o.axleId a.index := by
    intro d hd hne; simpa [indexRemove] using ⟨hd, hne⟩
  refine ⟨idsRise_filter _ h.rise, (List.length_filter_le ..).trans h.few, fun p hp => ?_, h.commit,
    fun _ _ hx => (by cases hx), fun e => ?_, fun e => ⟨fun n q hm => ?_, fun d hd => (h.indexed e).slot d (hmem d hd).1⟩⟩
  · obtain ⟨d, hd, hid⟩ := h.cached p hp
    exact ⟨d, hin d hd (hid ▸ h3 p hp), hid⟩
  · have u := (h.unscanned e).opening
    rw [ho] at u
    cases u
  · have hv := (h.indexed e).valid n q hm
    exact hin _ hv fun hid => by cases h4 _ hv hid

/-! ## Commits -/

/-- A slot that the index does not name changes, and holds no VALID record before or after. -/
theorem Indexed.putSlot {a : Ahs} (h : Indexed a) (hw : slotsWf a.slots = true) {n : Nat} (hn : n < Config.slotCount)
    {x : Slot} (hx : ∀ r, x ≠ .valid r) (hold : ∀ r, slotAt n a.slots ≠ some (.valid r)) :
    Indexed { a with slots := putSlot n (some x) a.slots } where
  valid m r hm := by
    have hm := (mem_slots (slotsWf_putSlot hn _ hw) m _).1 hm
    by_cases hmn : m = n
    · subst hmn
      rw [slotAt_putSlot_same m _ 0 _ hw] at hm
      exact absurd (Option.some.inj hm) (hx r)
    · rw [slotAt_putSlot_ne hmn] at hm
      exact h.valid m r ((mem_slots hw m _).2 hm)
  slot e he m hm := by
    obtain ⟨r, hr, hid⟩ := h.slot e he m hm
    refine ⟨r, ?_, hid⟩
    rw [slotAt_putSlot_ne (by rintro rfl; exact hold r hr)]
    exact hr

/-- A slot that holds no VALID record takes another that is not VALID, and the commit in progress is then one of a
COMMITTING record in such a slot, or none. -/
theorem StoreOk.write {a : Ahs} (h : StoreOk a) (hw : ArrayOk a) (hs : a.store = .ready) {n : Nat}
    (hn : n < Config.slotCount) {x : Slot} (hx : ∀ r, x ≠ .valid r) (hold : ∀ r, slotAt n a.slots ≠ some (.valid r))
    (commit : Option Commit)
    (hc : ∀ c, commit = some c → Committing c.axleId a.cache ∧
      ∃ r, slotAt c.slot (putSlot n (some x) a.slots) = some (.written r) ∧ r.axleId = c.axleId) :
    StoreOk { a with slots := putSlot n (some x) a.slots, commit := commit } :=
  { h with
    commit := hc
    unscanned := fun e => by rw [show a.store = _ from e] at hs; cases hs
    indexed := fun e =>
      have i := (h.indexed e).putSlot hw.wf hn hx hold
      ⟨i.valid, i.slot⟩ }

end Sys2Proof.Machine

namespace Sys2Proof.Machine

/-! ## The index switch (R147, R154) -/

theorem mem_indexSetSlot {id : AxleId} {n : Nat} {l : List IndexEntry} {d : IndexEntry} :
    d ∈ indexSetSlot id n l ↔ (d ∈ l ∧ d.axleId ≠ id) ∨ (d = ⟨id, some n⟩ ∧ ∃ e ∈ l, e.axleId = id) := by
  simp only [indexSetSlot, List.mem_map]
  constructor
  · rintro ⟨e, he, rfl⟩
    by_cases hid : e.axleId = id
    · right; subst hid; simp; exact ⟨e, he, rfl⟩
    · left; simp [hid, he]
  · rintro (⟨hd, hne⟩ | ⟨rfl, e, he, rfl⟩)
    · exact ⟨d, hd, by simp [hne]⟩
    · exact ⟨e, he, by simp⟩

/-- The slots after the switch: the new one VALID, the old one FREE, every other as it was. -/
theorem slotAt_switchIndex {a : Ahs} (hw : ArrayOk a) {c : Commit} (hc : a.commit = some c) {r : Record}
    (hr : slotAt c.slot a.slots = some (.written r)) {e : IndexEntry} (he : indexFind c.axleId a.index = some e)
    (hold : e.slot ≠ some c.slot) :
    slotsWf (switchIndex c a).slots = true ∧ ∀ n, slotAt n (switchIndex c a).slots =
      if n = c.slot then some (.valid r) else if e.slot = some n then none else slotAt n a.slots := by
  have hwf := slotsWf_putSlot (hw.inArray c hc) (some (.valid r)) hw.wf
  have hat : ∀ n, slotAt n (putSlot c.slot (some (.valid r)) a.slots) =
      if n = c.slot then some (.valid r) else slotAt n a.slots := by
    intro n
    split
    · next h => subst h; exact slotAt_putSlot_same _ _ 0 _ hw.wf
    · next h => exact slotAt_putSlot_ne h ..
  cases hes : e.slot with
  | none =>
    have hsl : (switchIndex c a).slots = putSlot c.slot (some (.valid r)) a.slots := by
      simp [switchIndex, hr, he, hes]
    rw [hsl]
    exact ⟨hwf, fun n => by simpa using hat n⟩
  | some old =>
    have hne : old ≠ c.slot := fun h => hold (by rw [hes, h])
    have hsl : (switchIndex c a).slots = putSlot old none (putSlot c.slot (some (.valid r)) a.slots) := by
      simp [switchIndex, hr, he, hes, hne]
    rw [hsl]
    refine ⟨slotsWf_free old hwf, fun n => ?_⟩
    by_cases hn : n = old
    · subst hn
      rw [slotAt_putSlot_same n none 0 _ hwf]
      simp [hne]
    · rw [slotAt_putSlot_ne hn, hat]
      have hn' : old ≠ n := Ne.symm hn
      simp [hn']

theorem StoreOk.switchIndex {a : Ahs} (h : StoreOk a) (hw : ArrayOk a) {c : Commit} (hc : a.commit = some c) :
    StoreOk { switchIndex c a with commit := none } := by
  obtain ⟨hcom, r, hr, hrid⟩ := h.commit c hc
  obtain ⟨p, hp, hpid⟩ := committing_mem hcom
  obtain ⟨e, hem, heid⟩ := h.cached p hp
  replace heid := heid.trans hpid
  have hs := h.ready hem
  have hi := h.indexed hs
  have hfind : indexFind c.axleId a.index = some e := heid ▸ indexFind_of_mem h.rise hem
  have hold : e.slot ≠ some c.slot := fun hes => by
    obtain ⟨q, hq, _⟩ := hi.slot e hem _ hes
    rw [hr] at hq
    cases hq
  obtain ⟨hwf, hat⟩ := slotAt_switchIndex hw hc hr hfind hold
  have hindex : (Machine.switchIndex c a).index = indexSetSlot c.axleId c.slot a.index := rfl
  refine ⟨idsRise_indexSetSlot _ _ h.rise, ?_, fun o ho => ?_, fun _ hx => (by cases hx), fun o q ho hq => ?_,
    fun e => ?_, fun _ => ⟨fun n q hm => ?_, fun d hd n hn => ?_⟩⟩
  · have := congrArg List.length (indexSetSlot_ids c.axleId c.slot a.index)
    simp only [List.length_map] at this
    exact this ▸ h.few
  · obtain ⟨d, hd, hid⟩ := h.cached o ho
    obtain ⟨x, hx, hxid⟩ := indexFind_isSome.1
      ((indexFind_isSome_indexSetSlot c.axleId d.axleId c.slot a.index).trans (indexFind_isSome.2 ⟨d, hd, rfl⟩))
    exact ⟨x, hx, hxid.trans hid⟩
  · obtain ⟨h1, h2, h3, h4⟩ := h.created o q ho hq
    refine ⟨h1, h2, h3, fun d hd hid => ?_⟩
    rcases mem_indexSetSlot.1 hd with ⟨hd, _⟩ | ⟨rfl, _⟩
    · exact h4 d hd hid
    · exact absurd (hpid.trans hid) (h3 p hp)
  · rw [show a.store = _ from e] at hs; cases hs
  · have hm := (mem_slots hwf n _).1 hm
    rw [hat] at hm
    refine mem_indexSetSlot.2 ?_
    split_ifs at hm with h1 h2
    · cases hm
      exact .inr ⟨by rw [hrid, h1], e, hem, heid⟩
    · have hv := hi.valid n q ((mem_slots hw.wf n _).2 hm)
      refine .inl ⟨hv, fun hid => h2 ?_⟩
      rw [index_unique h.rise hem hv (heid.trans hid.symm)]
  · show ∃ q, slotAt n (Machine.switchIndex c a).slots = some (.valid q) ∧ q.axleId = d.axleId
    rcases mem_indexSetSlot.1 hd with ⟨hd, hne⟩ | ⟨rfl, _⟩
    · obtain ⟨q, hq, hid⟩ := hi.slot d hd n hn
      refine ⟨q, ?_, hid⟩
      have h1 : n ≠ c.slot := by rintro rfl; rw [hr] at hq; cases hq
      have h2 : e.slot ≠ some n := fun hes => by
        obtain ⟨x, hx, hxid⟩ := hi.slot e hem n hes
        rw [hq] at hx
        cases hx
        exact hne (hid.symm.trans (hxid.trans heid))
      rw [hat, if_neg h1, if_neg h2, hq]
    · cases hn
      exact ⟨r, by rw [hat, if_pos rfl], hrid⟩

theorem ArrayOk.switchIndex {a : Ahs} (h : ArrayOk a) {c : Commit} (hc : c.slot < Config.slotCount) :
    ArrayOk { switchIndex c a with commit := none } := by
  refine ⟨?_, fun _ hx => by cases hx⟩
  show slotsWf (Machine.switchIndex c a).slots = true
  simp only [Machine.switchIndex]
  have hput : slotsWf (match slotAt c.slot a.slots with
      | some (.written r) => putSlot c.slot (some (.valid r)) a.slots
      | _ => a.slots) = true := by
    split
    · exact slotsWf_putSlot hc _ h.wf
    · exact h.wf
  split
  · split
    · exact hput
    · exact slotsWf_free _ hput
  · exact hput

/-! ## The start-up scan (R165) -/

theorem mem_validIds {l : List (Nat × Slot)} {id : AxleId} :
    id ∈ validIds l ↔ ∃ n r, (n, Slot.valid r) ∈ l ∧ r.axleId = id := by
  simp only [validIds, List.mem_filterMap]
  constructor
  · rintro ⟨⟨n, x⟩, hx, hid⟩
    cases x with
    | valid r => exact ⟨n, r, hx, by simpa using hid⟩
    | written r => cases hid
    | bad => cases hid
  · rintro ⟨n, r, hm, hid⟩
    exact ⟨(n, .valid r), hm, by simp [hid]⟩

theorem mem_scanSlots_valid (bads : List Nat) {l : List (Nat × Slot)} {n : Nat} {r : Record} :
    (n, Slot.valid r) ∈ (scanSlots bads l).1 → (n, Slot.valid r) ∈ l := by
  induction l with
  | nil => exact id
  | cons p rest ih =>
    obtain ⟨k, x⟩ := p
    cases x with
    | written q => exact fun h => .tail _ (ih h)
    | bad =>
      intro h
      rcases List.mem_cons.1 h with h | h
      · cases h
      · exact .tail _ (ih h)
    | valid q =>
      simp only [scanSlots, scanSlot]
      by_cases hb : bads.contains k = true
      · simp only [hb, if_true]
        intro h
        rcases List.mem_cons.1 h with h | h
        · cases h
        · exact .tail _ (ih h)
      · simp only [hb, if_false, Bool.false_eq_true]
        intro h
        rcases List.mem_cons.1 h with h | h
        · rw [h]; exact .head _
        · exact .tail _ (ih h)

/-- The index after the scan: an entry for each VALID slot that is left. -/
theorem mem_scanSlots_index (bads : List Nat) {l : List (Nat × Slot)} {d : IndexEntry} :
    d ∈ (scanSlots bads l).2.1 ↔ ∃ n r, (n, Slot.valid r) ∈ (scanSlots bads l).1 ∧ d = ⟨r.axleId, some n⟩ := by
  induction l with
  | nil => simp [scanSlots]
  | cons p rest ih =>
    obtain ⟨k, x⟩ := p
    cases x with
    | written q => exact ih
    | bad =>
      refine ih.trans (exists₂_congr fun n r => and_congr_left fun _ => ?_)
      simp [scanSlots, scanSlot]
    | valid q =>
      simp only [scanSlots, scanSlot]
      by_cases hb : bads.contains k = true
      · simp only [hb, if_true]
        refine ih.trans (exists₂_congr fun n r => and_congr_left fun _ => ?_)
        simp
      · simp only [hb, if_false, Bool.false_eq_true, mem_indexInsert, ih, List.mem_cons, Prod.mk.injEq, Slot.valid.injEq]
        constructor
        · rintro (rfl | ⟨n, r, h, rfl⟩)
          · exact ⟨k, q, .inl ⟨rfl, rfl⟩, rfl⟩
          · exact ⟨n, r, .inr h, rfl⟩
        · rintro ⟨n, r, ⟨rfl, rfl⟩ | h, rfl⟩
          · exact .inl rfl
          · exact .inr ⟨n, r, h, rfl⟩

theorem scanSlots_index_length (bads : List Nat) (l : List (Nat × Slot)) :
    (scanSlots bads l).2.1.length ≤ (validIds l).length := by
  induction l with
  | nil => exact Nat.le_refl 0
  | cons p rest ih =>
    obtain ⟨k, x⟩ := p
    cases x with
    | written q => exact ih
    | bad => exact ih
    | valid q =>
      have hv : (validIds ((k, Slot.valid q) :: rest)).length = (validIds rest).length + 1 := rfl
      rw [hv]
      simp only [scanSlots, scanSlot]
      by_cases hb : bads.contains k = true
      · simp only [hb, if_true]
        exact Nat.le_succ_of_le ih
      · simp only [hb, if_false, Bool.false_eq_true, indexInsert_length]
        exact Nat.succ_le_succ ih

/-- Where no two VALID slots hold the same axle ID, a VALID slot is found by it. -/
theorem validIds_unique {l : List (Nat × Slot)} (h : (validIds l).Nodup) {m n : Nat} {q r : Record}
    (hm : (m, Slot.valid q) ∈ l) (hn : (n, Slot.valid r) ∈ l) (hid : q.axleId = r.axleId) : m = n := by
  induction l with
  | nil => cases hm
  | cons p rest ih =>
    have hrest : (validIds rest).Nodup := h.sublist ((List.sublist_cons_self p rest).filterMap _)
    have hhead : ∀ {k j : Nat} {x y : Record}, p = (k, Slot.valid x) → (j, Slot.valid y) ∈ rest →
        x.axleId ≠ y.axleId := fun hp hy hxy => by
      subst hp
      have hnot : _ ∉ validIds rest := (List.nodup_cons.1 h).1
      exact hnot (mem_validIds.2 ⟨_, _, hy, hxy.symm⟩)
    rcases List.mem_cons.1 hm with hm | hm
    · rcases List.mem_cons.1 hn with hn | hn
      · exact (Prod.mk.inj (hm.trans hn.symm)).1
      · exact absurd hid (hhead hm.symm hn)
    · rcases List.mem_cons.1 hn with hn | hn
      · exact absurd hid.symm (hhead hn.symm hm)
      · exact ih hrest hm hn

theorem scanSlots_index_rise (bads : List Nat) {l : List (Nat × Slot)} (h : (validIds l).Nodup) :
    idsRise (scanSlots bads l).2.1 = true := by
  induction l with
  | nil => rfl
  | cons p rest ih =>
    obtain ⟨k, x⟩ := p
    cases x with
    | written q => exact ih h
    | bad => exact ih h
    | valid q =>
      obtain ⟨hnot, hrest⟩ : q.axleId ∉ validIds rest ∧ (validIds rest).Nodup := List.nodup_cons.1 h
      simp only [scanSlots, scanSlot]
      by_cases hb : bads.contains k = true
      · simp only [hb, if_true]
        exact ih hrest
      · simp only [hb, if_false, Bool.false_eq_true]
        refine idsRise_indexInsert (fun d hd hid => hnot ?_) (ih hrest)
        obtain ⟨n, r, hm, rfl⟩ := (mem_scanSlots_index bads).1 hd
        exact mem_validIds.2 ⟨n, r, mem_scanSlots_valid bads hm, hid⟩

/-- The start-up scan builds the index from the VALID slots it leaves (R165). -/
theorem StoreOk.scan {a : Ahs} (h : StoreOk a) (hw : ArrayOk a) (hs : a.store = .loading) (bads : List Nat) (k : Nat) :
    StoreOk { a with
      store := .ready, slots := (scanSlots bads a.slots).1, index := (scanSlots bads a.slots).2.1, scanLosses := k } := by
  have u := h.unscanned hs
  refine ⟨scanSlots_index_rise bads u.nodup, (scanSlots_index_length bads _).trans u.few, fun o ho => ?_, fun c hc => ?_,
    fun o r ho => ?_, fun e => (by cases e), fun _ => ⟨fun n r hm => ?_, fun d hd n hn => ?_⟩⟩
  · rw [show a.cache = _ from u.cache] at ho; cases ho
  · rw [show a.commit = _ from u.commit] at hc; cases hc
  · rw [show a.opening = _ from u.opening] at ho; cases ho
  · exact (mem_scanSlots_index bads).2 ⟨n, r, hm, rfl⟩
  · obtain ⟨m, r, hm, rfl⟩ := (mem_scanSlots_index bads).1 hd
    cases hn
    exact ⟨r, (mem_slots (slotsWf_scanSlots bads hw.wf) _ _).1 hm, rfl⟩

/-! ## The resets (R165, R166) -/

theorem slotsFrom_pairwise : ∀ (lo : Nat) (l : List (Nat × Slot)), slotsFrom lo l = true →
    l.Pairwise (fun p q => p.1 < q.1) ∧ ∀ p ∈ l, lo ≤ p.1
  | _, [], _ => ⟨.nil, fun _ h => by cases h⟩
  | lo, (k, x) :: rest, h => by
    simp only [slotsFrom, Bool.and_eq_true, decide_eq_true_eq] at h
    obtain ⟨⟨hk, _⟩, hrest⟩ := h
    obtain ⟨hp, hlo⟩ := slotsFrom_pairwise (k + 1) rest hrest
    refine ⟨List.pairwise_cons.2 ⟨fun q hq => hlo q hq, hp⟩, fun p hp => ?_⟩
    rcases List.mem_cons.1 hp with rfl | hp
    · exact hk
    · exact Nat.le_trans (by omega) (hlo p hp)

theorem StoreOk.validIds_nodup {a : Ahs} (h : StoreOk a) (hw : ArrayOk a) : (validIds a.slots).Nodup := by
  cases hs : a.store with
  | loading => exact (h.unscanned hs).nodup
  | ready =>
    have hp := ((slotsFrom_pairwise 0 _ hw.wf).1).imp_of_mem (S := fun p q : Nat × Slot =>
      p ∈ a.slots ∧ q ∈ a.slots ∧ p.1 < q.1) fun hp hq hlt => ⟨hp, hq, hlt⟩
    refine hp.filterMap _ fun p q ⟨hpm, hqm, hlt⟩ id hid id' hid' e => ?_
    obtain ⟨m, x⟩ := p
    obtain ⟨n, y⟩ := q
    cases x <;> cases y <;> simp only [Option.some.injEq, reduceCtorEq] at hid hid'
    exact absurd (h.validUnique hs hpm hqm (hid.trans (e.trans hid'.symm))) (Nat.ne_of_lt hlt)

theorem StoreOk.validIds_few {a : Ahs} (h : StoreOk a) (hw : ArrayOk a) :
    (validIds a.slots).length ≤ Config.maxRecords := by
  cases hs : a.store with
  | loading => exact (h.unscanned hs).few
  | ready =>
    have hsub : validIds a.slots ⊆ a.index.map IndexEntry.axleId := fun id hid => by
      obtain ⟨n, r, hm, rfl⟩ := mem_validIds.1 hid
      exact List.mem_map.2 ⟨_, (h.indexed hs).valid n r hm, rfl⟩
    have hle := ((h.validIds_nodup hw).subperm hsub).length_le
    rw [List.length_map] at hle
    exact hle.trans h.few

theorem StoreOk.afterReset {a : Ahs} (h : StoreOk a) (hw : ArrayOk a) : StoreOk (ahsAfterReset a.slots) :=
  ⟨rfl, Nat.zero_le _, fun _ ho => (by cases ho), fun _ hc => (by cases hc), fun _ _ ho => (by cases ho),
    fun _ => ⟨rfl, rfl, rfl, rfl, h.validIds_nodup hw, h.validIds_few hw⟩, fun e => by cases e⟩

theorem StoreOk.afterLinkReset {a : Ahs} (h : StoreOk a) : StoreOk (ahsAfterLinkReset a) := by
  have hmem : ∀ d, d ∈ (ahsAfterLinkReset a).index ↔ d ∈ a.index ∧ d.slot.isSome = true := fun d => List.mem_filter
  refine ⟨idsRise_filter _ h.rise, (List.length_filter_le ..).trans h.few, fun _ ho => (by cases ho),
    fun _ hc => (by cases hc), fun _ _ ho => (by cases ho), fun e => ?_, fun e => ⟨fun n r hm => ?_, fun d hd => ?_⟩⟩
  · have u := h.unscanned e
    exact ⟨by simp [ahsAfterLinkReset, u.index], rfl, rfl, rfl, u.nodup, u.few⟩
  · exact (hmem _).2 ⟨(h.indexed e).valid n r hm, rfl⟩
  · exact (h.indexed e).slot d ((hmem d).1 hd).1

end Sys2Proof.Machine

namespace Sys2Proof.Machine

/-! ## What every step keeps -/

/-- The law of R45, as an implication. -/
def SpinOk (s : State) : Prop := spindleRunning s = true → bothClamps .closed s = true ∧ bothBridges .out s = true

theorem spindleLaw_iff (s : State) : spindleLaw s = true ↔ SpinOk s := by
  unfold spindleLaw SpinOk
  cases spindleRunning s <;> simp

/-- The clauses of `workLaw`. -/
structure WorkOk (s : State) : Prop where
  lift : liftMoving s = true ∨ s.blu.kind = none
  apart : sweepRunning s = true → turningInProgress s = false
  plan : s.tpe.work ≠ .idle → s.tpe.plan.state = .none ∧ turningInProgress s = false
  mark : ∀ o, s.ahs.opening = some o → o.seating = true ∨ s.tpe.work = .marking

theorem workLaw_iff (s : State) : workLaw s = true ↔ WorkOk s := by
  have hm : (match s.ahs.opening with | some o => o.seating || s.tpe.work == .marking | none => true) = true ↔
      ∀ o, s.ahs.opening = some o → o.seating = true ∨ s.tpe.work = .marking := by
    cases s.ahs.opening <;> simp
  have hp : (s.tpe.work == .idle || (s.tpe.plan.state == .none && !turningInProgress s)) = true ↔
      (s.tpe.work ≠ .idle → s.tpe.plan.state = .none ∧ turningInProgress s = false) := by
    by_cases h : s.tpe.work = .idle <;> simp [h]
  have ha : (!(sweepRunning s && turningInProgress s)) = true ↔
      (sweepRunning s = true → turningInProgress s = false) := by
    cases sweepRunning s <;> simp
  unfold workLaw
  simp only [Bool.and_eq_true, ha, hp, Bool.or_eq_true, Option.isNone_iff_eq_none]
  exact ⟨fun ⟨⟨⟨h1, h2⟩, h3⟩, h4⟩ => ⟨h1, h2, h3, hm.1 h4⟩, fun ⟨h1, h2, h3, h4⟩ => ⟨⟨⟨h1, h2⟩, h3⟩, hm.2 h4⟩⟩

/-- What `t` keeps of the laws that hold in `s`: the law of R45, the works that exclude one another, the canonical form of
the slot array, and the law of R147. -/
structure Keeps (s t : State) : Prop where
  spin : SpinOk s → SpinOk t
  work : WorkOk s → WorkOk t
  array : ArrayOk s.ahs → ArrayOk t.ahs
  store : ArrayOk s.ahs → StoreOk s.ahs ∧ SeatWaits s → StoreOk t.ahs ∧ SeatWaits t

theorem Keeps.refl (s : State) : Keeps s s := ⟨id, id, id, fun _ => id⟩

theorem Keeps.trans {s t u : State} (h : Keeps s t) (k : Keeps t u) : Keeps s u :=
  ⟨k.spin ∘ h.spin, k.work ∘ h.work, k.array ∘ h.array, fun ha hs => k.store (h.array ha) (h.store ha hs)⟩

/-- A change that starts no work and leaves the history store. -/
theorem Keeps.of_still {s t : State} (hspin : SpinOk s → SpinOk t)
    (hlift : liftMoving s = true ∨ s.blu.kind = none → liftMoving t = true ∨ t.blu.kind = none)
    (hsweep : sweepRunning t = true → sweepRunning s = true)
    (hturn : turningInProgress t = true → turningInProgress s = true) (htpe : t.tpe = s.tpe) (hahs : t.ahs = s.ahs)
    (hseat : SeatWaits s → SeatWaits t) : Keeps s t where
  spin := hspin
  work h := by
    have turn : turningInProgress s = false → turningInProgress t = false := fun hf => by
      rw [← Bool.not_eq_true] at hf ⊢; exact hf ∘ hturn
    refine ⟨hlift h.lift, turn ∘ h.apart ∘ hsweep, ?_, ?_⟩
    · rw [htpe]; exact fun hw => ⟨(h.plan hw).1, turn (h.plan hw).2⟩
    · rw [htpe, hahs]; exact h.mark
  array := by rw [hahs]; exact id
  store := by rw [hahs]; exact fun _ ⟨h1, h2⟩ => ⟨h1, hseat h2⟩

/-! ## One update per block -/

section Updates

variable {b s : State}

theorem keeps_modGbc (f : Gbc → Gbc) (h : Keeps b s) : Keeps b (s.modGbc f) := h.trans ⟨id, fun w => ⟨w.1, w.2, w.3, w.4⟩, id, fun _ => id⟩
theorem keeps_modFmu (f : Fmu → Fmu) (h : Keeps b s) : Keeps b (s.modFmu f) := h.trans ⟨id, fun w => ⟨w.1, w.2, w.3, w.4⟩, id, fun _ => id⟩
theorem keeps_modSst (f : Sst → Sst) (h : Keeps b s) : Keeps b (s.modSst f) := h.trans ⟨id, fun w => ⟨w.1, w.2, w.3, w.4⟩, id, fun _ => id⟩
theorem keeps_modSlp (f : Slp → Slp) (h : Keeps b s) : Keeps b (s.modSlp f) := h.trans ⟨id, fun w => ⟨w.1, w.2, w.3, w.4⟩, id, fun _ => id⟩

/-- The turning unit changes, and neither the spindle nor a turning starts. -/
theorem keeps_modTcu (f : Tcu → Tcu) (hspin : spindleRunning (s.modTcu f) = true → spindleRunning s = true)
    (hturn : turningInProgress (s.modTcu f) = true → turningInProgress s = true) (h : Keeps b s) :
    Keeps b (s.modTcu f) :=
  h.trans (.of_still (fun hs hr => hs (hspin hr)) id id hturn rfl rfl id)

theorem keeps_modHead (side : Side) (f : Head → Head) (h : Keeps b s) : Keeps b (modHead side f s) :=
  keeps_modTcu _ id id h

/-- The measurement unit changes, and no sweep starts. -/
theorem keeps_modPmu (f : Pmu → Pmu) (hsweep : sweepRunning (s.modPmu f) = true → sweepRunning s = true)
    (h : Keeps b s) : Keeps b (s.modPmu f) :=
  h.trans (.of_still id id hsweep id rfl rfl id)

theorem keeps_modPmuHead (side : Side) (f : PmuHead → PmuHead) (h : Keeps b s) : Keeps b (modPmuHead side f s) :=
  keeps_modPmu _ id h

theorem keeps_modRim (side : Side) (f : Rim → Rim) (h : Keeps b s) : Keeps b (modRim side f s) :=
  keeps_modPmu _ id h

/-- The interlock changes, its bridges apart. -/
theorem keeps_modPil (f : Pil → Pil) (hb : ∀ p, (f p).bridge = p.bridge) (hseat : SeatWaits s → SeatWaits (s.modPil f))
    (h : Keeps b s) : Keeps b (s.modPil f) := by
  refine h.trans (.of_still (fun hs hr => ?_) id id id rfl rfl hseat)
  have := hs hr
  unfold bothBridges at this ⊢
  rwa [show (s.modPil f).pil.bridge = s.pil.bridge from hb s.pil]

/-- The lift changes, the clamps apart, and gives no move kind to a lift at rest. -/
theorem keeps_modBlu (f : Blu → Blu) (hc : ∀ x, (f x).clamp = x.clamp)
    (hlift : liftMoving s = true ∨ s.blu.kind = none → liftMoving (s.modBlu f) = true ∨ (s.modBlu f).blu.kind = none)
    (h : Keeps b s) : Keeps b (s.modBlu f) := by
  refine h.trans (.of_still (fun hs hr => ?_) hlift id id rfl rfl id)
  have := hs hr
  unfold bothClamps at this ⊢
  rwa [show (s.modBlu f).blu.clamp = s.blu.clamp from hc s.blu]

/-- A clamp changes; where the law of R45 holds, not below a spindle that runs. -/
theorem keeps_modClamp (side : Side) (f : Clamp → Clamp) (hspin : SpinOk s → spindleRunning s = false)
    (h : Keeps b s) : Keeps b (modClamp side f s) :=
  h.trans (.of_still (fun hs hr => by rw [show spindleRunning s = true from hr] at hspin; cases hspin hs) id id id rfl rfl id)

/-- A bridge changes; where the law of R45 holds, not below a spindle that runs. -/
theorem keeps_modBridge (side : Side) (f : Bridge → Bridge) (hspin : SpinOk s → spindleRunning s = false)
    (h : Keeps b s) : Keeps b (modBridge side f s) :=
  h.trans (.of_still (fun hs hr => by rw [show spindleRunning s = true from hr] at hspin; cases hspin hs) id id id rfl rfl id)

theorem keeps_forSides (f : Side → State → State) (hf : ∀ side s, Keeps b s → Keeps b (f side s)) (h : Keeps b s) :
    Keeps b (forSides f s) := hf _ _ (hf _ _ h)

theorem keeps_foldl {α : Type} (f : State → α → State) (hf : ∀ s x, Keeps b s → Keeps b (f s x)) (l : List α)
    (h : Keeps b s) : Keeps b (l.foldl f s) := by
  induction l generalizing s with
  | nil => exact h
  | cons x rest ih => exact ih (hf _ _ h)

theorem keeps_handCondition (m : MonitorId) (present : Bool) (h : Keeps b s) : Keeps b (handCondition m present s) :=
  keeps_modFmu (fun u => { u with monitors := u.monitors.set { u.monitors.get m with condition := present } m }) h

/-- The plan engine changes. -/
theorem keeps_modTpe (f : Tpe → Tpe) (hwork : WorkOk b → WorkOk s → WorkOk (s.modTpe f)) (h : Keeps b s) :
    Keeps b (s.modTpe f) :=
  ⟨fun hb => h.spin hb, fun hb => hwork hb (h.work hb), fun ha => h.array ha, fun ha hs => h.store ha hs⟩

/-- The history store changes. -/
theorem keeps_modAhs (f : Ahs → Ahs) (hmark : WorkOk s → WorkOk (s.modAhs f))
    (harray : ArrayOk s.ahs → ArrayOk (f s.ahs)) (hstore : ArrayOk s.ahs → StoreOk s.ahs → StoreOk (f s.ahs))
    (hseat : (f s.ahs).store = .loading → s.ahs.store = .loading) (h : Keeps b s) : Keeps b (s.modAhs f) :=
  h.trans ⟨id, hmark, harray, fun ha ⟨hs, hw⟩ => ⟨hstore ha hs, fun e => hw (hseat e)⟩⟩

/-- What the history store keeps for itself: the queue, the link, the flags and the outcomes. -/
theorem keeps_modAhsRest (f : Ahs → Ahs) (hf : ∀ a, (f a).store = a.store ∧ (f a).slots = a.slots ∧
      (f a).index = a.index ∧ (f a).cache = a.cache ∧ (f a).commit = a.commit ∧ (f a).opening = a.opening)
    (h : Keeps b s) : Keeps b (s.modAhs f) := by
  obtain ⟨h1, h2, h3, h4, h5, h6⟩ := hf s.ahs
  refine keeps_modAhs f (fun w => ⟨w.lift, w.apart, w.plan, ?_⟩) (fun ha => ⟨h2 ▸ ha.wf, h5 ▸ ha.inArray⟩)
    (fun _ hs => hs.congr h1 h2 h3 h4 h5 h6) (fun e => h1 ▸ e) h
  show ∀ o, (f s.ahs).opening = some o → _
  rw [h6]
  exact w.mark

end Updates

/-! ## The history store -/

section Store

variable {b s : State}

/-- Open records change, each keeping its axle ID, and with a commit in progress what is COMMITTING. -/
theorem keeps_modOpen (axle : AxleId) (f : OpenRecord → OpenRecord) (hid : ∀ o, (f o).record.axleId = o.record.axleId)
    (hst : s.ahs.commit = none ∨ ∀ o, o.state = .committing → (f o).state = .committing) (h : Keeps b s) :
    Keeps b (modOpen axle f s) := by
  refine keeps_modAhs _ (fun w => ⟨w.lift, w.apart, w.plan, w.mark⟩) (fun ha => ⟨ha.wf, ha.inArray⟩)
    (fun _ hs => hs.mapCache _ (fun o => ?_) (hst.imp id fun k o ho => ?_)) id h
  · split
    · exact hid o
    · rfl
  · split
    · exact k o ho
    · exact ho

theorem keeps_queueCommit (axle : AxleId) (h : Keeps b s) : Keeps b (queueCommit axle s) := by
  have hq : Keeps b (s.modAhs fun a => { a with queue := a.queue ++ [axle] }) :=
    keeps_modAhsRest _ (fun _ => ⟨rfl, rfl, rfl, rfl, rfl, rfl⟩) h
  unfold queueCommit
  split
  · exact h
  · split
    · exact h
    · split
      · exact h
      · exact hq

@[simp] theorem touch_record (o : OpenRecord) : (touch o).record = o.record := by
  unfold touch; split <;> rfl

theorem touch_committing {o : OpenRecord} (h : o.state = .committing) : (touch o).state = .committing := by
  simp [touch, h]

@[simp] theorem appendEntry_axleId (body : EntryBody) (stamp : Stamp) (r : Record) :
    (appendEntry body stamp r).axleId = r.axleId := by
  cases body <;> rfl

theorem keeps_appendTo (axle : AxleId) (body : EntryBody) (h : Keeps b s) : Keeps b (appendTo axle body s) := by
  have hm : Keeps b (modOpen axle (fun o => touch { o with record := appendEntry body s.pil.stamp o.record }) s) :=
    keeps_modOpen axle _ (fun o => by simp) (.inr fun o ho => touch_committing ho) h
  unfold appendTo
  dsimp only
  split
  · exact keeps_queueCommit axle hm
  · exact hm

theorem keeps_handEntry (body : EntryBody) (h : Keeps b s) : Keeps b (handEntry body s) := by
  unfold handEntry
  split
  · exact keeps_appendTo _ _ h
  · exact h

theorem makePlace_ahs (s : State) : ∃ cache, (makePlace s).ahs = { s.ahs with cache := cache } := by
  unfold makePlace
  split
  · exact ⟨s.ahs.cache, rfl⟩
  · exact ⟨_, rfl⟩

theorem keeps_makePlace (h : Keeps b s) : Keeps b (makePlace s) := by
  unfold makePlace
  split
  · exact h
  · refine keeps_modAhs _ (fun w => ⟨w.lift, w.apart, w.plan, w.mark⟩) (fun ha => ⟨ha.wf, ha.inArray⟩)
      (fun _ hs => hs.removeFirst _ fun o ho => ?_) id h
    intro hc
    simp [closable, hc] at ho

/-- A record that is indexed is opened; it is none that waits to be created. -/
theorem keeps_openRecord (r : Record) (st : CacheState)
    (hi : StoreOk s.ahs → ∃ e ∈ s.ahs.index, e.axleId = r.axleId)
    (hne : StoreOk s.ahs → ∀ x q, s.ahs.opening = some x → x.created = some q → r.axleId ≠ x.axleId) (h : Keeps b s) :
    Keeps b (openRecord r st s) :=
  keeps_modAhs _ (fun w => ⟨w.lift, w.apart, w.plan, w.mark⟩) (fun ha => ⟨ha.wf, ha.inArray⟩)
    (fun _ hs => hs.openRecord _ (hi hs) (hne hs)) id h

theorem keeps_linkRecord (axle : AxleId) (h : Keeps b s) : Keeps b (linkRecord axle s) := by
  have hl : Keeps b (s.modAhs fun a => { a with link := .opened axle }) :=
    keeps_modAhsRest _ (fun _ => ⟨rfl, rfl, rfl, rfl, rfl, rfl⟩) h
  unfold linkRecord
  dsimp only
  split
  · exact hl
  · exact keeps_modPil _ (fun _ => rfl) id hl

/-- No opening is there, or one that is not of a record being created. -/
theorem keeps_opening (o : Option Opening) (hmark : WorkOk b → ∀ x, o = some x → x.seating = true ∨ s.tpe.work = .marking)
    (hready : StoreOk s.ahs → ∀ x, o = some x → x.created = none ∧ s.ahs.store = .ready) (h : Keeps b s) :
    Keeps b (s.modAhs fun a => { a with opening := o }) where
  spin hb := h.spin hb
  work hb := have w := h.work hb; ⟨w.lift, w.apart, w.plan, hmark hb⟩
  array ha := ⟨(h.array ha).wf, (h.array ha).inArray⟩
  store ha hs := ⟨(h.store ha hs).1.opening o (hready (h.store ha hs).1), (h.store ha hs).2⟩

theorem keeps_noOpening (h : Keeps b s) : Keeps b (s.modAhs fun a => { a with opening := none }) :=
  keeps_opening none (fun _ _ hx => by cases hx) (fun _ _ hx => by cases hx) h

theorem keeps_serveOpening (h : Keeps b s) : Keeps b (serveOpening s) := by
  unfold serveOpening
  cases ho : s.ahs.opening with
  | none => exact h
  | some o =>
    dsimp only
    split
    · exact h
    · next hc =>
      have hret : o.retired s = false := by
        rw [Bool.or_eq_true, not_or] at hc; simpa using hc.2
      obtain ⟨e, he, heid⟩ : ∃ e ∈ s.ahs.index, e.axleId = o.axleId := by
        rw [← indexFind_isSome]
        simpa [Opening.retired] using hret
      obtain ⟨cache, hplace⟩ := makePlace_ahs s
      have hp := keeps_makePlace h
      cases hcr : o.created with
      | none =>
        dsimp only
        refine h.trans ((keeps_makePlace (.refl s)).trans (keeps_opening _ (fun w x hx => ?_) (fun hs x hx => ?_) (.refl _)))
        · cases hx
          exact w.mark o (by rw [hplace]; exact ho)
        · cases hx
          exact ⟨rfl, by rw [hplace] at hs ⊢; exact hs.ready he⟩
      | some r =>
        have hid : StoreOk s.ahs → r.axleId = o.axleId := fun hs => (hs.created o r ho hcr).1
        have hopen : Keeps b (openRecord r .dirty ((makePlace s).modAhs fun a => { a with opening := none })) := by
          refine h.trans ⟨(keeps_makePlace (.refl s)).spin, fun w => ?_, fun ha => ?_, fun ha ⟨hs, hw⟩ => ?_⟩
          · have k := (keeps_noOpening (keeps_makePlace (.refl s))).work w
            exact ⟨k.lift, k.apart, k.plan, k.mark⟩
          · have k := (keeps_noOpening (keeps_makePlace (.refl s))).array ha
            exact ⟨k.wf, k.inArray⟩
          · refine (keeps_openRecord r .dirty (fun _ => ⟨e, ?_, heid.trans (hid hs).symm⟩) (fun _ x q hx => ?_)
              (keeps_noOpening (keeps_makePlace (.refl s)))).store ha ⟨hs, hw⟩
            · show e ∈ (makePlace s).ahs.index
              rw [hplace]
              exact he
            · cases hx
        dsimp only
        split
        · exact keeps_linkRecord _ hopen
        · exact hopen

/-- The opening of a record that has a slot, or a slot to come (R152). -/
theorem keeps_beginOpening (o : Opening) (hmark : WorkOk b → o.seating = true ∨ s.tpe.work = .marking)
    (hcr : o.created = none) (hready : StoreOk s.ahs → s.ahs.store = .ready) (h : Keeps b s) :
    Keeps b (beginOpening o s) :=
  keeps_serveOpening (keeps_opening _ (fun w x hx => by cases hx; exact hmark w)
    (fun hs x hx => by cases hx; exact ⟨hcr, hready hs⟩) h)

theorem keeps_createRecord (axle : AxleId) (hready : StoreOk s.ahs ∧ SeatWaits s → s.ahs.store = .ready)
    (hclosed : isOpen axle s = false) (hnew : indexFind axle s.ahs.index = none) (h : Keeps b s) :
    Keeps b (createRecord axle s) := by
  unfold createRecord
  split
  · next hroom =>
    refine keeps_serveOpening (h.trans ⟨id, fun w => ⟨w.lift, w.apart, w.plan, fun x hx => ?_⟩,
      fun ha => ⟨ha.wf, ha.inArray⟩, fun ha hs => ⟨?_, hs.2⟩⟩)
    · cases hx; exact .inl rfl
    · have hcl : ∀ p ∈ s.ahs.cache, p.record.axleId ≠ axle := fun p hp hid => by
        have := (isOpen_iff axle s).2 ⟨p, hp, hid⟩
        rw [hclosed] at this
        cases this
      refine (hs.1.create (hready hs) (o := ⟨axle, true, some _, false⟩) hroom.1 hnew hcl rfl rfl ?_ rfl).congr
        rfl rfl rfl rfl rfl rfl
      cases s.pil.identity <;> rfl
  · exact keeps_modAhsRest _ (fun _ => ⟨rfl, rfl, rfl, rfl, rfl, rfl⟩) h

theorem keeps_seatRecord (axle : AxleId) (hready : StoreOk s.ahs ∧ SeatWaits s → s.ahs.store = .ready) (h : Keeps b s) :
    Keeps b (seatRecord axle s) := by
  unfold seatRecord
  split
  · exact keeps_linkRecord axle h
  · next hopen =>
    split
    · next e he =>
      have hl : Keeps b (s.modAhs fun a => { a with link := .waiting axle }) :=
        keeps_modAhsRest _ (fun _ => ⟨rfl, rfl, rfl, rfl, rfl, rfl⟩) h
      exact keeps_beginOpening _ (fun _ => .inl rfl) rfl (fun hs => hs.ready (indexFind_mem he).1) hl
    · next he => exact keeps_createRecord axle hready (by simpa using hopen) he h

theorem keeps_dropSeating (axle : AxleId) (h : Keeps b s) : Keeps b (dropSeating axle s) := by
  unfold dropSeating
  cases ho : s.ahs.opening with
  | none => exact h
  | some o =>
    dsimp only
    split
    · next hc =>
      obtain ⟨_, hid⟩ : o.seating = true ∧ o.axleId = axle := by simpa using hc
      subst hid
      cases hcr : o.created with
      | none => exact keeps_noOpening h
      | some r =>
        exact keeps_modAhs _ (fun w => ⟨w.lift, w.apart, w.plan, fun _ hx => by cases hx⟩)
          (fun ha => ⟨ha.wf, ha.inArray⟩) (fun _ hs => hs.uncreate ho hcr) id h
    · exact h

theorem keeps_endSeating (visit : Bool) (h : Keeps b s) : Keeps b (endSeating visit s) := by
  unfold endSeating
  refine keeps_modAhsRest _ (fun _ => ⟨rfl, rfl, rfl, rfl, rfl, rfl⟩) ?_
  split
  · exact h
  · exact keeps_dropSeating _ h
  · split
    · exact keeps_queueCommit _ (keeps_modOpen _ _ (fun o => by simp) (.inr fun o ho => touch_committing ho) h)
    · split
      · split
        · exact keeps_queueCommit _ h
        · exact h
      · exact h

theorem keeps_queueDirty (h : Keeps b s) : Keeps b (queueDirty s) :=
  keeps_foldl _ (fun _ _ => keeps_queueCommit _) _ h

/-! ## Commits (R153 to R156) -/

theorem keeps_failCommit (axle : AxleId) (bads : Nat) (h : Keeps b s) : Keeps b (failCommit axle bads s) := by
  have hend : Keeps b (s.modAhs fun a => { a with commit := none }) :=
    keeps_modAhs _ (fun w => ⟨w.lift, w.apart, w.plan, w.mark⟩) (fun ha => ⟨ha.wf, fun _ hx => by cases hx⟩)
      (fun _ hs => hs.endCommit) id h
  exact keeps_modAhsRest (fun a => { a with lastCommit := .failed axle bads }) (fun _ => ⟨rfl, rfl, rfl, rfl, rfl, rfl⟩)
    (keeps_modOpen axle (fun o => { o with state := .dirty, changed := false }) (fun _ => rfl) (.inl rfl) hend)

/-- A COMMITTING record is written to a free slot. -/
theorem keeps_beginWrite (o : OpenRecord) {n : Nat} (hn : lowestFree s.ahs.slots = some n) (retry : Bool) (bads : Nat)
    (hb : ArrayOk b.ahs → StoreOk b.ahs ∧ SeatWaits b →
      s.ahs.store = .ready ∧ Committing o.record.axleId s.ahs.cache) (h : Keeps b s) :
    Keeps b (beginWrite o n retry bads s) where
  spin hs := h.spin hs
  work hw := have w := h.work hw; ⟨w.lift, w.apart, w.plan, w.mark⟩
  array ha := by
    have k := h.array ha
    have hlt := (lowestFree_spec k.wf hn).1
    exact ⟨slotsWf_putSlot hlt _ k.wf, fun c hc => by cases hc; exact hlt⟩
  store ha hs := by
    have k := h.array ha
    obtain ⟨hst, hw⟩ := h.store ha hs
    obtain ⟨hready, hcom⟩ := hb ha hs
    obtain ⟨hlt, hfree, -⟩ := lowestFree_spec k.wf hn
    refine ⟨hst.write k hready hlt (fun r hr => by cases hr) (fun r hr => ?_) _ fun c hc => ?_, hw⟩
    · rw [hfree] at hr; cases hr
    · cases hc
      exact ⟨hcom, o.record, slotAt_putSlot_same n _ 0 _ k.wf, rfl⟩

theorem openFind_axleId {axle : AxleId} {o : OpenRecord} (h : openFind axle s = some o) : o.record.axleId = axle := by
  simpa using List.find?_some h

theorem openFind_committing {axle : AxleId} {o : OpenRecord} (h : openFind axle s = some o) :
    Committing o.record.axleId (s.ahs.cache.map fun o =>
      if o.record.axleId == axle then { o with state := CacheState.committing, changed := false } else o) := by
  have hid := openFind_axleId h
  unfold Committing
  rw [List.find?_map]
  have hp : ((fun p : OpenRecord => p.record.axleId == o.record.axleId) ∘ fun o =>
      if o.record.axleId == axle then { o with state := CacheState.committing, changed := false } else o) =
      fun p => p.record.axleId == axle := by
    funext p
    simp only [Function.comp, hid]
    split <;> rfl
  rw [hp, show s.ahs.cache.find? (fun p => p.record.axleId == axle) = some o from h]
  simp [hid]

theorem keeps_commitFront (hc : s.ahs.commit = none) (hr : s.ahs.store = .ready) (h : Keeps b s) :
    Keeps b (commitFront s) := by
  unfold commitFront
  cases s.ahs.queue with
  | nil => exact h
  | cons axle rest =>
    have hd : Keeps b (s.modAhs fun a => { a with queue := rest }) :=
      keeps_modAhsRest _ (fun _ => ⟨rfl, rfl, rfl, rfl, rfl, rfl⟩) h
    dsimp only
    cases ho : openFind axle s with
    | none => exact hd
    | some o =>
      dsimp only
      split
      · exact hd
      · split
        · exact keeps_failCommit _ _ hd
        · next n hn =>
          have hm := keeps_modOpen axle (fun o => { o with state := .committing, changed := false }) (fun _ => rfl)
            (by exact .inl hc) hd
          have hcom := openFind_committing ho
          exact keeps_beginWrite (s := modOpen axle (fun o => { o with state := .committing, changed := false })
            (s.modAhs fun a => { a with queue := rest })) o hn false 0 (fun _ _ => ⟨hr, hcom⟩) hm

theorem keeps_afterSwitch (axle : AxleId) (hc : s.ahs.commit = none) (h : Keeps b s) :
    Keeps b (afterSwitch axle s) := by
  unfold afterSwitch
  split
  · exact h
  · split
    · exact keeps_queueCommit _ (keeps_modOpen _ _ (fun _ => rfl) (.inl hc) h)
    · exact keeps_serveOpening (keeps_modOpen _ _ (fun _ => rfl) (.inl hc) h)

theorem keeps_verifyAgrees {c : Commit} (hc : s.ahs.commit = some c) (h : Keeps b s) : Keeps b (verifyAgrees c s) := by
  have hk : Keeps b (s.modAhs fun a => { switchIndex c a with commit := none }) :=
    keeps_modAhs _ (fun w => ⟨w.lift, w.apart, w.plan, w.mark⟩) (fun ha => ha.switchIndex (ha.inArray c hc))
      (fun ha hs => hs.switchIndex ha hc) id h
  exact keeps_afterSwitch _ rfl (keeps_modAhsRest (fun a => { a with lastCommit := .committed c.axleId c.bads })
    (fun _ => ⟨rfl, rfl, rfl, rfl, rfl, rfl⟩) hk)

theorem keeps_verifyDisagrees {c : Commit} (hc : s.ahs.commit = some c) (h : Keeps b s) :
    Keeps b (verifyDisagrees c s) := by
  have hready : StoreOk s.ahs → s.ahs.store = .ready := fun hs => by
    obtain ⟨o, ho, _⟩ := committing_mem (hs.commit c hc).1
    obtain ⟨e, he, _⟩ := hs.cached o ho
    exact hs.ready he
  have hbad : Keeps b (s.modAhs fun a => { a with slots := putSlot c.slot (some .bad) a.slots, commit := none }) :=
    keeps_modAhs _ (fun w => ⟨w.lift, w.apart, w.plan, w.mark⟩)
      (fun ha => ⟨slotsWf_putSlot (ha.inArray c hc) _ ha.wf, fun _ hx => by cases hx⟩)
      (fun ha hs => hs.write ha (hready hs) (ha.inArray c hc) (fun r hr => by cases hr)
        (fun r hr => by obtain ⟨q, hq, _⟩ := (hs.commit c hc).2; rw [hr] at hq; cases hq) none (fun _ hx => by cases hx))
      id h
  have hfail := keeps_failCommit c.axleId (c.bads + 1) hbad
  unfold verifyDisagrees
  dsimp only
  split
  · exact hfail
  · split
    · next n o hn ho =>
      have hid : o.record.axleId = c.axleId := openFind_axleId ho
      have hwrite := keeps_beginWrite (s := s.modAhs fun a =>
        { a with slots := putSlot c.slot (some .bad) a.slots, commit := none }) o hn true (c.bads + 1)
        (fun ha hs => ⟨hready (h.store ha hs).1, hid ▸ ((h.store ha hs).1.commit c hc).1⟩) hbad
      exact hwrite
    · exact hfail

end Store

end Sys2Proof.Machine

namespace Sys2Proof.Machine

/-! ## The plan engine -/

section Plan

variable {b s : State}

theorem keeps_dropMarkOpening (h : Keeps b s) : Keeps b (dropMarkOpening s) := by
  unfold dropMarkOpening
  split
  · exact h
  · split
    · exact h
    · exact keeps_noOpening h

/-- No opening of a mark waits any more. -/
theorem dropMarkOpening_seating {o : Opening} (h : (dropMarkOpening s).ahs.opening = some o) : o.seating = true := by
  unfold dropMarkOpening at h
  split at h
  · next hn => rw [hn] at h; cases h
  · next p hp =>
    split at h
    · next hs => rw [hp] at h; cases h; exact hs
    · cases h

theorem dropMarkOpening_modTpe (f : Tpe → Tpe) (s : State) :
    dropMarkOpening (s.modTpe f) = (dropMarkOpening s).modTpe f := by
  unfold dropMarkOpening
  rw [State.modTpe_ahs]
  split
  · rfl
  · split <;> rfl

theorem keeps_cancelWork (reason : PlanReason) (h : Keeps b s) : Keeps b (cancelWork reason s) := by
  unfold cancelWork
  split
  · exact h
  · rw [dropMarkOpening_modTpe]
    exact keeps_modTpe _ (fun _ w => ⟨w.lift, w.apart, fun hw => absurd rfl hw,
      fun o ho => .inl (dropMarkOpening_seating ho)⟩) (keeps_dropMarkOpening h)

theorem keeps_discardPlan (reason : PlanReason) (h : Keeps b s) : Keeps b (discardPlan reason s) := by
  have hc := keeps_cancelWork reason h
  unfold discardPlan
  dsimp only
  split
  · exact hc
  · exact keeps_modTpe _ (fun _ w => ⟨w.lift, w.apart, fun hw => ⟨rfl, (w.plan hw).2⟩, w.mark⟩) hc

theorem keeps_planInputChanged (h : Keeps b s) : Keeps b (planInputChanged s) := by
  unfold planInputChanged
  split
  · exact keeps_discardPlan _ h
  · exact h

/-- The plan work ends: no opening of a mark waits. -/
theorem keeps_planReady (hmark : WorkOk b → ∀ o, s.ahs.opening = some o → o.seating = true) (h : Keeps b s) :
    Keeps b (planReady s) := by
  unfold planReady
  split
  · exact h
  · exact keeps_modTpe _ (fun hb w => ⟨w.lift, w.apart, fun hw => absurd rfl hw, fun o ho => .inl (hmark hb o ho)⟩) h

theorem keeps_placeMark (m : Mark) (h : Keeps b s) : Keeps b (placeMark m s) :=
  keeps_queueCommit _ (keeps_appendTo _ _ h)

theorem keeps_judgeMark (m : Mark) (h : Keeps b s) : Keeps b (judgeMark m s) := by
  unfold judgeMark
  split
  · exact h
  · split
    · exact keeps_placeMark m h
    · split
      · exact keeps_placeMark m h
      · exact h
    · exact h

theorem queueCommit_opening (axle : AxleId) (s : State) : (queueCommit axle s).ahs.opening = s.ahs.opening := by
  unfold queueCommit
  split
  · rfl
  · split
    · rfl
    · split <;> rfl

theorem appendTo_opening (axle : AxleId) (body : EntryBody) (s : State) :
    (appendTo axle body s).ahs.opening = s.ahs.opening := by
  unfold appendTo
  dsimp only
  split
  · exact queueCommit_opening ..
  · rfl

theorem judgeMark_opening (m : Mark) (s : State) : (judgeMark m s).ahs.opening = s.ahs.opening := by
  have hp : (placeMark m s).ahs.opening = s.ahs.opening :=
    (queueCommit_opening ..).trans (appendTo_opening ..)
  unfold judgeMark
  split
  · rfl
  · split
    · exact hp
    · split
      · exact hp
      · rfl
    · rfl

theorem judgeMark_tpe (m : Mark) (s : State) : (judgeMark m s).tpe = s.tpe :=
  (kept_judgeMark (keep := { ahs := true }) m rfl (.refl _ s)).tpe rfl

/-- Marks are handed to the store only in plan work that places them, and none of them waits yet. -/
theorem keeps_processMarks (ms : List Mark) (hwork : WorkOk b → s.tpe.work = .marking)
    (hmark : WorkOk b → ∀ o, s.ahs.opening = some o → o.seating = true) (h : Keeps b s) :
    Keeps b (processMarks ms s) := by
  induction ms generalizing s with
  | nil => exact keeps_planReady hmark h
  | cons m rest ih =>
    unfold processMarks
    split
    · exact ih hwork hmark h
    · next hi =>
      split
      · refine ih (fun hb => ?_) (fun hb => ?_) (keeps_judgeMark m h)
        · rw [judgeMark_tpe]; exact hwork hb
        · rw [judgeMark_opening]; exact hmark hb
      · split
        · exact ih hwork hmark h
        · have ht : Keeps b (s.modTpe fun t => { t with marks := m :: rest }) :=
            keeps_modTpe _ (fun _ w => ⟨w.lift, w.apart, w.plan, w.mark⟩) h
          refine keeps_beginOpening _ (fun hb => .inr (hwork hb)) rfl (fun hs => ?_) ht
          obtain ⟨e, he⟩ := Option.ne_none_iff_exists'.1 (fun hn => hi (Option.isNone_iff_eq_none.2 hn))
          exact hs.ready (indexFind_mem he).1

/-- The mark whose opening waits is skipped. -/
theorem keeps_skipMark {o : Opening} (ho : s.ahs.opening = some o) (hs : o.seating = false) (ms : List Mark)
    (h : Keeps b s) : Keeps b (processMarks ms (s.modAhs fun a => { a with opening := none })) := by
  refine keeps_processMarks ms (fun hb => ?_) (fun _ x hx => ?_) (keeps_noOpening h)
  · exact ((h.work hb).mark o ho).resolve_left (by simp [hs])
  · cases hx

theorem keeps_drainMarks (h : Keeps b s) : Keeps b (drainMarks s) := by
  unfold drainMarks
  cases ho : s.ahs.opening with
  | none => exact h
  | some o =>
    dsimp only
    split
    · next hc =>
      simp only [Bool.and_eq_true, Bool.not_eq_true'] at hc
      exact keeps_skipMark ho hc.1.1 _ h
    · exact h

theorem keeps_skipRetired (h : Keeps b s) : Keeps b (skipRetired s) := by
  unfold skipRetired
  cases ho : s.ahs.opening with
  | none => exact h
  | some o =>
    dsimp only
    split
    · next hc =>
      simp only [Bool.and_eq_true, Bool.not_eq_true'] at hc
      exact keeps_skipMark ho hc.1.1.1 _ h
    · exact h

theorem keeps_planStopped (state : PlanState) (reason : Option PlanReason) (outcome : PlanOutcome) (f : PlanFigures)
    (hwork : s.tpe.work = .computing) (h : Keeps b s) : Keeps b (planStopped state reason outcome f s) := by
  refine keeps_modTpe _ (fun _ w => ⟨w.lift, w.apart, fun hw => absurd rfl hw, fun o ho => ?_⟩) h
  exact .inl ((w.mark o ho).resolve_right (by simp [hwork]))

theorem keeps_computePlan (p : PlanInputs) (hwork : s.tpe.work = .computing) (h : Keeps b s) :
    Keeps b (computePlan p s) := by
  unfold computePlan
  dsimp only
  split
  · exact keeps_planStopped _ _ _ _ hwork h
  · split
    · exact keeps_handEntry _ (keeps_planStopped _ _ _ _ hwork h)
    · split
      · exact keeps_planStopped _ _ _ _ hwork h
      · split
        · exact keeps_planStopped _ _ _ _ hwork h
        · refine keeps_processMarks _ (fun _ => rfl) (fun hb o ho => ?_)
            (keeps_modTpe _ (fun _ w => ⟨w.lift, w.apart, fun _ => w.plan (by simp [hwork]), fun o ho => .inr rfl⟩) h)
          exact ((h.work hb).mark o ho).resolve_right (by simp [hwork])

theorem keeps_computationEnd (h : Keeps b s) : Keeps b (computationEnd s) := by
  unfold computationEnd
  split
  · next hw _ => exact keeps_drainMarks (keeps_computePlan _ hw h)
  · exact h

/-- PLAN is taken with no work and no turning. -/
theorem keeps_beginPlan (p : PlanInputs) (hwork : s.tpe.work = .idle) (hturn : turningInProgress s = false)
    (h : Keeps b s) : Keeps b (beginPlan p s) := by
  refine keeps_modTpe _ (fun _ w => ⟨w.lift, w.apart, fun _ => ⟨rfl, hturn⟩, fun o ho => .inl ?_⟩) h
  exact (w.mark o ho).resolve_right (by simp [hwork])

theorem keeps_planRequest (h : Keeps b s) : Keeps b (planRequest s).2 := by
  unfold planRequest
  split
  · exact h
  · next hb =>
    push Not at hb
    obtain ⟨hwork, -, hturn⟩ := hb
    split
    · split_ifs
      · exact h
      · exact h
      · exact h
      · exact keeps_beginPlan _ hwork (by simpa using hturn) h
    · exact h

/-! ## The requests and the ends of work of the history store -/

/-- The record that readers see is one of its axle ID. -/
theorem readRecord_axleId (hs : StoreOk s.ahs) {axle : AxleId} {r : Record} (h : readRecord axle s = some r) :
    r.axleId = axle := by
  unfold readRecord at h
  split at h
  · next o ho => cases h; exact openFind_axleId ho
  · split at h
    · cases h
    · next e he =>
      obtain ⟨hm, rfl⟩ := indexFind_mem he
      split at h
      · next n hn =>
        obtain ⟨q, hq, hid⟩ := (hs.indexed (hs.ready hm)).slot e hm n hn
        rw [hq] at h
        cases h
        exact hid
      · split at h
        · next o ho =>
          split at h
          · next hid => exact ((hs.created o r ho h).1).trans hid
          · cases h
        · cases h

/-- The slot of an indexed record is read into the cache. -/
theorem keeps_openFound {axle : AxleId} {r : Record} (hf : ((indexFind axle s.ahs.index).bind fun _ => readRecord axle s) = some r)
    (hne : StoreOk s.ahs → ∀ x q, s.ahs.opening = some x → x.created = some q → x.axleId ≠ axle) (h : Keeps b s) :
    Keeps b (openRecord r .clean s) := by
  obtain ⟨e, he, hr⟩ := Option.bind_eq_some_iff.1 hf
  refine keeps_openRecord r _ (fun hs => ?_) (fun hs x q hx hq => ?_) h
  · exact ⟨e, (indexFind_mem he).1, (indexFind_mem he).2.trans (readRecord_axleId hs hr).symm⟩
  · rw [readRecord_axleId hs hr]; exact (hne hs x q hx hq).symm

theorem keeps_recordOpened (h : Keeps b s) : Keeps b (recordOpened s) := by
  unfold recordOpened
  cases ho : s.ahs.opening with
  | none => exact h
  | some o =>
    dsimp only
    split
    · exact h
    · have hn : Keeps b (s.modAhs fun a => { a with opening := none }) := keeps_noOpening h
      have hnone : (s.modAhs fun a => { a with opening := none }).ahs.opening = none := rfl
      have htpe : (s.modAhs fun a => { a with opening := none }).tpe = s.tpe := rfl
      generalize (s.modAhs fun a => { a with opening := none }) = s1 at hn hnone htpe ⊢
      have hmarks : ∀ t, Keeps b t → t.ahs.opening = none → t.tpe = s.tpe → ¬o.seating = true →
          Keeps b (drainMarks (processMarks t.tpe.marks t)) := fun t ht ho' ht' hseat =>
        keeps_drainMarks (keeps_processMarks _ (fun hb => by
          rw [ht']; exact ((h.work hb).mark o ho).resolve_left hseat) (fun _ x hx => by rw [ho'] at hx; cases hx) ht)
      cases hf : (indexFind o.axleId s1.ahs.index).bind fun _ => readRecord o.axleId s1 with
      | none =>
        simp only [Option.isSome_none, Bool.false_eq_true, if_false]
        split
        · exact keeps_modAhsRest _ (fun _ => ⟨rfl, rfl, rfl, rfl, rfl, rfl⟩) hn
        · next hseat => exact hmarks _ hn hnone htpe hseat
      | some r =>
        obtain ⟨t, hte, ht, ho', ht'⟩ : ∃ t, t = (if isOpen o.axleId s1 = true then s1 else openRecord r .clean s1) ∧
            Keeps b t ∧ t.ahs.opening = none ∧ t.tpe = s.tpe := by
          refine ⟨_, rfl, ?_⟩
          split
          · exact ⟨hn, hnone, htpe⟩
          · exact ⟨keeps_openFound hf (fun _ x q hx => by rw [hnone] at hx; cases hx) hn, hnone, htpe⟩
        dsimp only [Option.isSome_some]
        rw [← hte]
        split
        · exact keeps_linkRecord _ ht
        · next hseat => exact hmarks _ ht ho' ht' hseat

theorem keeps_commitBegin (h : Keeps b s) : Keeps b (commitBegin s) := by
  unfold commitBegin
  split
  · next hc => exact keeps_drainMarks (keeps_commitFront hc.1 hc.2.1 h)
  · exact h

theorem keeps_slotWritten (h : Keeps b s) : Keeps b (slotWritten s) := by
  unfold slotWritten
  split
  · exact h
  · next c hc =>
    exact keeps_modAhs _ (fun w => ⟨w.lift, w.apart, w.plan, w.mark⟩)
      (fun ha => ⟨ha.wf, fun d hd => by cases hd; exact ha.inArray c hc⟩) (fun _ hs => hs.stage hc _) id h

theorem keeps_verifyDone (agrees : Bool) (h : Keeps b s) : Keeps b (verifyDone agrees s) := by
  unfold verifyDone
  split
  · exact h
  · next c hc =>
    split
    · cases agrees
      · exact keeps_drainMarks (keeps_skipRetired (keeps_verifyDisagrees hc h))
      · exact keeps_drainMarks (keeps_skipRetired (keeps_verifyAgrees hc h))
    · exact h

theorem keeps_scanEnded (bads : List Nat) (h : Keeps b s) : Keeps b (scanEnded bads s) := by
  unfold scanEnded
  split
  · next hl =>
    exact keeps_modAhs _ (fun w => ⟨w.lift, w.apart, w.plan, w.mark⟩)
      (fun ha => ⟨slotsWf_scanSlots bads ha.wf, ha.inArray⟩) (fun ha hs => hs.scan ha hl bads _) (fun e => by cases e) h
  · exact h

theorem keeps_retire {e : IndexEntry} (he : e ∈ s.ahs.index)
    (hc : StoreOk s.ahs → ∀ c, s.ahs.commit = some c → c.axleId ≠ e.axleId) (h : Keeps b s) : Keeps b (retire e s) := by
  refine keeps_modAhs _ (fun w => ⟨w.lift, w.apart, w.plan, w.mark⟩) (fun ha => ⟨?_, ha.inArray⟩)
    (fun ha hs => hs.remove ha he (hc hs)) id h
  cases hes : e.slot with
  | none => simpa [hes] using ha.wf
  | some n => simpa [hes] using slotsWf_free n ha.wf

theorem keeps_retireAxleRequest (axle : AxleId) (h : Keeps b s) : Keeps b (retireAxleRequest axle s).2 := by
  unfold retireAxleRequest
  split
  · exact h
  · split
    · exact h
    · next hbusy =>
      split
      · exact h
      · split
        · exact h
        · next e he =>
          refine keeps_retire (indexFind_mem he).1 (fun hs c hc hid => hbusy ?_) h
          have hcom := (hs.commit c hc).1
          rw [hid.trans (indexFind_mem he).2] at hcom
          unfold Committing at hcom
          have hof : openFind axle s = s.ahs.cache.find? fun o => o.record.axleId == axle := rfl
          rw [← hof] at hcom
          cases ho : openFind axle s with
          | none => rw [ho] at hcom; cases hcom
          | some o =>
            rw [ho] at hcom
            simp only [Option.map_some, Option.some.injEq] at hcom
            simp [commitOwed, ho, hcom]

theorem keeps_correct (r : Record) (l d : Option Nat)
    (hopen : isOpen r.axleId s = false → Keeps b (openRecord r .clean (makePlace s))) (h : Keeps b s) :
    Keeps b (correct r l d s) := by
  unfold correct
  refine keeps_appendTo _ _ ?_
  split
  · exact h
  · next ho => exact hopen (by simpa using ho)

theorem keeps_correctHistoryRequest (axle : AxleId) (l d : Option Nat) (h : Keeps b s) :
    Keeps b (correctHistoryRequest axle l d s).2 := by
  unfold correctHistoryRequest
  dsimp only
  split
  · exact h
  · split
    · exact h
    · next hbusy =>
      split
      · exact h
      · next r hf =>
        split
        · exact h
        · refine keeps_correct r _ _ (fun _ => ?_) h
          obtain ⟨e, he, hr⟩ := Option.bind_eq_some_iff.1 hf
          obtain ⟨cache, hplace⟩ := makePlace_ahs s
          refine h.trans ⟨(keeps_makePlace (.refl s)).spin, fun w => ?_, fun ha => ?_, fun ha hs => ?_⟩
          · have k := (keeps_makePlace (.refl s)).work w
            exact ⟨k.lift, k.apart, k.plan, k.mark⟩
          · have k := (keeps_makePlace (.refl s)).array ha
            exact ⟨k.wf, k.inArray⟩
          · have hid := readRecord_axleId hs.1 hr
            refine (keeps_openRecord r .clean (fun _ => ⟨e, ?_, (indexFind_mem he).2.trans hid.symm⟩)
              (fun _ x q hx hq => ?_) (keeps_makePlace (.refl s))).store ha hs
            · rw [hplace]; exact (indexFind_mem he).1
            · rw [hplace] at hx
              have hp := (hs.1.created x q hx hq).2.1
              have hw : openingWaits s = true := by
                simp [openingWaits, show s.ahs.opening = some x from hx, hp]
              simp [hw] at hbusy

theorem keeps_readHistoryRequest (axle : AxleId) (start : Nat) (h : Keeps b s) :
    Keeps b (readHistoryRequest axle start s).2 := by
  unfold readHistoryRequest
  split
  · exact h
  · split
    · exact h
    · split
      · exact h
      · split
        · exact h
        · exact h

theorem keeps_listBogieRequest (bogie : BogieId) (h : Keeps b s) : Keeps b (listBogieRequest bogie s).2 := by
  unfold listBogieRequest
  split
  · exact h
  · exact h

theorem keeps_commitRequest (h : Keeps b s) : Keeps b (commitRequest s).2 := by
  unfold commitRequest
  split
  · exact h
  · exact keeps_queueDirty h

end Plan

end Sys2Proof.Machine

namespace Sys2Proof.Machine

/-! ## The turning unit -/

section Turning

variable {b s : State}

theorem turningLive_inProgress (h : turningLive s = true) : turningInProgress s = true := by
  simp [turningInProgress, h]

theorem keeps_rundown (h : Keeps b s) : Keeps b (rundown s) := by
  unfold rundown
  split
  · exact keeps_modTcu _ (fun hr => by cases hr) id h
  · exact h

theorem rundown_not_running (s : State) : spindleRunning (rundown s) = false := by
  unfold rundown
  split
  · rfl
  · next h => simpa using h

@[simp] theorem leftState_not_inProgress (left : LeftState) (f : Tcu → Tcu) (hf : (f s.tcu).state = left.state) :
    turningInProgress (s.modTcu f) = false := by
  have e : (s.modTcu f).tcu.state = left.state := hf
  unfold turningInProgress turningLive
  rw [e]
  cases left <;> rfl

theorem keeps_leaveMeasureRun (h : Keeps b s) : Keeps b (leaveMeasureRun s) := by
  unfold leaveMeasureRun
  split
  · next left _ =>
    split
    · refine keeps_modTcu _ id (fun ht => ?_) h
      rw [leftState_not_inProgress left _ rfl] at ht
      cases ht
    · exact h
  · exact h

theorem keeps_finishRun (h : Keeps b s) : Keeps b (finishRun s) := by
  unfold finishRun
  split
  · exact keeps_leaveMeasureRun (keeps_rundown (keeps_modTcu _ id id h))
  · exact h

theorem keeps_setPass (side : Side) (status : PassStatus) (h : Keeps b s) : Keeps b (setPass side status s) := by
  unfold setPass
  split
  · exact h
  · exact keeps_modTcu _ id id h

theorem keeps_breakPass (side : Side) (h : Keeps b s) : Keeps b (breakPass side s) := by
  unfold breakPass
  split
  · exact keeps_setPass _ _ h
  · exact h

theorem keeps_withdrawHead (side : Side) (h : Keeps b s) : Keeps b (withdrawHead side s) := by
  unfold withdrawHead
  dsimp only
  split
  · exact keeps_modHead _ _ (keeps_breakPass side h)
  · exact h

/-- A turning takes a state of a turning in progress. -/
theorem keeps_turning (f : Tcu → Tcu) (hf : ∀ t, (f t).spindle = t.spindle) (hturn : turningInProgress s = true)
    (h : Keeps b s) : Keeps b (s.modTcu f) := by
  refine keeps_modTcu f (fun hr => ?_) (fun _ => hturn) h
  unfold spindleRunning at hr ⊢
  rwa [show (s.modTcu f).tcu.spindle = s.tcu.spindle from hf s.tcu] at hr

theorem keeps_pauseTurning (cause : PauseCause) (h : Keeps b s) : Keeps b (pauseTurning cause s) := by
  unfold pauseTurning
  split
  · next hl =>
    exact keeps_forSides _ (fun side _ => keeps_withdrawHead side)
      (keeps_turning _ (fun _ => rfl) (turningLive_inProgress hl) h)
  · exact h

theorem keeps_haltActiveHead (side : Side) (h : Keeps b s) : Keeps b (haltActiveHead side s) := by
  unfold haltActiveHead
  split
  · exact keeps_modHead _ _ h
  · exact h

theorem keeps_leaveEnding (h : Keeps b s) : Keeps b (leaveEnding s) := by
  unfold leaveEnding
  split
  · next ab hstate =>
    have hidle : WorkOk b → s.tpe.work = .idle := fun hb => by
      by_contra hw
      have ht := ((h.work hb).plan hw).2
      unfold turningInProgress turningLive at ht
      rw [hstate] at ht
      cases ht
    split
    · have hleft : Keeps b (s.modTcu fun t => { t with
          state := if ab then .aborted else .done
          head := t.head.map fun h => { h with owner := .none, passIndex := none } }) := by
        refine keeps_modTcu _ id (fun ht => ?_) h
        cases ab <;> cases ht
      have hturned := keeps_modPmu (fun p => { p with turnedSince := true }) id hleft
      cases ab with
      | true => exact hturned
      | false =>
        exact keeps_modTpe (fun t => { t with plan := { t.plan with state := .spent } })
          (fun hb w => ⟨w.lift, w.apart, fun hw => absurd (hidle hb) hw, w.mark⟩) hturned
    · exact h
  · exact h

theorem keeps_sendToPark (side : Side) (h : Keeps b s) : Keeps b (sendToPark side s) := by
  unfold sendToPark
  dsimp only
  split
  · exact h
  · exact keeps_modHead _ _ h

theorem keeps_haltTurningHead (side : Side) (h : Keeps b s) : Keeps b (haltTurningHead side s) := by
  unfold haltTurningHead
  split
  · exact h
  · exact keeps_modHead _ _ h

/-- What keeps the turning unit keeps whether a turning is in progress. -/
theorem turningInProgress_congr {t : State} (h : t.tcu.state = s.tcu.state) :
    turningInProgress t = turningInProgress s := by
  unfold turningInProgress turningLive
  rw [h]

theorem handEntry_tcu (body : EntryBody) (s : State) : (handEntry body s).tcu = s.tcu :=
  (kept_handEntry (keep := { ahs := true }) body rfl (.refl _ s)).wholeTcu rfl rfl

theorem keeps_endDone (hturn : turningInProgress s = true) (h : Keeps b s) : Keeps b (endDone s) := by
  refine keeps_leaveEnding (keeps_forSides _ (fun side _ => keeps_sendToPark side) (keeps_rundown
    (keeps_turning _ (fun _ => rfl) ?_ (keeps_handEntry _ h))))
  rw [turningInProgress_congr (congrArg Tcu.state (handEntry_tcu ..))]
  exact hturn

theorem breakPass_state (side : Side) (s : State) : (breakPass side s).tcu.state = s.tcu.state := by
  unfold breakPass setPass
  split
  · split <;> rfl
  · rfl

theorem keeps_endAborted (cause : TurnCause) (hturn : turningInProgress s = true) (h : Keeps b s) :
    Keeps b (endAborted cause s) := by
  have hbreak : Keeps b (forSides breakPass s) := keeps_forSides _ (fun side _ => keeps_breakPass side) h
  have hentry := keeps_handEntry (turnedEntry true (forSides breakPass s)) hbreak
  have hstate : turningInProgress (handEntry (turnedEntry true (forSides breakPass s)) (forSides breakPass s)) = true := by
    refine (turningInProgress_congr ?_).trans hturn
    rw [handEntry_tcu]
    exact (breakPass_state .r _).trans (breakPass_state .l s)
  have hend : Keeps b ((handEntry (turnedEntry true (forSides breakPass s)) (forSides breakPass s)).modTcu fun t =>
      { t with state := .ending true, lastTurn := .interrupted cause }) := keeps_turning _ (fun _ => rfl) hstate hentry
  have hbroken : Keeps b (((handEntry (turnedEntry true (forSides breakPass s)) (forSides breakPass s)).modTcu fun t =>
      { t with state := .ending true, lastTurn := .interrupted cause }).modTpe fun t =>
        { t with plan := { t.plan with state := .broken } }) :=
    keeps_modTpe _ (fun _ w => ⟨w.lift, w.apart, fun hw => (by cases (w.plan hw).2), w.mark⟩) hend
  unfold endAborted
  refine keeps_leaveEnding (keeps_forSides _ (fun side t ht => ?_) (keeps_rundown hbroken))
  cases cause
  · exact keeps_sendToPark side ht
  · exact keeps_haltTurningHead side ht
  · exact keeps_haltTurningHead side ht

theorem keeps_beginPass (k : Nat) (side : Side) (h : Keeps b s) : Keeps b (beginPass k side s) := by
  unfold beginPass
  split
  · exact h
  · split
    · exact keeps_setPass _ _ (keeps_modHead _ _ h)
    · exact h

theorem keeps_beginStep (k : Nat) (h : Keeps b s) : Keeps b (beginStep k s) :=
  keeps_forSides _ (fun side _ => keeps_beginPass k side) (keeps_modTcu _ id id h)

theorem keeps_stepEnd (h : Keeps b s) : Keeps b (stepEnd s) := by
  unfold stepEnd
  split
  · next p c hstate _ _ =>
    have hturn : turningInProgress s = true := by simp [turningInProgress, turningLive, hstate]
    split
    · split
      · exact keeps_endDone hturn h
      · split
        · exact keeps_rundown (keeps_turning _ (fun _ => rfl) hturn h)
        · exact keeps_beginStep _ h
    · exact h
  · exact h

theorem keeps_recutPass (k : Nat) (side : Side) (h : Keeps b s) : Keeps b (recutPass k side s) := by
  unfold recutPass
  split
  · exact h
  · dsimp only
    split
    · exact keeps_beginPass k side h
    · exact h

theorem keeps_continueCutting (hturn : turningInProgress s = true) (h : Keeps b s) : Keeps b (continueCutting s) := by
  have hc := keeps_turning (fun t => { t with state := .cutting }) (fun _ => rfl) hturn h
  unfold continueCutting
  dsimp only
  split
  · exact hc
  · exact keeps_stepEnd (keeps_forSides _ (fun side _ => keeps_recutPass _ side) hc)

end Turning

/-! ## The measurement unit -/

section Measure

variable {b s : State}

theorem keeps_place (x : Txn) (h : Keeps b s) : Keeps b (place x s) := by
  unfold place
  split
  · exact keeps_modGbc _ h
  · split
    · exact keeps_modGbc _ h
    · exact h

theorem keeps_placeKept (q : Requester) (h : Keeps b s) : Keeps b (placeKept q s) := by
  unfold placeKept
  split
  · exact h
  · split
    · exact h
    · split
      · exact keeps_modGbc _ h
      · exact h

theorem keeps_abandon (q : Requester) (h : Keeps b s) : Keeps b (abandon q s) := by
  unfold abandon
  dsimp only
  split
  · exact keeps_modGbc _ h
  · exact keeps_modGbc _ (keeps_modGbc _ h)

theorem keeps_headParked (side : Side) (h : Keeps b s) : Keeps b (headParked side s) :=
  keeps_handCondition _ _ (keeps_modHead _ _ h)

theorem keeps_releaseHead (side : Side) (h : Keeps b s) : Keeps b (releaseHead side s) := by
  unfold releaseHead
  dsimp only
  split
  · exact keeps_modHead _ _ h
  · exact h

theorem keeps_sendProbeHome (side : Side) (h : Keeps b s) : Keeps b (sendProbeHome side s) :=
  keeps_place _ (keeps_modHead _ _ h)

theorem keeps_abandonSwept (side : Side) (h : Keeps b s) : Keeps b (abandonSwept side s) := by
  unfold abandonSwept
  split
  · exact keeps_abandon _ h
  · exact h

theorem keeps_parkSwept (wheels : Option Wheels) (side : Side) (h : Keeps b s) : Keeps b (parkSwept wheels side s) := by
  unfold parkSwept
  split
  · exact h
  · split
    · exact keeps_sendProbeHome side h
    · exact h

theorem keeps_closeSweep (outcome : SweepOutcome) (h : Keeps b s) : Keeps b (closeSweep outcome s) := by
  have hrun := keeps_finishRun (keeps_discardPlan .sweep (keeps_modPmu
    (fun p => { p with phase := .idle, selected := none, lastSweep := outcome, entrySkipped := false, taken := .both none })
    (fun hr => by cases hr) (keeps_forSides abandonSwept (fun side _ => keeps_abandonSwept side) h)))
  unfold closeSweep
  refine keeps_forSides _ (fun side _ => keeps_releaseHead side) ?_
  split
  · exact hrun
  · exact keeps_forSides _ (fun side _ => keeps_parkSwept _ side) hrun

theorem keeps_failRecord (reason : Reason) (side : Side) (h : Keeps b s) : Keeps b (failRecord reason side s) := by
  unfold failRecord
  split
  · exact keeps_modPmu _ id h
  · exact h

theorem keeps_sweepFail (reason : Reason) (h : Keeps b s) : Keeps b (sweepFail reason s) := by
  unfold sweepFail
  split
  · exact keeps_closeSweep _ (keeps_forSides _ (fun side _ => keeps_failRecord reason side) h)
  · exact h

theorem keeps_supportLost (h : Keeps b s) : Keeps b (supportLost s) := keeps_sweepFail .support h

theorem keeps_stowHead (side : Side) (h : Keeps b s) : Keeps b (stowHead side s) := by
  unfold stowHead
  split
  · exact h
  · exact keeps_place _ (keeps_handCondition _ _ (keeps_modHead _ _ h))

theorem keeps_endReference (side : Side) (outcome : ReferenceOutcome) (h : Keeps b s) :
    Keeps b (endReference side outcome s) := by
  unfold endReference
  split
  · exact keeps_releaseHead side (keeps_stowHead side (keeps_modPmuHead _ _ (keeps_abandon _ h)))
  · exact h

theorem keeps_referenceFailed (reason : Reason) (side : Side) (h : Keeps b s) : Keeps b (referenceFailed reason side s) :=
  keeps_endReference side _ h

theorem keeps_makeStale (side : Side) (h : Keeps b s) : Keeps b (makeStale side s) := by
  unfold makeStale
  exact keeps_modPmuHead _ _ h

theorem keeps_headNotice (side : Side) (h : Keeps b s) : Keeps b (headNotice side s) :=
  keeps_referenceFailed _ side (keeps_makeStale side h)

theorem keeps_handNotices (o : Observation) (h : Keeps b s) : Keeps b (handNotices o s) := by
  refine keeps_forSides _ (fun side t ht => ?_) h
  split
  · exact keeps_headNotice side ht
  · exact ht

theorem keeps_setValid (f : Sides (Option ProfileFigures)) (side : Side) (h : Keeps b s) : Keeps b (setValid f side s) := by
  unfold setValid
  split
  · exact keeps_modPmu _ id h
  · exact h

theorem keeps_sweepDone (f : Sides (Option ProfileFigures)) (h : Keeps b s) : Keeps b (sweepDone f s) := by
  have hc := keeps_closeSweep .done (keeps_forSides (setValid f) (fun side _ => keeps_setValid f side) h)
  unfold sweepDone
  dsimp only
  split
  · exact hc
  · exact keeps_handEntry _ (keeps_modPmu _ id hc)

theorem keeps_finishExtraction (h : Keeps b s) : Keeps b (finishExtraction s) := by
  unfold finishExtraction
  split
  · exact keeps_sweepFail _ h
  · split
    · exact keeps_sweepFail _ h
    · exact keeps_sweepDone _ h

theorem keeps_referenceOutcome (side : Side) (reach : Nat) (h : Keeps b s) : Keeps b (referenceOutcome side reach s) := by
  unfold referenceOutcome
  dsimp only
  split
  · exact keeps_endReference _ _ (keeps_makeStale side h)
  · exact keeps_endReference _ _ (keeps_modPmuHead _ _ (keeps_modSst _ h))

theorem keeps_completeReference (side : Side) (reach : Nat) (h : Keeps b s) :
    Keeps b (completeReference side reach s) := by
  unfold completeReference
  split
  · exact keeps_referenceFailed _ side h
  · exact keeps_referenceOutcome side reach h

end Measure

/-! ## The spindle comes to no speed -/

section Calm

variable {s : State}

theorem spindleRunning_congr {t : State} (h : t.tcu.spindle = s.tcu.spindle) : spindleRunning t = spindleRunning s := by
  unfold spindleRunning
  rw [h]

theorem leaveMeasureRun_spindle (s : State) : (leaveMeasureRun s).tcu.spindle = s.tcu.spindle :=
  (kept_leaveMeasureRun (keep := { tcu := true }) rfl (.refl _ s)).spindle rfl

theorem calm_finishRun (h : spindleRunning s = false) : spindleRunning (finishRun s) = false := by
  unfold finishRun
  split
  · rw [spindleRunning_congr (leaveMeasureRun_spindle _), rundown_not_running]
  · exact h

theorem discardPlan_tcu (reason : PlanReason) (s : State) : (discardPlan reason s).tcu = s.tcu :=
  (kept_discardPlan (keep := { tpe := true, ahs := true }) reason rfl rfl (.refl _ s)).wholeTcu rfl rfl

theorem calm_closeSweep (outcome : SweepOutcome) (h : spindleRunning s = false) :
    spindleRunning (closeSweep outcome s) = false := by
  unfold closeSweep
  have ha : (forSides abandonSwept s).tcu = s.tcu :=
    (kept_forSides (keep := { gbc := true }) abandonSwept (fun side _ => kept_abandonSwept side rfl) (.refl _ s)).wholeTcu
      rfl rfl
  have hrun := calm_finishRun (s := discardPlan .sweep ((forSides abandonSwept s).modPmu fun p =>
    { p with phase := .idle, selected := none, lastSweep := outcome, entrySkipped := false, taken := .both none })) (by
      rw [spindleRunning_congr (congrArg Tcu.spindle (discardPlan_tcu ..)), ← h]
      exact spindleRunning_congr (congrArg Tcu.spindle ha))
  refine (spindleRunning_congr (Kept.spindle (m := { tcu := true, gbc := true }) ?_ rfl)).trans hrun
  refine kept_forSides _ (fun side _ => kept_releaseHead side rfl) ?_
  split
  · exact .refl ..
  · exact kept_forSides _ (fun side _ => kept_parkSwept _ side rfl rfl) (.refl ..)

theorem calm_supportLost (h : spindleRunning s = false) : spindleRunning (supportLost s) = false := by
  unfold supportLost sweepFail
  split
  · refine calm_closeSweep _ ?_
    rw [← h]
    exact spindleRunning_congr (Kept.spindle (m := { pmu := true })
      (kept_forSides _ (fun side _ => kept_failRecord _ side rfl) (.refl ..)) rfl)
  · exact h

end Calm

end Sys2Proof.Machine

namespace Sys2Proof.Machine

/-! ## The lift, the clamps and the bridges -/

section Lift

variable {b s : State}

theorem keeps_clearProfiles (h : Keeps b s) : Keeps b (clearProfiles s) := keeps_modPmu _ id h

theorem keeps_turningForgotten (h : Keeps b s) : Keeps b (turningForgotten s) := by
  unfold turningForgotten
  split
  · exact keeps_modTcu _ id (fun ht => by cases ht) h
  · exact keeps_modTcu _ id (fun ht => by cases ht) h
  · exact h

theorem keeps_endVisit (h : Keeps b s) : Keeps b (endVisit s) :=
  keeps_turningForgotten (keeps_endSeating true (keeps_discardPlan .seat (keeps_clearProfiles (keeps_abandon .pilTag
    (keeps_modPil
      (fun p => { p with seatState := .vacant, identity := none, tagState := .none, tagAttempts := 0, tagId := none })
      (fun _ => rfl) (fun _ _ => ⟨rfl, by simp⟩) h)))))

theorem keeps_visitEndIfDue (h : Keeps b s) : Keeps b (visitEndIfDue s) := by
  unfold visitEndIfDue
  split
  · exact keeps_endVisit h
  · exact h

theorem keeps_restAt (h : Keeps b s) : Keeps b (restAt s) := keeps_modBlu _ (fun _ => rfl) (fun _ => .inr rfl) h

theorem keeps_restLift (outcome : LiftOutcome) (h : Keeps b s) : Keeps b (restLift outcome s) :=
  keeps_visitEndIfDue (keeps_restAt (keeps_modBlu (fun b => { b with lastLift := outcome }) (fun _ => rfl) id h))

theorem bothBridges_get {st : BridgeState} (h : bothBridges st s = true) (side : Side) :
    (s.pil.bridge.get side).state = st := by
  simp only [bothBridges, Sides.all, Bool.and_eq_true, beq_iff_eq] at h
  cases side
  · exact h.1
  · exact h.2

theorem bothClamps_get {st : ClampState} (h : bothClamps st s = true) (side : Side) :
    (s.blu.clamp.get side).state = st := by
  simp only [bothClamps, Sides.all, Bool.and_eq_true, beq_iff_eq] at h
  cases side
  · exact h.1
  · exact h.2

/-- Below a spindle that runs every bridge is OUT (R45). -/
theorem calm_of_bridge {side : Side} (hb : (s.pil.bridge.get side).state ≠ .out) (hs : SpinOk s) :
    spindleRunning s = false := by
  by_contra hr
  exact hb (bothBridges_get (hs (by simpa using hr)).2 side)

/-- Below a spindle that runs every clamp is CLOSED (R45). -/
theorem calm_of_clamp {side : Side} (hc : (s.blu.clamp.get side).state ≠ .closed) (hs : SpinOk s) :
    spindleRunning s = false := by
  by_contra hr
  exact hc (bothClamps_get (hs (by simpa using hr)).1 side)

theorem Bridge.moving_not_out {x : Bridge} (h : x.moving = true) : x.state ≠ .out := by
  intro he; simp [Bridge.moving, he] at h

theorem Clamp.moving_not_closed {x : Clamp} (h : x.moving = true) : x.state ≠ .closed := by
  intro he; simp [Clamp.moving, he] at h

theorem keeps_haltBridge (outcome : BridgeOutcome) (side : Side) (h : Keeps b s) :
    Keeps b (haltBridge outcome side s) := by
  unfold haltBridge
  split
  · next hm => exact keeps_modBridge side _ (calm_of_bridge (Bridge.moving_not_out hm)) h
  · exact h

theorem keeps_spindleUnsupported (cause : PauseCause) (h : Keeps b s) : Keeps b (spindleUnsupported cause s) := by
  unfold spindleUnsupported
  split
  · exact keeps_finishRun (keeps_rundown (keeps_pauseTurning cause h))
  · exact h

theorem spindleUnsupported_not_running (cause : PauseCause) (s : State) :
    spindleRunning (spindleUnsupported cause s) = false := by
  unfold spindleUnsupported
  split
  · exact calm_finishRun (rundown_not_running _)
  · next h => simpa using h

theorem keeps_haltLift (outcome : LiftOutcome) (h : Keeps b s) : Keeps b (haltLift outcome s) := by
  unfold haltLift
  split
  · exact h
  · exact keeps_spindleUnsupported .lift (keeps_supportLost (keeps_forSides _ (fun side _ => keeps_haltBridge _ side)
      (keeps_modBlu _ (fun _ => rfl) (fun _ => .inr rfl) h)))

theorem keeps_bearingLost (h : Keeps b s) : Keeps b (bearingLost s) :=
  keeps_spindleUnsupported .load (keeps_supportLost h)

theorem keeps_takeZones (zones : Four Zone) (h : Keeps b s) : Keeps b (takeZones zones s) := by
  have hz := keeps_modBlu (fun b => { b with posts := b.posts.zipWith (fun p z => { p with zone := z }) zones })
    (fun _ => rfl) id h
  have hload : ∀ {u : State}, Keeps b u →
      Keeps b (if u.blu.kind = some .load ∧ allBearing u = true then restLift .loaded u else u) := fun hu => by
    split
    · exact keeps_restLift .loaded hu
    · exact hu
  unfold takeZones
  refine hload ?_
  split
  · exact keeps_bearingLost hz
  · exact hz

theorem keeps_zonesAfresh (h : Keeps b s) : Keeps b (zonesAfresh s) := keeps_takeZones _ h

theorem keeps_guardClearance (h : Keeps b s) : Keeps b (guardClearance s) := by
  unfold guardClearance
  split
  · exact keeps_forSides _ (fun side _ => keeps_haltBridge _ side) h
  · exact h

theorem keeps_takePositions (positions : Four Nat) (h : Keeps b s) : Keeps b (takePositions positions s) :=
  keeps_modBlu _ (fun _ => rfl) id h

theorem keeps_takeLoads (loads : Four Nat) (h : Keeps b s) : Keeps b (takeLoads loads s) :=
  keeps_takeZones _ (keeps_modBlu (fun b => { b with posts := b.posts.zipWith (fun p x => { p with load := postLoad x }) loads })
    (fun _ => rfl) id h)

theorem keeps_levelling (h : Keeps b s) : Keeps b (levelling s) := keeps_modBlu _ (fun _ => rfl) id h

/-- The re-test is of a lift at rest. -/
theorem keeps_retest (hrest : liftMoving s = false) (h : Keeps b s) : Keeps b (retest s) := by
  have hl := keeps_modBlu (fun b => { b with lift := if allHome s then .lowered else .holding }) (fun _ => rfl)
    (fun hk => by rw [hrest] at hk; exact .inr (hk.resolve_left (by simp))) h
  have hlow : ∀ {u : State}, Keeps b u → Keeps b (if u.blu.lift = .lowered then supportLost u else u) := fun hu => by
    split
    · exact keeps_supportLost hu
    · exact hu
  exact keeps_visitEndIfDue (hlow hl)

theorem keeps_liftPeriod (h : Keeps b s) : Keeps b (liftPeriod s) := by
  unfold liftPeriod
  split
  · exact h
  · next hl => exact keeps_retest (by simp [liftMoving, hl]) h
  · next hl => exact keeps_retest (by simp [liftMoving, hl]) h
  · split
    · exact keeps_restLift _ h
    · exact keeps_levelling h

theorem keeps_completeClamp (outcome : ClampOutcome) {side : Side} (hc : (s.blu.clamp.get side).state ≠ .closed)
    (h : Keeps b s) : Keeps b (completeClamp outcome side s) :=
  keeps_modClamp side _ (calm_of_clamp hc) h

theorem keeps_completeUnconfirmed (side : Side) (h : Keeps b s) : Keeps b (completeUnconfirmed side s) := by
  unfold completeUnconfirmed
  dsimp only
  split
  · next hm =>
    simp only [Bool.and_eq_true] at hm
    exact keeps_completeClamp _ (Clamp.moving_not_closed hm.1.1) h
  · exact h

theorem keeps_haltClamp (outcome : ClampOutcome) (side : Side) (h : Keeps b s) : Keeps b (haltClamp outcome side s) := by
  unfold haltClamp
  split
  · next hm => exact keeps_modClamp side _ (calm_of_clamp (Clamp.moving_not_closed hm)) h
  · exact h

/-- What follows a change of a clamp or a bridge takes the spindle down. -/
theorem keeps_unsupported {t u : State} (h : Keeps b s) (hcalm : spindleRunning u = false) (hk : Keeps t u)
    (hlift : t.blu.lift = s.blu.lift) (hkind : t.blu.kind = s.blu.kind) (hphase : t.pmu = s.pmu) (htcu : t.tcu = s.tcu)
    (htpe : t.tpe = s.tpe) (hahs : t.ahs = s.ahs) (hseat : SeatWaits s → SeatWaits t) : Keeps b u where
  spin _ hr := by rw [hcalm] at hr; cases hr
  work hb := by
    have w := h.work hb
    refine hk.work ⟨?_, ?_, ?_, ?_⟩
    · unfold liftMoving; rw [hlift, hkind]; exact w.lift
    · unfold sweepRunning turningInProgress turningLive; rw [hphase, htcu]; exact w.apart
    · unfold turningInProgress turningLive; rw [htcu, htpe]; exact w.plan
    · rw [hahs, htpe]; exact w.mark
  array ha := hk.array (hahs ▸ h.array ha)
  store ha hs := hk.store (hahs ▸ h.array ha) ⟨hahs ▸ (h.store ha hs).1, hseat (h.store ha hs).2⟩

theorem keeps_failClamp (side : Side) (h : Keeps b s) : Keeps b (failClamp side s) := by
  unfold failClamp
  dsimp only
  split
  · exact h
  · refine keeps_unsupported h (calm_finishRun (rundown_not_running _))
      (keeps_finishRun (keeps_rundown (keeps_pauseTurning .clamp
        (?_ : Keeps (modClamp side (fun c =>
          { c with state := .failed, moveTimer := none, timeout := false, lastOutcome := .failed }) s) _))))
      rfl rfl rfl rfl rfl rfl id
    split
    · exact keeps_supportLost (.refl _)
    · exact .refl _

/-- A clamp begins to move: toward CLOSED, or below a spindle that does not run. -/
theorem keeps_beginClamp {aim : ClampEnd} (side : Side) (haim : aim = .closed ∨ spindleRunning s = false)
    (h : Keeps b s) : Keeps b (beginClamp aim side s) := by
  unfold beginClamp
  dsimp only
  split
  · exact h
  · next hne =>
    have hm := keeps_modClamp side (fun c =>
      { c with state := clampToward aim, moveTimer := some (clampTimer s.sst.active), timeout := false })
      (fun hs => haim.elim (fun ha => calm_of_clamp (side := side) (by subst ha; exact hne) hs) id) h
    split
    · exact keeps_supportLost hm
    · exact hm

theorem calm_beginClamp (aim : ClampEnd) (side : Side) (h : spindleRunning s = false) :
    spindleRunning (beginClamp aim side s) = false := by
  unfold beginClamp
  dsimp only
  split
  · exact h
  · split
    · exact calm_supportLost h
    · exact h

theorem keeps_bridgeLost (side : Side) (h : Keeps b s) :
    Keeps b (bridgeLost side s) := by
  unfold bridgeLost
  dsimp only
  split
  · exact keeps_unsupported h (spindleUnsupported_not_running ..)
      (keeps_spindleUnsupported .lift (keeps_supportLost (.refl (modBridge side (fun b =>
        { b with state := .halted, fault := true, lastOutcome := .switchLost }) s))))
      rfl rfl rfl rfl rfl rfl id
  · next ho => exact keeps_modBridge side _ (calm_of_bridge (side := side) (by simpa using ho)) h

/-- A bridge begins to move below a spindle that does not run. -/
theorem keeps_beginBridge (aim : BridgeEnd) (side : Side) (hcalm : spindleRunning s = false) (h : Keeps b s) :
    Keeps b (beginBridge aim side s) := by
  unfold beginBridge
  dsimp only
  split
  · exact h
  · have hm := keeps_modBridge side (fun b =>
      { b with state := bridgeToward aim, fault := false, travelTimer := some Config.bridgeTravelTime })
      (fun _ => hcalm) h
    split
    · exact keeps_supportLost hm
    · exact hm

theorem calm_beginBridge (aim : BridgeEnd) (side : Side) (h : spindleRunning s = false) :
    spindleRunning (beginBridge aim side s) = false := by
  unfold beginBridge
  dsimp only
  split
  · exact h
  · split
    · exact calm_supportLost h
    · exact h

end Lift

/-! ## The monitors -/

section Monitors

variable {b s : State}

theorem keeps_modMonitor (m : MonitorId) (f : Monitor → Monitor) (h : Keeps b s) : Keeps b (modMonitor m f s) :=
  keeps_modFmu (fun u => { u with monitors := u.monitors.set (f (u.monitors.get m)) m }) h

theorem keeps_liftTrip (h : Keeps b s) : Keeps b (liftTrip s) :=
  keeps_finishRun (keeps_rundown (keeps_pauseTurning .lift (keeps_supportLost (keeps_haltLift .tripped h))))

theorem keeps_slipTrip (h : Keeps b s) : Keeps b (slipTrip s) := by
  have hp := keeps_pauseTurning .slip h
  unfold slipTrip
  refine keeps_finishRun (keeps_rundown ?_)
  split
  · exact keeps_sweepFail .slip hp
  · exact hp

theorem keeps_forceTrip (side : Side) (h : Keeps b s) : Keeps b (forceTrip side s) := by
  unfold forceTrip
  have hw := keeps_withdrawHead side h
  have hpause : ∀ {u : State}, Keeps b u →
      Keeps b (if u.tcu.state = .cutting then u.modTcu fun t => { t with state := .paused .force } else u) := fun hu => by
    split
    · next hc => exact keeps_turning _ (fun _ => rfl) (by simp [turningInProgress, turningLive, hc]) hu
    · exact hu
  refine hpause ?_
  split
  · exact hw
  · exact keeps_withdrawHead side.other hw

theorem keeps_overtravelTrip (side : Side) (h : Keeps b s) : Keeps b (overtravelTrip side s) := by
  unfold overtravelTrip
  refine keeps_leaveEnding (keeps_releaseHead side (keeps_referenceFailed .overtravel side ?_))
  have hm : Keeps b (if (s.tcu.head.get side).position = .moving ∨ (s.tcu.head.get side).position = .probing
      then modHead side Head.halt s else s) := by
    split
    · exact keeps_modHead _ _ h
    · exact h
  split
  · exact keeps_sweepFail .overtravel hm
  · exact hm

theorem keeps_haltWorks (cause : TurnCause) (reason : Reason) (clamp : ClampOutcome) (h : Keeps b s) :
    Keeps b (haltWorks cause reason clamp s) := by
  have hw := keeps_forSides (referenceFailed reason) (fun side _ => keeps_referenceFailed reason side)
    (keeps_sweepFail reason (keeps_forSides haltActiveHead (fun side _ => keeps_haltActiveHead side) h))
  unfold haltWorks
  refine keeps_leaveEnding (keeps_forSides _ (fun side _ => keeps_releaseHead side) (keeps_finishRun (keeps_rundown
    (keeps_forSides _ (fun side _ => keeps_haltClamp clamp side) ?_))))
  split
  · next hl => exact keeps_endAborted cause (turningLive_inProgress hl) hw
  · exact hw

theorem keeps_presenceTrip (h : Keeps b s) : Keeps b (presenceTrip s) := by
  unfold presenceTrip
  exact keeps_haltLift .presenceLost (keeps_haltWorks .presenceLost .support .presenceLost h)

theorem keeps_tripAction (m : MonitorId) (h : Keeps b s) : Keeps b (tripAction m s) := by
  cases m with
  | m1 => exact keeps_liftTrip h
  | m2 => exact keeps_liftTrip h
  | m3 => exact keeps_liftTrip h
  | m4 => exact keeps_liftTrip h
  | m5 => exact keeps_liftTrip h
  | m6 => exact keeps_failClamp .l h
  | m7 => exact keeps_failClamp .r h
  | m8 => exact keeps_slipTrip h
  | m9 => exact keeps_forceTrip .l h
  | m10 => exact keeps_forceTrip .r h
  | m11 => exact keeps_overtravelTrip .l h
  | m12 => exact keeps_overtravelTrip .r h
  | m13 => exact keeps_presenceTrip h

theorem keeps_trip (m : MonitorId) (h : Keeps b s) : Keeps b (trip m s) := by
  unfold trip
  split
  · exact keeps_tripAction m (keeps_modMonitor m _ h)
  · exact keeps_tripAction m (keeps_modMonitor m _ h)
  · exact keeps_modMonitor m _ h
  · exact h

theorem keeps_strokeStart (m : MonitorId) (h : Keeps b s) : Keeps b (strokeStart m s) := by
  unfold strokeStart
  split
  · split
    · exact keeps_trip m (keeps_handCondition m true h)
    · exact keeps_modMonitor m _ (keeps_handCondition m false h)
  · exact h

theorem keeps_liftStroke (h : Keeps b s) : Keeps b (liftStroke s) :=
  keeps_strokeStart .m5 (keeps_strokeStart .m4 (keeps_strokeStart .m3 (keeps_strokeStart .m2 (keeps_strokeStart .m1 h))))

theorem keeps_modeChanged (before : MonitorMode) (m : MonitorId) (h : Keeps b s) : Keeps b (modeChanged before m s) := by
  unfold modeChanged
  dsimp only
  split
  · exact h
  · exact keeps_forSides _ (fun side _ => keeps_completeUnconfirmed side) (keeps_modMonitor m _ h)

/-- The spindle runs up between closed clamps and withdrawn bridges. -/
theorem keeps_spindleUp (target : Nat) (hclamps : bothClamps .closed s = true) (hbridges : bothBridges .out s = true)
    (h : Keeps b s) : Keeps b (spindleUp target s) := by
  have hup : Keeps b (s.modTcu fun t =>
      { t with spindle := .runup target, stopTimer := none, runEvents := 0, interval := 0 }) :=
    h.trans (.of_still (fun _ _ => ⟨hclamps, hbridges⟩) id id id rfl rfl id)
  unfold spindleUp
  exact keeps_strokeStart .m8 (keeps_modFmu _ hup)

theorem keeps_runForMeasure (h : Keeps b s) : Keeps b (runForMeasure s) := by
  unfold runForMeasure
  split
  · next hc =>
    rw [Bool.and_eq_true] at hc
    split
    · exact keeps_spindleUp _ hc.1 hc.2 h
    · exact h
  · exact keeps_supportLost h

theorem keeps_requestRun (h : Keeps b s) : Keeps b (requestRun s) := by
  unfold requestRun
  split
  · exact keeps_runForMeasure (keeps_modTcu _ id (fun ht => by cases ht) h)
  · exact keeps_supportLost h

theorem keeps_beginCut (side : Side) (h : Keeps b s) : Keeps b (beginCut side s) :=
  keeps_strokeStart _ (keeps_modHead _ _ h)

end Monitors

end Sys2Proof.Machine

namespace Sys2Proof.Machine

/-! ## The commands of the interlock, the lift, the clamps and the monitors -/

section Commands

variable {b s : State}

theorem keeps_ite {c : Prop} [Decidable c] {t u : State} (ht : Keeps b t) (hu : Keeps b u) :
    Keeps b (if c then t else u) := by
  split
  · exact ht
  · exact hu

theorem ready_of_seated (h : StoreOk s.ahs ∧ SeatWaits s) (hs : s.pil.seatState = .seated) : s.ahs.store = .ready := by
  cases e : s.ahs.store with
  | ready => rfl
  | loading => exact absurd hs (h.2 e).2

theorem keeps_beginTagRead (h : Keeps b s) : Keeps b (beginTagRead s) := by
  unfold beginTagRead
  split
  · next hc =>
    refine keeps_place _ (keeps_modPil _ (fun _ => rfl) (fun _ e => ?_) h)
    have hl : s.ahs.store = .loading := e
    simp [readHeldBack, hl] at hc
  · exact h

/-- An axle is seated once the start-up scan has ended. -/
theorem keeps_seatAs (i : Identity) (hready : SeatWaits s → s.ahs.store = .ready) (h : Keeps b s) :
    Keeps b (seatAs i s) :=
  keeps_strokeStart .m13 (keeps_seatRecord _ (fun hs => ready_of_seated hs rfl)
    (keeps_modPil (fun p => { p with seatState := .seated, identity := some i }) (fun _ => rfl)
      (fun hw e => by rw [show s.ahs.store = .loading from e] at hready; cases hready hw) h))

theorem keeps_replaceIdentity (i : Identity) (hs : s.pil.seatState = .seated) (h : Keeps b s) :
    Keeps b (replaceIdentity i s) := by
  have hpil : (endSeating false (discardPlan .seat (clearProfiles s))).pil = s.pil :=
    (kept_endSeating (keep := { tpe := true, ahs := true }) false rfl
      (kept_discardPlan .seat rfl rfl (.refl _ (clearProfiles s)))).wholePil rfl rfl
  have he : Keeps b (endSeating false (discardPlan .seat (clearProfiles s))) :=
    keeps_endSeating false (keeps_discardPlan .seat (keeps_clearProfiles h))
  unfold replaceIdentity
  refine keeps_seatRecord _ (fun hq => ready_of_seated hq ?_) (keeps_modPil _ (fun _ => rfl) id he)
  show (endSeating false (discardPlan .seat (clearProfiles s))).pil.seatState = .seated
  rw [hpil]
  exact hs

theorem keeps_seatValid (i : Identity) (force : Bool) (h : Keeps b s) : Keeps b (seatValid i force s).2 := by
  unfold seatValid
  cases hseat : s.pil.seatState with
  | vacant => exact h
  | present =>
    dsimp only
    split_ifs with hread hheld
    · exact h
    · exact h
    · refine keeps_seatAs i (fun hw => ?_) h
      cases e : s.ahs.store with
      | ready => rfl
      | loading => exact absurd ⟨(hw e).1, by simp [readHeldBack, e]⟩ hheld
  | seated =>
    dsimp only
    split_ifs
    · exact h
    · exact h
    · exact h
    · exact keeps_replaceIdentity i hseat h

theorem keeps_seatAxleRequest (axle : AxleId) (w : Nat) (bogie : BogieId) (p : Nat) (force : Bool) (h : Keeps b s) :
    Keeps b (seatAxleRequest axle w bogie p force s).2 := by
  unfold seatAxleRequest
  split
  · exact keeps_seatValid _ force h
  · exact h

theorem keeps_releaseAxleRequest (h : Keeps b s) : Keeps b (releaseAxleRequest s).2 := by
  unfold releaseAxleRequest
  split_ifs
  · exact h
  · exact h
  · exact keeps_endVisit h

theorem spindle_stopped_calm (h : s.tcu.spindle = .stopped) : spindleRunning s = false := by
  simp [spindleRunning, h]

theorem keeps_bridgesTo (by' : Owner) (aim : BridgeEnd) (h : Keeps b s) : Keeps b (bridgesTo by' aim s).2 := by
  unfold bridgesTo
  split_ifs with _ _ _ hc
  · exact h
  · exact h
  · exact h
  · have hcalm := spindle_stopped_calm hc.2.2.2
    exact keeps_beginBridge aim .r (calm_beginBridge aim .l hcalm) (keeps_beginBridge aim .l hcalm h)
  · exact h

theorem keeps_bridgesRequest (direction : Nat) (h : Keeps b s) : Keeps b (bridgesRequest direction s).2 := by
  unfold bridgesRequest
  split
  · exact h
  · exact keeps_bridgesTo .link _ h

/-- A change of a bridge that leaves its state. -/
theorem keeps_bridgeSwitch (side : Side) (at' : BridgeEnd) (made : Bool) (h : Keeps b s) :
    Keeps b (setBridgeSwitch side at' made s) := by
  refine h.trans (.of_still (fun hs hr => ?_) id id id rfl rfl id)
  have hb := hs hr
  refine ⟨hb.1, ?_⟩
  simp only [bothBridges, Sides.all, Bool.and_eq_true] at hb ⊢
  cases side <;> exact hb.2

theorem bridgeToward_not_out (at' : BridgeEnd) : bridgeToward at' ≠ .out := by cases at' <;> decide

theorem keeps_bridgeSwitchMade (side : Side) (at' : BridgeEnd) (h : Keeps b s) :
    Keeps b (bridgeSwitchMade side at' s) := by
  have hw := keeps_bridgeSwitch side at' true h
  unfold bridgeSwitchMade
  dsimp only
  split_ifs with hmove
  · exact keeps_visitEndIfDue (keeps_modBridge side _
      (calm_of_bridge (side := side) (by rw [hmove]; exact bridgeToward_not_out at')) hw)
  · exact keeps_bridgeLost side hw
  · exact hw

theorem keeps_bridgeSwitchDropped (side : Side) (at' : BridgeEnd) (h : Keeps b s) :
    Keeps b (bridgeSwitchDropped side at' s) := by
  have hw := keeps_bridgeSwitch side at' false h
  unfold bridgeSwitchDropped
  dsimp only
  split
  · exact keeps_bridgeLost side hw
  · exact hw

theorem keeps_bridgeTimeout (side : Side) (h : Keeps b s) : Keeps b (bridgeTimeout side s) := by
  unfold bridgeTimeout
  dsimp only
  split
  · next hm =>
    rw [Bool.and_eq_true] at hm
    exact keeps_modBridge side _ (calm_of_bridge (Bridge.moving_not_out hm.1)) h
  · exact h

theorem keeps_sourceRequest (group owner : Nat) (h : Keeps b s) : Keeps b (sourceRequest group owner s).2 := by
  unfold sourceRequest
  split
  · split
    · exact h
    · next g o _ _ _ => exact keeps_modPil (fun p => { p with owners := p.owners.set o g }) (fun _ => rfl) id h
  · exact h

theorem keeps_presenceOn (h : Keeps b s) : Keeps b (presenceOn s) := by
  have hp := keeps_modPil (fun p => { p with presence := true }) (fun _ => rfl) id h
  unfold presenceOn
  dsimp only
  split
  · exact keeps_beginTagRead (keeps_modPil _ (fun _ => rfl) (fun hw e => ⟨(hw e).1, by simp⟩) hp)
  · exact hp

theorem keeps_presenceOff (h : Keeps b s) : Keeps b (presenceOff s) := by
  have hp := keeps_modPil (fun p => { p with presence := false }) (fun _ => rfl) id h
  unfold presenceOff
  dsimp only
  split
  · exact keeps_abandon .pilTag (keeps_modPil _ (fun _ => rfl) (fun _ _ => ⟨rfl, by simp⟩) hp)
  · exact keeps_visitEndIfDue hp

theorem keeps_pitStopAsserted (h : Keeps b s) : Keeps b (pitStopAsserted s) := by
  have hlift : ∀ {u : State}, Keeps b u → Keeps b (if liftMoving u then haltLift .pitStop u else u) := fun hu => by
    split
    · exact keeps_haltLift .pitStop hu
    · exact hu
  unfold pitStopAsserted
  split
  · exact h
  · exact hlift (keeps_forSides _ (fun side _ => keeps_haltBridge .pitStop side)
      (keeps_haltWorks .pitStop .pitStop .pitStop (keeps_modPil (fun p => { p with pitStop := true }) (fun _ => rfl) id h)))

/-! ### Lift and clamps -/

theorem keeps_moveLift (lift : LiftState) (kind : MoveKind) (target : Nat) (hm : lift = .rising ∨ lift = .lowering)
    (h : Keeps b s) : Keeps b (moveLift lift kind target s) := by
  have hl := keeps_modBlu (fun b => { b with lift := lift, kind := some kind, target := target }) (fun _ => rfl)
    (fun _ => .inl (by rcases hm with rfl | rfl <;> rfl)) h
  unfold moveLift
  dsimp only
  split
  · exact hl
  · exact keeps_liftStroke (keeps_supportLost hl)

theorem keeps_liftThere (height : Nat) (h : Keeps b s) : Keeps b (liftThere height s) := by
  unfold liftThere
  split
  · exact keeps_restLift .arrived h
  · exact keeps_modBlu _ (fun _ => rfl) id h

theorem keeps_liftTo (height : Nat) (clamped : Bool) (h : Keeps b s) : Keeps b (liftTo height clamped s).2 := by
  unfold liftTo
  split_ifs
  · exact keeps_moveLift _ _ _ (.inl rfl) h
  · exact keeps_moveLift _ _ _ (.inr rfl) h
  · exact keeps_liftThere height h

theorem keeps_liftRequest (height : Nat) (h : Keeps b s) : Keeps b (liftRequest height s).2 := by
  unfold liftRequest
  split
  · exact h
  · exact keeps_liftTo _ _ h

theorem keeps_lowerHome (h : Keeps b s) : Keeps b (lowerHome s).2 := by
  unfold lowerHome
  split
  · exact keeps_modBlu (fun b => { b with target := 0 }) (fun _ => rfl) id h
  · exact keeps_moveLift _ _ _ (.inr rfl) h

theorem keeps_lowerRequest (height : Nat) (h : Keeps b s) : Keeps b (lowerRequest height s).2 := by
  unfold lowerRequest
  split
  · exact h
  · split_ifs
    · exact keeps_lowerHome h
    · exact h
    · exact keeps_liftTo _ _ h

theorem keeps_takeLoadRequest (h : Keeps b s) : Keeps b (takeLoadRequest s).2 := by
  unfold takeLoadRequest
  split
  · exact h
  · split
    · show Keeps b (if liftMoving s then restLift .loaded s else s)
      split
      · exact keeps_restLift .loaded h
      · exact h
    · exact keeps_moveLift _ _ _ (.inl rfl) h

theorem keeps_haltLiftRequest (h : Keeps b s) : Keeps b (haltLiftRequest s).2 := by
  unfold haltLiftRequest
  split
  · exact h
  · show Keeps b (if liftMoving s then restLift .haltRequest s else s)
    split
    · exact keeps_restLift .haltRequest h
    · exact h

theorem keeps_jog (button : JogButton) (h : Keeps b s) : Keeps b (jog button s).2 := by
  unfold jog
  split
  · exact h
  · split
    · exact h
    · cases button
      · exact keeps_moveLift _ _ _ (.inl rfl) h
      · exact keeps_moveLift _ _ _ (.inr rfl) h

theorem keeps_jogRelease (button : JogButton) (h : Keeps b s) : Keeps b (jogRelease button s) := by
  unfold jogRelease
  exact keeps_ite (keeps_restLift .jogEnded h) h

theorem keeps_clampStroke (before : Sides Clamp) (aim : ClampEnd) (side : Side) (h : Keeps b s) :
    Keeps b (clampStroke before aim side s) := by
  unfold clampStroke
  split
  · exact h
  · exact keeps_strokeStart _ h

theorem keeps_moveClamps {aim : ClampEnd} (haim : aim = .closed ∨ spindleRunning s = false) (h : Keeps b s) :
    Keeps b (moveClamps aim s) :=
  keeps_forSides _ (fun side _ => keeps_clampStroke _ aim side)
    (keeps_beginClamp .r (haim.imp id (calm_beginClamp aim .l)) (keeps_beginClamp .l haim h))

theorem keeps_clampsClose (by' : Owner) (h : Keeps b s) : Keeps b (clampsClose by' s).2 := by
  unfold clampsClose
  split_ifs
  · exact h
  · exact h
  · exact h
  · exact keeps_moveClamps (.inl rfl) h
  · exact h

theorem restLift_tcu_stopped (outcome : LiftOutcome) (h : s.tcu.spindle = .stopped) :
    (restLift outcome s).tcu.spindle = .stopped :=
  ((kept_restLift (keep := { pil := true, lift := true, gbc := true, pmu := true, tpe := true, tcu := true, ahs := true })
    outcome rfl rfl rfl rfl rfl rfl rfl (.refl _ s)).spindle rfl).trans h

theorem keeps_clampsOpen (by' : Owner) (h : Keeps b s) : Keeps b (clampsOpen by' s).2 := by
  unfold clampsOpen
  split_ifs with _ _ _ hc
  · exact h
  · exact h
  · exact h
  · have hopen : ∀ {u : State}, u.tcu.spindle = .stopped → Keeps b u → Keeps b (moveClamps .opened u) := fun hu =>
      keeps_moveClamps (.inr (spindle_stopped_calm hu))
    show Keeps b (moveClamps .opened (if _ then restLift .handshake s else s))
    split
    · exact hopen (restLift_tcu_stopped .handshake hc.1) (keeps_restLift .handshake h)
    · exact hopen hc.1 h
  · exact h

theorem keeps_controlPeriod (positions loads : Four Nat) (h : Keeps b s) :
    Keeps b (controlPeriod positions loads s) := by
  unfold controlPeriod
  exact keeps_handCondition _ _ (keeps_liftPeriod (keeps_takeLoads loads (keeps_guardClearance (keeps_takePositions positions h))))

theorem keeps_loadChanged (post : Post) (load : Nat) (positions : Four Nat) (h : Keeps b s) :
    Keeps b (loadChanged post load positions s) :=
  keeps_takeLoads _ (keeps_guardClearance (keeps_takePositions positions h))

/-- A change of a clamp that leaves its state. -/
theorem keeps_clampRest (side : Side) (f : Clamp → Clamp) (hf : ∀ c, (f c).state = c.state) (h : Keeps b s) :
    Keeps b (modClamp side f s) := by
  refine h.trans (.of_still (fun hs hr => ?_) id id id rfl rfl id)
  have hb := hs hr
  refine ⟨?_, hb.2⟩
  have hc := hb.1
  simp only [bothClamps, Sides.all, Bool.and_eq_true, modClamp, State.modBlu] at hc ⊢
  cases side
  · simpa [Sides.set, Sides.get, hf] using hc
  · simpa [Sides.set, Sides.get, hf] using hc

theorem keeps_setClampSwitch (side : Side) (at' : ClampEnd) (made : Bool) (h : Keeps b s) :
    Keeps b (setClampSwitch side at' made s) := by
  unfold setClampSwitch
  exact keeps_clampRest side _ (fun _ => rfl) h

theorem clampToward_not_closed (at' : ClampEnd) : clampToward at' ≠ .closed := by cases at' <;> decide

theorem keeps_clampSwitchMade (side : Side) (at' : ClampEnd) (h : Keeps b s) :
    Keeps b (clampSwitchMade side at' s) := by
  have hw := keeps_setClampSwitch side at' true h
  unfold clampSwitchMade
  dsimp only
  split
  · next hc => exact keeps_completeClamp _ (by rw [hc.2]; exact clampToward_not_closed at') hw
  · exact hw

theorem keeps_clampTimeout (side : Side) (h : Keeps b s) : Keeps b (clampTimeout side s) := by
  unfold clampTimeout
  dsimp only
  split
  · next hm =>
    rw [Bool.and_eq_true] at hm
    split
    · exact keeps_completeUnconfirmed side (keeps_clampRest side _ (fun _ => rfl) h)
    · exact keeps_completeClamp _ (Clamp.moving_not_closed hm.1) h
  · exact h

/-! ### Monitors -/

theorem keeps_leaveHalted (h : Keeps b s) : Keeps b (leaveHalted s) := by
  unfold leaveHalted
  split
  · exact keeps_visitEndIfDue (keeps_restAt h)
  · exact h

theorem keeps_clearFaultRequest (set : BitVec 16) (h : Keeps b s) : Keeps b (clearFaultRequest set s).2 := by
  unfold clearFaultRequest
  split_ifs
  · exact h
  · exact h
  · exact keeps_leaveHalted (keeps_modFmu _ h)

theorem keeps_deglitchExpiry (m : MonitorId) (h : Keeps b s) : Keeps b (deglitchExpiry m s) := by
  unfold deglitchExpiry
  dsimp only
  split
  · exact keeps_trip m h
  · exact h

end Commands

end Sys2Proof.Machine

namespace Sys2Proof.Machine

/-! ## The commands of the gauge bus, the measurement and the turning -/

section Works

variable {b s : State}

/-! ### Sweeps -/

/-- A phase of a sweep that runs follows another. -/
theorem keeps_phase (f : Pmu → Pmu) (hrun : sweepRunning s = true) (h : Keeps b s) : Keeps b (s.modPmu f) :=
  keeps_modPmu f (fun _ => hrun) h

theorem sweepRunning_of_phase {p : SweepPhase} (h : s.pmu.phase = p) (hp : p ≠ .idle) : sweepRunning s = true := by
  simp [sweepRunning, h, hp]

theorem keeps_claimHead (w : Wheels) (side : Side) (h : Keeps b s) : Keeps b (claimHead w side s) := by
  unfold claimHead
  exact keeps_ite (keeps_place _ (keeps_modHead _ _ (keeps_modPmuHead _ _ h))) h

theorem keeps_claimStroke (w : Wheels) (side : Side) (h : Keeps b s) : Keeps b (claimStroke w side s) := by
  unfold claimStroke
  exact keeps_ite (keeps_strokeStart _ h) h

theorem tcuFree_no_turning (h : tcuFree s = true) : turningInProgress s = false := by
  unfold tcuFree at h
  unfold turningInProgress turningLive
  cases hs : s.tcu.state <;> simp [hs] at h ⊢

/-- A sweep begins with no turning in progress. -/
theorem keeps_beginSweep (w : Wheels) (hturn : turningInProgress s = false) (h : Keeps b s) :
    Keeps b (beginSweep w s) := by
  have hp : Keeps b (s.modPmu fun p => { p with
      phase := .claiming, selected := some w, settle := 0, head := p.head.map fun h => { h with diameter := none } }) :=
    h.trans ⟨id, fun k => ⟨k.lift, fun _ => hturn, k.plan, k.mark⟩, id, fun _ => id⟩
  unfold beginSweep
  exact keeps_forSides _ (fun side _ => keeps_claimStroke w side) (keeps_forSides _ (fun side _ => keeps_claimHead w side) hp)

theorem keeps_sweepRequest (wheels : Nat) (h : Keeps b s) : Keeps b (sweepRequest wheels s).2 := by
  unfold sweepRequest
  split
  · exact h
  · unfold sweepOf
    split_ifs with _ _ _ _ hc
    · exact h
    · exact h
    · exact h
    · exact h
    · exact h
    · exact keeps_beginSweep _ (tcuFree_no_turning hc.2.2.2.1) h
    · exact h

theorem keeps_endWorks (reason : Reason) (h : Keeps b s) :
    Keeps b (forSides (referenceFailed reason) (sweepFail reason s)) :=
  keeps_forSides _ (fun side _ => keeps_referenceFailed reason side) (keeps_sweepFail reason h)

theorem keeps_beginReference (side : Side) (h : Keeps b s) : Keeps b (beginReference side s) := by
  unfold beginReference
  exact keeps_strokeStart _ (keeps_place _ (keeps_modHead _ _ (keeps_modPmuHead _ _ h)))

theorem keeps_referenceRequest (head : Nat) (h : Keeps b s) : Keeps b (referenceRequest head s).2 := by
  unfold referenceRequest
  split
  · exact h
  · unfold referenceOf
    split_ifs
    · exact h
    · exact h
    · exact h
    · exact h
    · exact h
    · exact keeps_beginReference _ h

theorem keeps_readProfileRequest (wheel : Nat) (h : Keeps b s) : Keeps b (readProfileRequest wheel s).2 := by
  unfold readProfileRequest
  split
  · exact h
  · exact h

theorem keeps_startScan (side : Side) (h : Keeps b s) : Keeps b (startScan side s) := by
  unfold startScan
  exact keeps_ite (keeps_place _ (keeps_place _ h)) h

theorem keeps_profileScanBegin (h : Keeps b s) : Keeps b (profileScanBegin s) := by
  unfold profileScanBegin
  split
  · next hc =>
    exact keeps_forSides _ (fun side _ => keeps_startScan side)
      (keeps_phase _ (sweepRunning_of_phase hc.1 (by decide)) h)
  · exact h

theorem keeps_startRing (side : Side) (h : Keeps b s) : Keeps b (startRing side s) := by
  unfold startRing
  exact keeps_ite (keeps_place _ (keeps_place _ h)) h

theorem keeps_settle (h : Keeps b s) : Keeps b (settle s) := by
  unfold settle
  split
  · next hc =>
    exact keeps_ite (keeps_modPmu _ id h) (keeps_forSides _ (fun side _ => keeps_startRing side)
      (keeps_phase _ (sweepRunning_of_phase hc.1 (by decide)) h))
  · exact h

theorem keeps_extractionDone (h : Keeps b s) : Keeps b (extractionDone s) := by
  unfold extractionDone
  exact keeps_ite (keeps_finishExtraction h) h

theorem keeps_rimReading (side : Side) (value : Int) (h : Keeps b s) : Keeps b (rimReading side value s) := by
  unfold rimReading
  exact keeps_modRim side _ h

theorem keeps_rimFault (side : Side) (h : Keeps b s) : Keeps b (rimFault side s) := by
  unfold rimFault
  exact keeps_modRim side _ h

theorem keeps_rimHoldExpiry (side : Side) (h : Keeps b s) : Keeps b (rimHoldExpiry side s) := by
  unfold rimHoldExpiry
  exact keeps_modRim side _ h

/-! ### Results -/

theorem keeps_toTapingLine (side : Side) (h : Keeps b s) : Keeps b (toTapingLine side s) := by
  unfold toTapingLine
  exact keeps_ite (keeps_place _ (keeps_modHead _ _ (keeps_modPmuHead _ _ h))) h

theorem keeps_enterRingWait (hrun : sweepRunning s = true) (h : Keeps b s) : Keeps b (enterRingWait s) :=
  keeps_requestRun (keeps_forSides _ (fun side _ => keeps_toTapingLine side) (keeps_phase _ hrun h))

theorem keeps_takeRim (side : Side) (h : Keeps b s) : Keeps b (takeRim side s) := by
  unfold takeRim
  exact keeps_ite (keeps_modPmu _ id h) h

theorem keeps_sweptHome (side : Side) (h : Keeps b s) : Keeps b (sweptHome side s) := by
  unfold sweptHome
  exact keeps_ite (keeps_sendProbeHome side h) h

theorem keeps_enterComputing (hrun : sweepRunning s = true) (h : Keeps b s) : Keeps b (enterComputing s) :=
  keeps_forSides _ (fun side _ => keeps_takeRim side) (keeps_forSides _ (fun side _ => keeps_sweptHome side)
    (keeps_finishRun (keeps_phase _ hrun h)))

theorem keeps_scanEnd (h : Keeps b s) : Keeps b (scanEnd s) := by
  unfold scanEnd
  split
  · split
    · next hp =>
      split
      · exact keeps_sweepFail _ h
      · exact keeps_enterRingWait (sweepRunning_of_phase hp (by decide)) h
    · next hp =>
      split
      · exact keeps_sweepFail _ h
      · exact keeps_enterComputing (sweepRunning_of_phase hp (by decide)) h
    · exact h
  · exact h

theorem keeps_workFailed (w : Work) (reason : Reason) (side : Side) (h : Keeps b s) :
    Keeps b (workFailed w reason side s) := by
  cases w
  · exact keeps_sweepFail reason h
  · exact keeps_referenceFailed reason side h

theorem keeps_modeDone (w : Work) (side : Side) (h : Keeps b s) : Keeps b (modeDone w side s) := by
  cases w
  · exact keeps_modPmuHead side (fun h => { h with modeOk := true }) h
  · exact keeps_place _ (keeps_place _ h)

theorem keeps_listComplete (w : Work) (reach : Nat) (side : Side) (h : Keeps b s) :
    Keeps b (listComplete w reach side s) := by
  cases w
  · exact keeps_scanEnd (keeps_modPmuHead side (fun h => { h with listDone := true }) h)
  · exact keeps_completeReference side reach h

theorem keeps_stateRead (w : Work) (side : Side) (available flags : Byte) (h : Keeps b s) :
    Keeps b (stateRead w side available flags s) := by
  have hread := keeps_handCondition (overtravelOf side) (decide (flags.toNat % 4 = 3))
    (keeps_modPmuHead side (fun h => { h with lastReach := some (flags.toNat % 4) }) h)
  unfold stateRead
  exact keeps_ite (keeps_workFailed w _ side hread) (keeps_ite (keeps_place _ hread)
    (keeps_ite (keeps_listComplete w _ side hread) (keeps_place _ hread)))

theorem keeps_blockRead (w : Work) (side : Side) (data : List Byte) (h : Keeps b s) :
    Keeps b (blockRead w side data s) := by
  unfold blockRead
  exact keeps_ite (keeps_workFailed w _ side (keeps_modPmuHead _ _ h)) (keeps_place _ (keeps_modPmuHead _ _ h))

theorem keeps_pmuResult (side : Side) (purpose : Purpose) (result : TxnResult) (data : List Byte) (h : Keeps b s) :
    Keeps b (pmuResult side purpose result data s) := by
  unfold pmuResult
  split
  · exact keeps_modeDone _ side h
  · exact keeps_workFailed _ _ side h
  · exact h
  · exact keeps_workFailed _ _ side h
  · exact keeps_stateRead _ side _ _ h
  · exact keeps_workFailed _ _ side h
  · exact keeps_blockRead _ side data h
  · exact keeps_workFailed _ _ side h
  · exact h

/-- While a tag is read the start-up scan has ended. -/
theorem ready_of_reading (ht : s.pil.tagState = .reading) (h : SeatWaits s) : s.ahs.store = .ready := by
  cases e : s.ahs.store with
  | ready => rfl
  | loading => have := (h e).1; rw [ht] at this; cases this

theorem not_loading_of_ready {t : State} (hahs : t.ahs = s.ahs) (h : SeatWaits s → s.ahs.store = .ready) :
    SeatWaits s → SeatWaits t := fun hs e => by
  rw [hahs, h hs] at e
  cases e

theorem keeps_tagAttemptFailed (ht : s.pil.tagState = .reading) (h : Keeps b s) : Keeps b (tagAttemptFailed s) := by
  unfold tagAttemptFailed
  exact keeps_ite (keeps_place _ (keeps_modPil _ (fun _ => rfl) id h))
    (keeps_modPil _ (fun _ => rfl) (not_loading_of_ready rfl (ready_of_reading ht)) h)

theorem keeps_seatFromTag (axle : AxleId) (bogie : BogieId) (w p : Nat) (ht : s.pil.tagState = .reading)
    (h : Keeps b s) : Keeps b (seatFromTag axle bogie w p s) := by
  have hread := keeps_modPil (fun p => { p with tagState := .read, tagId := some axle, lastTag := .read }) (fun _ => rfl)
    (not_loading_of_ready rfl (ready_of_reading ht)) h
  unfold seatFromTag
  refine keeps_seatAs _ (fun hw => ?_) hread
  show s.ahs.store = .ready
  cases e : s.ahs.store with
  | ready => rfl
  | loading => exact absurd (hw e).1 (by simp)

theorem keeps_tagResult (result : TxnResult) (data : List Byte) (h : Keeps b s) : Keeps b (tagResult result data s) := by
  unfold tagResult
  split
  · next hc =>
    split
    · exact keeps_seatFromTag _ _ _ _ hc.2 h
    · exact keeps_tagAttemptFailed hc.2 h
  · exact h

theorem keeps_handResult (t : Txn) (result : TxnResult) (data : List Byte) (h : Keeps b s) :
    Keeps b (handResult t result data s) := by
  unfold handResult
  refine keeps_placeKept _ ?_
  split
  · exact keeps_ite (keeps_tagResult result data h) h
  · exact keeps_pmuResult _ _ result data h

/-! ### The gauge bus -/

theorem keeps_beginOldest (h : Keeps b s) : Keeps b (beginOldest s) := by
  unfold beginOldest
  exact keeps_ite (keeps_modGbc _ h) h

theorem keeps_observe (o : Observation) (h : Keeps b s) : Keeps b (observe o s) := keeps_modGbc _ h

theorem keeps_endTransaction (result : TxnResult) (data : List Byte) (h : Keeps b s) :
    Keeps b (endTransaction result data s) := by
  unfold endTransaction
  split
  · exact h
  · exact keeps_beginOldest (keeps_handResult _ result data (keeps_modGbc _ (keeps_modGbc _ h)))

theorem keeps_busByte (value : Byte) (ack : Bool) (h : Keeps b s) : Keeps b (busByte value ack s) := by
  unfold busByte
  split
  · split
    · exact keeps_ite h (keeps_modGbc _ h)
    · exact h
  · exact keeps_modGbc _ h
  · exact h

theorem keeps_transactionEnd (h : Keeps b s) : Keeps b (transactionEnd s) := by
  unfold transactionEnd
  split
  · exact h
  · split
    · split
      · exact keeps_endTransaction _ _ h
      · exact h
    · exact keeps_endTransaction _ _ (keeps_modGbc _ h)
    · exact h

theorem keeps_clockHold (h : Keeps b s) : Keeps b (clockHold s) := by
  unfold clockHold
  exact keeps_ite (keeps_modGbc _ h) h

theorem keeps_clockRelease (h : Keeps b s) : Keeps b (clockRelease s) := by
  unfold clockRelease
  exact keeps_modGbc _ (keeps_ite (keeps_modGbc _ h) h)

theorem keeps_waitExpiry (h : Keeps b s) : Keeps b (waitExpiry s) := by
  unfold waitExpiry
  exact keeps_ite (keeps_modGbc _ h) h

theorem keeps_retryFront (h : Keeps b s) : Keeps b (retryFront s) := by
  unfold retryFront
  split
  · exact h
  · exact keeps_ite (keeps_modGbc _ h) (keeps_handResult _ _ _ (keeps_modGbc _ h))

theorem keeps_arbitrationLoss (h : Keeps b s) : Keeps b (arbitrationLoss s) := by
  unfold arbitrationLoss
  split
  · split
    · exact keeps_retryFront (keeps_observe _ (keeps_modGbc _ h))
    · exact h
  · exact h

theorem keeps_endObservation (o : Observation) (h : Keeps b s) : Keeps b (endObservation o s) := by
  unfold endObservation
  exact keeps_beginOldest (keeps_handNotices o (keeps_modGbc _ h))

theorem keeps_foreignStopTaken (h : Keeps b s) : Keeps b (foreignStopTaken s) := by
  unfold foreignStopTaken
  split
  · exact keeps_ite (keeps_endObservation _ h) h
  · exact h

theorem keeps_unexpectedCondition (condition : BusCondition) (h : Keeps b s) :
    Keeps b (unexpectedCondition condition s) := by
  unfold unexpectedCondition
  split
  · have hr := fun o => keeps_retryFront (keeps_observe o (keeps_modGbc (fun g => { g with clockHeld := false }) h))
    cases condition
    · exact hr _
    · exact keeps_foreignStopTaken (hr _)
  · cases condition
    · exact keeps_handResult _ _ _ (keeps_observe _ (keeps_modGbc _ (keeps_modGbc _ h)))
    · exact keeps_endTransaction _ _ h
  · exact h

theorem keeps_foreignStart (h : Keeps b s) : Keeps b (foreignStart s) := by
  unfold foreignStart
  split
  · exact keeps_observe _ h
  · exact keeps_modGbc _ h
  · exact keeps_unexpectedCondition .start h

theorem keeps_foreignStop (h : Keeps b s) : Keeps b (foreignStop s) := by
  unfold foreignStop
  split
  · exact h
  · exact keeps_foreignStopTaken h
  · exact keeps_unexpectedCondition .stop h

theorem keeps_quietExpiry (h : Keeps b s) : Keeps b (quietExpiry s) := by
  unfold quietExpiry
  exact keeps_ite (keeps_modGbc _ h) h

theorem keeps_resetObservationTimeout (h : Keeps b s) : Keeps b (resetObservationTimeout s) := by
  unfold resetObservationTimeout
  split
  · exact keeps_ite (keeps_endObservation _ (keeps_modGbc _ h)) h
  · exact h

/-! ### The turning -/

/-- A turning begins with no sweep running and no plan work, between closed clamps and withdrawn bridges. -/
theorem keeps_beginTurning (hsweep : sweepRunning s = false) (hplan : s.tpe.plan.state = .ready)
    (hclamps : bothClamps .closed s = true) (hbridges : bothBridges .out s = true) (h : Keeps b s) :
    Keeps b (beginTurning s) := by
  refine keeps_spindleUp _ hclamps hbridges ⟨fun hb hr => h.spin hb hr, fun hb => ?_, h.array, h.store⟩
  have w := h.work hb
  have hidle : s.tpe.work = .idle := by
    by_contra hw
    have hnone := (w.plan hw).1
    rw [hplan] at hnone
    cases hnone
  refine ⟨w.lift, fun hr => ?_, fun hw => absurd hidle hw, w.mark⟩
  rw [show sweepRunning s = true from hr] at hsweep
  cases hsweep

theorem turnSupported_iff : turnSupported s = true ↔
    holdingBearing s = true ∧ bothClamps .closed s = true ∧ bothBridges .out s = true := by
  simp [turnSupported, and_assoc]

theorem keeps_turnRequest (h : Keeps b s) : Keeps b (turnRequest s).2 := by
  unfold turnRequest
  split_ifs with _ _ hbusy _ hc
  · exact h
  · exact h
  · exact h
  · exact h
  · simp only [Bool.and_eq_true, planFits, beq_iff_eq] at hc
    obtain ⟨⟨⟨⟨⟨⟨⟨⟨hready, -⟩, -⟩, hsup⟩, -⟩, -⟩, -⟩, -⟩, -⟩ := hc
    obtain ⟨-, hclamps, hbridges⟩ := turnSupported_iff.1 hsup
    refine keeps_beginTurning ?_ hready hclamps hbridges h
    simp only [Bool.or_eq_true, not_or, Bool.not_eq_true] at hbusy
    exact hbusy.1.2
  · exact h

theorem keeps_pauseRequest (h : Keeps b s) : Keeps b (pauseRequest s).2 := by
  unfold pauseRequest
  split
  · exact keeps_pauseTurning .pause h
  · exact keeps_pauseTurning .pause h
  · exact h
  · exact h

theorem turningPaused_inProgress (h : turningPaused s = true) : turningInProgress s = true := by
  unfold turningPaused at h
  unfold turningInProgress turningLive
  cases hs : s.tcu.state <;> simp [hs] at h ⊢

theorem keeps_resumeTurning (hturn : turningInProgress s = true) (hclamps : bothClamps .closed s = true)
    (hbridges : bothBridges .out s = true) (h : Keeps b s) : Keeps b (resumeTurning s) := by
  have hup := keeps_turning (fun t => { t with state := .runup }) (fun _ => rfl) hturn h
  unfold resumeTurning
  split
  · exact keeps_continueCutting hturn h
  · exact hup
  · exact keeps_spindleUp _ hclamps hbridges hup

theorem keeps_resumeRequest (h : Keeps b s) : Keeps b (resumeRequest s).2 := by
  unfold resumeRequest
  split_ifs with _ _ _ hc
  · exact h
  · exact h
  · exact h
  · simp only [Bool.and_eq_true] at hc
    obtain ⟨⟨⟨⟨hpaused, hsup⟩, -⟩, -⟩, -⟩ := hc
    obtain ⟨-, hclamps, hbridges⟩ := turnSupported_iff.1 hsup
    exact keeps_resumeTurning (turningPaused_inProgress hpaused) hclamps hbridges h
  · exact h

theorem keeps_abortRequest (h : Keeps b s) : Keeps b (abortRequest s).2 := by
  unfold abortRequest
  split
  · next hl => exact keeps_endAborted .abort (turningLive_inProgress hl) h
  · split
    · exact h
    · exact h

theorem keeps_homeOf (by' : Owner) (side : Side) (h : Keeps b s) : Keeps b (homeOf by' side s).2 := by
  unfold homeOf
  dsimp only
  split_ifs
  · exact h
  · exact h
  · exact h
  · split
    · exact h
    · exact keeps_modHead side (·.moveTo .park) h
    · exact keeps_modHead side (·.moveTo .park) h
    · exact h

theorem keeps_homeRequest (head : Nat) (h : Keeps b s) : Keeps b (homeRequest head s).2 := by
  unfold homeRequest
  split
  · exact h
  · exact keeps_homeOf .link _ h

theorem keeps_headsHome (h : Keeps b s) : Keeps b (headsHome s).2 :=
  keeps_forSides (fun side s => (homeOf .pendant side s).2) (fun side _ => keeps_homeOf .pendant side) h

theorem keeps_indexEdgeRequest (head : Nat) (h : Keeps b s) : Keeps b (indexEdgeRequest head s).2 := by
  unfold indexEdgeRequest
  split
  · exact h
  · split
    · exact h
    · exact keeps_modHead _ _ h

theorem keeps_toolChangedRequest (head : Nat) (h : Keeps b s) : Keeps b (toolChangedRequest head s).2 := by
  unfold toolChangedRequest
  split
  · exact h
  · split
    · exact h
    · exact keeps_modHead _ _ h

theorem keeps_cutEvent (readings : List Nat) (side : Side) (h : Keeps b s) : Keeps b (cutEvent readings side s) := by
  have hrev := keeps_modHead side (Head.revolution s.sst.active.edgeLife) h
  unfold cutEvent
  exact keeps_ite (keeps_modHead _ _ (keeps_setPass _ _ hrev)) (keeps_modHead _ _ hrev)

theorem keeps_headEvent (readings : List Nat) (side : Side) (h : Keeps b s) : Keeps b (headEvent readings side s) := by
  unfold headEvent
  exact keeps_ite (keeps_cutEvent readings side h) (keeps_ite (keeps_beginCut side h) h)

theorem keeps_countEvent (interval : Nat) (h : Keeps b s) : Keeps b (countEvent interval s) := by
  unfold countEvent
  exact keeps_modTcu _ id id h

theorem keeps_indexTaken (interval : Nat) (forcesL forcesR : List Nat) (h : Keeps b s) :
    Keeps b (indexTaken interval forcesL forcesR s) :=
  keeps_settle (keeps_headEvent _ .r (keeps_headEvent _ .l (keeps_countEvent interval h)))

theorem keeps_reachSpeed (target : Nat) (hrun : spindleRunning s = true) (h : Keeps b s) :
    Keeps b (reachSpeed target s) := by
  have hat := keeps_modFmu (fun u => { u with slipBlanked := false })
    (keeps_modTcu (fun t => { t with spindle := .atSpeed target }) (fun _ => hrun) id h)
  unfold reachSpeed
  dsimp only
  split
  · next hstate _ =>
    have hturn : turningInProgress s = true := by
      unfold turningInProgress turningLive; rw [show s.tcu.state = .runup from hstate]; rfl
    exact keeps_ite (keeps_beginStep 1 (keeps_turning _ (fun _ => rfl) hturn hat)) (keeps_continueCutting hturn hat)
  · exact hat

theorem keeps_rollersChanged (pairL pairR : Nat) (h : Keeps b s) : Keeps b (rollersChanged pairL pairR s) := by
  have hr := keeps_modTcu (fun t => { t with rollerSpeed := (pairL + pairR) / 2 }) id id h
  unfold rollersChanged
  dsimp only
  split
  · next target hs =>
    refine keeps_ite (keeps_reachSpeed target ?_ (keeps_modFmu _ hr)) (keeps_modFmu _ hr)
    unfold spindleRunning
    rw [show (endSlipBlanking target (s.modTcu fun t => { t with rollerSpeed := (pairL + pairR) / 2 })).tcu.spindle = _ from hs]
  · exact hr

theorem keeps_stopExpiry (h : Keeps b s) : Keeps b (stopExpiry s) := by
  have hstop := keeps_modTcu (fun t => { t with spindle := .stopped, stopTimer := none }) (fun hr => by cases hr) id h
  unfold stopExpiry
  exact keeps_ite (keeps_leaveEnding (keeps_leaveMeasureRun (keeps_ite (keeps_runForMeasure hstop) hstop))) h

theorem keeps_moveEnded (side : Side) (parkSwitch : Bool) (h : Keeps b s) : Keeps b (moveEnded side parkSwitch s) := by
  unfold moveEnded
  dsimp only
  split
  · exact keeps_ite (keeps_leaveEnding (keeps_releaseHead side (keeps_headParked side h))) h
  · exact keeps_stepEnd (keeps_modHead _ _ h)
  · exact keeps_modHead _ _ h
  · exact keeps_modHead _ _ h
  · exact keeps_modHead _ _ h
  · exact keeps_modHead _ _ h
  · exact keeps_releaseHead side (keeps_modHead _ _ h)
  · exact h

end Works

end Sys2Proof.Machine

namespace Sys2Proof.Machine

/-! ## The commands of the settings store and the link, and the resets -/

section Rest

variable {b s : State}

theorem keeps_thresholdsChanged (before : Settings) (h : Keeps b s) : Keeps b (thresholdsChanged before s) := by
  unfold thresholdsChanged
  exact keeps_ite h (keeps_zonesAfresh h)

theorem keeps_offsetChanged (before : Settings) (side : Side) (h : Keeps b s) : Keeps b (offsetChanged before side s) := by
  unfold offsetChanged
  exact keeps_ite h (keeps_makeStale side h)

theorem keeps_ownersAct (before : Settings) (h : Keeps b s) : Keeps b (ownersAct before s) := by
  have hm : Keeps b (modesChanged before (thresholdsChanged before s)) :=
    keeps_foldl _ (fun _ m => keeps_modeChanged _ m) _ (keeps_thresholdsChanged before h)
  have ho := keeps_forSides (offsetChanged before) (fun side _ => keeps_offsetChanged before side) hm
  unfold ownersAct feedsChanged
  exact keeps_ite ho (keeps_modTcu _ id id ho)

theorem keeps_toolsChanged (before : Settings) (h : Keeps b s) : Keeps b (toolsChanged before s) := by
  have he : Keeps b (edgeLifeChanged before s) := by
    unfold edgeLifeChanged
    exact keeps_ite h (keeps_modTcu _ id id h)
  unfold toolsChanged edgesChanged
  exact keeps_ite he (keeps_modTcu _ id id he)

theorem keeps_restartSilence (h : Keeps b s) : Keeps b (restartSilence s) := by
  unfold restartSilence
  exact keeps_modSlp _ h

theorem keeps_takeSetting (x : Setting) (v : Int) (h : Keeps b s) : Keeps b (takeSetting x v s) := by
  have hinput : ∀ {c : Prop} [Decidable c] {u : State}, Keeps b u → Keeps b (if c then planInputChanged u else u) :=
    fun hu => keeps_ite (keeps_planInputChanged hu) hu
  have ht := keeps_toolsChanged s.sst.active (keeps_ownersAct s.sst.active
    (keeps_modSst (fun t => { t with active := writeSetting t.active v x }) h))
  unfold takeSetting
  exact hinput (keeps_ite (keeps_restartSilence ht) ht)

theorem keeps_setSettingRequest (addr : SettingAddr) (value : Int) (h : Keeps b s) :
    Keeps b (setSettingRequest addr value s).2 := by
  unfold setSettingRequest
  split
  · exact h
  · split_ifs
    · exact h
    · exact h
    · exact h
    · exact keeps_takeSetting _ _ h

theorem keeps_getSettingRequest (source : Nat) (addr : SettingAddr) (h : Keeps b s) :
    Keeps b (getSettingRequest source addr s).2 := by
  unfold getSettingRequest
  split
  · split_ifs
    · exact h
    · exact h
    · exact h
  · exact h

theorem keeps_storeSettingsRequest (autoload : Nat) (h : Keeps b s) : Keeps b (storeSettingsRequest autoload s).2 := by
  unfold storeSettingsRequest
  split
  · exact h
  · next set _ =>
    split
    · exact h
    · exact keeps_modSst (fun t =>
        { t with store := .pending, snapshot := some ⟨t.active, s.tcu.head.map Head.tools, set⟩ }) h

theorem keeps_programmingBegin (h : Keeps b s) : Keeps b (programmingBegin s) := by
  unfold programmingBegin
  exact keeps_ite (keeps_modSst _ h) h

theorem keeps_readbackDone (agrees : Bool) (h : Keeps b s) : Keeps b (readbackDone agrees s) := by
  unfold readbackDone
  exact keeps_ite (keeps_modSst _ h) h

theorem keeps_replaceSettings (st : Settings) (outcome : SettingsOutcome) (h : Keeps b s) :
    Keeps b (replaceSettings st outcome s) := by
  have ho := keeps_ownersAct s.sst.active (keeps_modSst (fun t => { t with active := st, lastOutcome := outcome }) h)
  unfold replaceSettings
  exact keeps_planInputChanged (keeps_ite ho (keeps_restartSilence ho))

theorem keeps_loadSettingsRequest (h : Keeps b s) : Keeps b (loadSettingsRequest s).2 := by
  unfold loadSettingsRequest
  split
  · exact h
  · exact h
  · exact keeps_replaceSettings _ _ h

theorem keeps_defaultSettingsRequest (h : Keeps b s) : Keeps b (defaultSettingsRequest s).2 := by
  unfold defaultSettingsRequest
  split
  · exact h
  · exact keeps_replaceSettings _ _ h

/-! ### The link -/

theorem keeps_resetRequest (h : Keeps b s) : Keeps b (resetRequest s).2 := by
  have hq := keeps_queueDirty (keeps_modSlp (fun p => { p with resetPending := true }) h)
  unfold resetRequest
  split
  · exact h
  · exact keeps_drainMarks (keeps_ite (keeps_handEntry _ hq) hq)

/-- Every request keeps the laws, whoever asks for it. -/
theorem keeps_serve (i : Instr) (h : Keeps b s) : Keeps b (serve i s).2 := by
  cases i with
  | seatAxle => exact keeps_seatAxleRequest _ _ _ _ _ h
  | releaseAxle => exact keeps_releaseAxleRequest h
  | bridges => exact keeps_bridgesRequest _ h
  | source => exact keeps_sourceRequest _ _ h
  | setStamp _ stamp => exact keeps_modPil (fun p => { p with stamp := stamp }) (fun _ => rfl) id h
  | lift => exact keeps_liftRequest _ h
  | lower => exact keeps_lowerRequest _ h
  | takeLoad => exact keeps_takeLoadRequest h
  | haltLift => exact keeps_haltLiftRequest h
  | clampClose => exact keeps_clampsClose .link h
  | clampOpen => exact keeps_clampsOpen .link h
  | clearFault => exact keeps_clearFaultRequest _ h
  | sweep => exact keeps_sweepRequest _ h
  | haltSweep => exact keeps_endWorks .halted h
  | referenceSweep => exact keeps_referenceRequest _ h
  | readProfile => exact keeps_readProfileRequest _ h
  | plan => exact keeps_planRequest h
  | turn => exact keeps_turnRequest h
  | pause => exact keeps_pauseRequest h
  | resume => exact keeps_resumeRequest h
  | abort => exact keeps_abortRequest h
  | home => exact keeps_homeRequest _ h
  | indexEdge => exact keeps_indexEdgeRequest _ h
  | toolChanged => exact keeps_toolChangedRequest _ h
  | readHistory => exact keeps_readHistoryRequest _ _ h
  | listBogie => exact keeps_listBogieRequest _ h
  | retireAxle => exact keeps_retireAxleRequest _ h
  | correctHistory => exact keeps_correctHistoryRequest _ _ _ h
  | commit => exact keeps_commitRequest h
  | resumeLink => exact keeps_modSlp (fun p => { p with silenceHold := false }) h
  | reset => exact keeps_resetRequest h
  | setSetting => exact keeps_setSettingRequest _ _ h
  | getSetting => exact keeps_getSettingRequest _ _ h
  | storeSettings => exact keeps_storeSettingsRequest _ h
  | loadSettings => exact keeps_loadSettingsRequest h
  | defaultSettings => exact keeps_defaultSettingsRequest h
  | _ => exact h

theorem keeps_reply (kind tag : Byte) {a : Answer} (h : Keeps b a.2) : Keeps b (reply kind tag a) := keeps_modSlp _ h

theorem keeps_answer (kind tag : Byte) {handler : State → Answer} (hh : Keeps b (handler s).2) (h : Keeps b s) :
    Keeps b (answer kind tag handler s) := by
  unfold answer
  exact keeps_ite (keeps_reply _ _ hh) h

theorem keeps_press {handler : State → Answer} (hh : Keeps b (handler s).2) (h : Keeps b s) :
    Keeps b (press handler s) := by
  unfold press
  exact keeps_ite h hh

theorem keeps_dispatchFront (h : Keeps b s) : Keeps b (dispatchFront s) := by
  unfold dispatchFront
  split
  · split
    · exact h
    · next f rest _ =>
      have hq := keeps_modSlp (fun p => { p with queue := rest }) h
      refine keeps_reply _ _ ?_
      unfold judge
      split
      · exact hq
      · exact keeps_serve _ hq
  · exact h

theorem keeps_acceptFrame (f : Frame) (h : Keeps b s) : Keeps b (acceptFrame f s) := by
  unfold acceptFrame
  exact keeps_restartSilence (keeps_modSlp _ h)

theorem keeps_frameByte (bytes : List Byte) (value : Byte) (h : Keeps b s) : Keeps b (frameByte bytes value s) := by
  have hh : Keeps b (hunt s) := keeps_modSlp _ h
  unfold frameByte
  refine keeps_ite hh (keeps_ite (keeps_modSlp _ h) ?_)
  split
  · exact keeps_acceptFrame _ hh
  · exact hh

theorem keeps_byteArrived (value : Byte) (h : Keeps b s) : Keeps b (byteArrived value s) := by
  unfold byteArrived
  split
  · exact keeps_ite (keeps_modSlp _ h) h
  · exact keeps_frameByte _ value h

theorem keeps_discardPartial (h : Keeps b s) : Keeps b (discardPartial s) := by
  unfold discardPartial
  split
  · exact h
  · exact keeps_modSlp _ h

theorem keeps_sendReply (h : Keeps b s) : Keeps b (sendReply s) := by
  unfold sendReply
  split
  · exact h
  · exact keeps_modSlp _ h

theorem keeps_sendReport (h : Keeps b s) : Keeps b (sendReport s) := by
  unfold sendReport
  exact keeps_ite (keeps_modSlp _ h) h

theorem keeps_frameEnded (h : Keeps b s) : Keeps b (frameEnded s) := by
  unfold frameEnded
  split
  · exact h
  · exact keeps_ite (keeps_sendReport (keeps_modSlp _ h)) (keeps_sendReply (keeps_modSlp _ h))
  · exact keeps_ite (keeps_sendReply (keeps_modSlp _ h)) (keeps_sendReport (keeps_modSlp _ h))

theorem keeps_holdForSilence (h : Keeps b s) : Keeps b (holdForSilence s) := by
  have hpause : ∀ {c : Prop} [Decidable c] {u : State}, Keeps b u →
      Keeps b (if c then rundown (pauseTurning .silence u) else u) :=
    fun hu => keeps_ite (keeps_rundown (keeps_pauseTurning .silence hu)) hu
  have hs := keeps_modSlp (fun p => { p with silenceHold := true }) h
  unfold holdForSilence
  exact hpause (keeps_endWorks .silence (keeps_ite (keeps_restLift .silence hs) hs))

theorem keeps_silenceExpiry (h : Keeps b s) : Keeps b (silenceExpiry s) := by
  have hf := keeps_modSlp (fun p => { p with silenceTimer := none, silenceFlag := true }) h
  unfold silenceExpiry
  split
  · dsimp only
    split
    · exact hf
    · exact keeps_holdForSilence hf
  · exact h

/-! ### The resets -/

/-- After a reset nothing runs: what is kept is what the history store brings. -/
theorem keeps_rebuilt (x : FieldLines) (sst : Sst) (tools : Sides ToolCounters) (calibration : Sides Calibration)
    (ahs : Ahs) (rate : Rate) (pending : List Instr) (hopening : ahs.opening = none)
    (harray : ArrayOk b.ahs → ArrayOk ahs) (hstore : ArrayOk b.ahs → StoreOk b.ahs → StoreOk ahs) :
    Keeps b (rebuilt x sst tools calibration ahs rate pending) where
  spin _ hr := by
    have hs : spindleRunning (rebuilt x sst tools calibration ahs rate pending) = false := by
      show (match (tcuAfterReset sst.active tools x).spindle with
        | .runup _ => true | .atSpeed _ => true | .stopped => false | .rundown => false) = false
      unfold tcuAfterReset
      dsimp only
      split_ifs <;> rfl
    rw [hs] at hr
    cases hr
  work _ :=
    ⟨.inr rfl, fun hr => (by cases hr), fun hw => absurd rfl hw, fun o ho => by
      rw [show ahs.opening = some o from ho] at hopening; cases hopening⟩
  array := harray
  store ha hs := ⟨hstore ha hs.1, fun _ => ⟨rfl, by
    show (if x.presence then SeatState.present else .vacant) ≠ .seated
    split <;> decide⟩⟩

theorem keeps_startUp (x : FieldLines) (s : State) : Keeps s (startUp x s) :=
  keeps_rebuilt x _ _ _ _ _ _ rfl (fun ha => ⟨ha.wf, fun _ hc => by cases hc⟩) (fun ha hs => hs.afterReset ha)

theorem keeps_linkResetEffect (x : FieldLines) (h : Keeps b s) : Keeps b (linkResetEffect x s) := by
  have hn : Keeps b (resetNotices s) := by
    unfold resetNotices
    split
    · exact keeps_forSides _ (fun side _ ht => keeps_ite (keeps_headNotice side ht) ht) h
    · exact h
  unfold linkResetEffect
  split
  · exact hn.trans (keeps_rebuilt x _ _ _ _ _ _ rfl (fun ha => ⟨ha.wf, fun _ hc => by cases hc⟩)
      (fun _ hs => hs.afterLinkReset))
  · exact h

end Rest

/-! ## Every step -/

/-- Every command keeps the laws, its step not yet ended. -/
theorem keeps_effectOf (i : Instr) (s : State) : Keeps s (effectOf i s) := by
  have h := Keeps.refl s
  have hrequest : ∀ kind tag, Keeps s (answer kind tag (serve i) s) := fun kind tag =>
    keeps_answer kind tag (keeps_serve i h) h
  cases i with
  | powerOnReset x => exact keeps_startUp x s
  | pinReset x => exact keeps_startUp x s
  | linkResetEffect x => exact keeps_linkResetEffect x h
  | goodFrame f => exact keeps_acceptFrame f h
  | lineError => exact keeps_discardPartial h
  | gapTimerExpiry => exact keeps_ite (keeps_discardPartial h) h
  | dispatch => exact keeps_dispatchFront h
  | sendingReply => exact keeps_ite (keeps_sendReply h) h
  | sendingReport => exact keeps_ite (keeps_sendReport h) h
  | frameSent => exact keeps_frameEnded h
  | silenceTimerExpiry => exact keeps_silenceExpiry h
  | presenceOn => exact keeps_presenceOn h
  | presenceOff => exact keeps_presenceOff h
  | tagReadBegin => exact keeps_beginTagRead h
  | bridgeSwitchMade side at' => exact keeps_bridgeSwitchMade side at' h
  | bridgeSwitchDropped side at' => exact keeps_bridgeSwitchDropped side at' h
  | bridgeTravelTimerExpiry side => exact keeps_bridgeTimeout side h
  | pitStopAsserted => exact keeps_pitStopAsserted h
  | pitStopReleased => exact keeps_modPil (fun p => { p with pitStop := false }) (fun _ => rfl) id h
  | pendantJogUp => exact keeps_press (keeps_jog .up h) h
  | pendantJogDown => exact keeps_press (keeps_jog .down h) h
  | pendantJogRelease button => exact keeps_jogRelease button h
  | pendantClampsClose => exact keeps_press (keeps_clampsClose .pendant h) h
  | pendantClampsOpen => exact keeps_press (keeps_clampsOpen .pendant h) h
  | pendantBridgesIn => exact keeps_press (keeps_bridgesTo .pendant .inLine h) h
  | pendantBridgesOut => exact keeps_press (keeps_bridgesTo .pendant .out h) h
  | pendantHeadsHome => exact keeps_press (keeps_headsHome h) h
  | liftControlPeriodExpiry positions loads => exact keeps_controlPeriod positions loads h
  | loadChange post load positions => exact keeps_loadChanged post load positions h
  | clampSwitchMade side at' => exact keeps_clampSwitchMade side at' h
  | clampSwitchDropped side at' => exact keeps_setClampSwitch side at' false h
  | clampMoveTimerExpiry side => exact keeps_clampTimeout side h
  | deglitchTimerExpiry m => exact keeps_deglitchExpiry m h
  | gaugeTransactionBegin => exact keeps_beginOldest h
  | gaugeTransactionEnd => exact keeps_transactionEnd h
  | clockHold => exact keeps_clockHold h
  | clockRelease => exact keeps_clockRelease h
  | waitTimerExpiry => exact keeps_waitExpiry h
  | arbitrationLoss => exact keeps_arbitrationLoss h
  | unexpectedStartStop condition => exact keeps_unexpectedCondition condition h
  | foreignStart => exact keeps_foreignStart h
  | foreignStop => exact keeps_foreignStop h
  | quietTimerExpiry => exact keeps_quietExpiry h
  | resetObservationTimeout => exact keeps_resetObservationTimeout h
  | profileScanBegin => exact keeps_profileScanBegin h
  | sweepExtractionDone => exact keeps_extractionDone h
  | rimTemperatureReading side value => exact keeps_rimReading side value h
  | rimSensorFault side => exact keeps_rimFault side h
  | rimHoldTimerExpiry side => exact keeps_rimHoldExpiry side h
  | indexEvent interval forcesL forcesR => exact keeps_indexTaken interval forcesL forcesR h
  | rollerSpeedChange pairL pairR => exact keeps_rollersChanged pairL pairR h
  | forceReadingChange side value => exact keeps_modHead side (fun h => { h with force := saturate Config.forceMax value }) h
  | stopTimerExpiry => exact keeps_stopExpiry h
  | headMoveEnd side parkSwitch => exact keeps_moveEnded side parkSwitch h
  | planComputationEnd => exact keeps_computationEnd h
  | recordOpenComplete => exact keeps_recordOpened h
  | commitBegin => exact keeps_commitBegin h
  | slotWriteDone => exact keeps_slotWritten h
  | commitVerifyDone agrees => exact keeps_verifyDone agrees h
  | startupScanEnd bads => exact keeps_scanEnded bads h
  | settingsProgrammingBegin => exact keeps_programmingBegin h
  | settingsReadbackDone agrees => exact keeps_readbackDone agrees h
  | byteReceived value => exact keeps_byteArrived value h
  | gaugeBusByte value ack => exact keeps_busByte value ack h
  | _ => exact hrequest _ _

theorem keeps_close {b s : State} (before : State) (h : Keeps b s) : Keeps b (close before s) := by
  rw [close_eq]
  exact keeps_modSlp _ (keeps_modPil (fun p => { p with clearToMove := clearInputs s }) (fun _ => rfl) id
    (keeps_modFmu (fun u => { u with monitors := .ofFn (reviewed s) }) h))

theorem keeps_step {s t : State} (h : step s = .next t) : Keeps s t := by
  unfold step at h
  split at h
  · cases h
    exact .refl s
  · next i rest hp =>
    rw [exec_next, Host.Outcome.next.injEq] at h
    subst h
    have hq : Keeps s (s.withPending rest) := ⟨id, fun w => ⟨w.lift, w.apart, w.plan, w.mark⟩, id, fun _ => id⟩
    exact keeps_close _ (hq.trans (keeps_effectOf i _))

/-- Settles O5: no step lets the spindle run beside a clamp that is not CLOSED or a bridge that is not OUT. -/
theorem stepKeepsSpindleLaw : Obligations.StepKeepsSpindleLaw := by
  unfold Obligations.StepKeepsSpindleLaw
  intro s t hs h
  exact (spindleLaw_iff t).2 ((keeps_step h).spin ((spindleLaw_iff s).1 hs))

/-- Settles O8: every step keeps the slot array's form, the index's law and the works that exclude one another. -/
theorem stepKeepsSlots : Obligations.StepKeepsSlots := by
  unfold Obligations.StepKeepsSlots
  refine ⟨fun s t hs h => ?_, fun s t hs h => ?_, fun s t hs h => ?_, by decide, fun s hs => ?_⟩
  · exact (arrayOk_iff t).2 ((keeps_step h).array ((arrayOk_iff s).1 hs))
  · rw [Bool.and_eq_true] at hs
    exact (storeLaw_iff t).2 ((keeps_step h).store ((arrayOk_iff s).1 hs.1) ((storeLaw_iff s).1 hs.2))
  · exact (workLaw_iff t).2 ((keeps_step h).work ((workLaw_iff s).1 hs))
  · rw [Bool.and_eq_true] at hs
    obtain ⟨hwf, hstore⟩ := hs
    obtain ⟨hok, -⟩ := (storeLaw_iff s).1 hstore
    refine ⟨hok.few, nodup_of_idsRise hok.rise, fun m n q r hm hn hid => ?_⟩
    cases e : s.ahs.store with
    | ready => exact hok.validUnique e ((mem_slots hwf ..).2 hm) ((mem_slots hwf ..).2 hn) hid
    | loading => exact validIds_unique (hok.unscanned e).nodup ((mem_slots hwf ..).2 hm) ((mem_slots hwf ..).2 hn) hid

end Sys2Proof.Machine

namespace Sys2Proof.Machine

/-! ## What the end of a run, of a sweep and of a reference sweep leave -/

section Ends

/-- Of the turning unit only the heads differ. -/
def HeadsOnly (s t : State) : Prop := t.tcu = { s.tcu with head := t.tcu.head }

theorem HeadsOnly.of_tcu {s t : State} (h : t.tcu = s.tcu) : HeadsOnly s t := by rw [HeadsOnly, h]

theorem HeadsOnly.trans {s t u : State} (h : HeadsOnly s t) (k : HeadsOnly t u) : HeadsOnly s u := by
  unfold HeadsOnly at h k ⊢
  rw [k, h]

theorem HeadsOnly.state {s t : State} (h : HeadsOnly s t) : t.tcu.state = s.tcu.state := by rw [h]
theorem HeadsOnly.spindle {s t : State} (h : HeadsOnly s t) : t.tcu.spindle = s.tcu.spindle := by rw [h]
theorem HeadsOnly.stopTimer {s t : State} (h : HeadsOnly s t) : t.tcu.stopTimer = s.tcu.stopTimer := by rw [h]
theorem HeadsOnly.measuring {s t : State} (h : HeadsOnly s t) : t.tcu.measuring = s.tcu.measuring := by rw [h]
theorem HeadsOnly.progress {s t : State} (h : HeadsOnly s t) : t.tcu.progress = s.tcu.progress := by rw [h]

theorem headsOnly_forSides {f : Side → State → State} (hf : ∀ side s, HeadsOnly s (f side s)) (s : State) :
    HeadsOnly s (forSides f s) := (hf .l s).trans (hf .r _)

theorem headsOnly_releaseHead (side : Side) (s : State) : HeadsOnly s (releaseHead side s) := by
  unfold releaseHead
  dsimp only
  split
  · rfl
  · rfl

theorem place_tcu (x : Txn) (s : State) : (place x s).tcu = s.tcu :=
  (kept_place (keep := { gbc := true }) x rfl (.refl _ s)).wholeTcu rfl rfl

theorem abandon_tcu (q : Requester) (s : State) : (abandon q s).tcu = s.tcu :=
  (kept_abandon (keep := { gbc := true }) q rfl (.refl _ s)).wholeTcu rfl rfl

theorem abandon_pmu (q : Requester) (s : State) : (abandon q s).pmu = s.pmu :=
  (kept_abandon (keep := { gbc := true }) q rfl (.refl _ s)).pmu rfl

theorem headsOnly_sendProbeHome (side : Side) (s : State) : HeadsOnly s (sendProbeHome side s) := by
  unfold sendProbeHome HeadsOnly
  rw [place_tcu]
  rfl

theorem headsOnly_parkSwept (wheels : Option Wheels) (side : Side) (s : State) :
    HeadsOnly s (parkSwept wheels side s) := by
  unfold parkSwept
  split
  · rfl
  · split
    · exact headsOnly_sendProbeHome side s
    · rfl

theorem headsOnly_stowHead (side : Side) (s : State) : HeadsOnly s (stowHead side s) := by
  unfold stowHead
  split
  · rfl
  · unfold HeadsOnly
    rw [place_tcu]
    rfl

theorem headsOnly_endReference (side : Side) (outcome : ReferenceOutcome) (s : State) :
    HeadsOnly s (endReference side outcome s) := by
  unfold endReference
  split
  · refine HeadsOnly.trans ?_ ((headsOnly_stowHead side _).trans (headsOnly_releaseHead side _))
    exact .of_tcu (abandon_tcu ..)
  · rfl

theorem headsOnly_referenceFailed (reason : Reason) (side : Side) (s : State) :
    HeadsOnly s (referenceFailed reason side s) := headsOnly_endReference side _ s

/-! ### The end of a measuring run -/

theorem rundown_spindle (s : State) :
    (rundown s).tcu.spindle = if spindleRunning s then .rundown else s.tcu.spindle := by
  unfold rundown
  split
  · rfl
  · rfl

theorem rundown_stopTimer (s : State) :
    (rundown s).tcu.stopTimer = if spindleRunning s then some 2000 else s.tcu.stopTimer := by
  unfold rundown
  split
  · rfl
  · rfl

theorem rundown_rest (s : State) : (rundown s).tcu.state = s.tcu.state ∧ (rundown s).tcu.measuring = s.tcu.measuring ∧
    (rundown s).tcu.head = s.tcu.head ∧ (rundown s).tcu.progress = s.tcu.progress := by
  unfold rundown
  split
  · exact ⟨rfl, rfl, rfl, rfl⟩
  · exact ⟨rfl, rfl, rfl, rfl⟩

theorem leaveMeasureRun_rest (s : State) : ∃ st, (leaveMeasureRun s).tcu = { s.tcu with state := st } ∧
    ((∀ left, s.tcu.state ≠ .measureRun left) → st = s.tcu.state) ∧
    (∀ left, s.tcu.state = .measureRun left → st = .measureRun left ∨ st = left.state) := by
  unfold leaveMeasureRun
  split
  · next left hs =>
    have hleft : ∀ left', s.tcu.state = .measureRun left' → left = left' := fun left' h => by
      rw [hs] at h
      exact TcuState.measureRun.inj h
    split
    · exact ⟨_, rfl, fun h => absurd hs (h left), fun left' h => .inr (by rw [hleft left' h])⟩
    · exact ⟨_, rfl, fun _ => rfl, fun _ h => .inl h⟩
  · exact ⟨_, rfl, fun _ => rfl, fun _ h => .inl h⟩

/-- What the end of a measuring run leaves: nothing asked for, a running spindle in RUNDOWN if it was, the rest as it was;
only a MEASURE_RUN changes its state. -/
structure RunFinished (s t : State) : Prop where
  measuring : t.tcu.measuring = false
  spindle : t.tcu.spindle = if s.tcu.measuring && spindleRunning s then .rundown else s.tcu.spindle
  stopTimer : t.tcu.stopTimer = if s.tcu.measuring && spindleRunning s then some 2000 else s.tcu.stopTimer
  progress : t.tcu.progress = s.tcu.progress
  state : (∀ left, s.tcu.state ≠ .measureRun left) → t.tcu.state = s.tcu.state
  left : ∀ left, s.tcu.state = .measureRun left → t.tcu.state = .measureRun left ∨ t.tcu.state = left.state

theorem finishRun_finished (s : State) : RunFinished s (finishRun s) ∧ (finishRun s).tcu.head = s.tcu.head := by
  unfold finishRun
  split
  · next hm =>
    obtain ⟨st, hst, hstate, hleft⟩ := leaveMeasureRun_rest (rundown (s.modTcu fun t => { t with measuring := false }))
    obtain ⟨hr1, hr2, hr3, hr4⟩ := rundown_rest (s.modTcu fun t => { t with measuring := false })
    have hrun : spindleRunning (s.modTcu fun t => { t with measuring := false }) = spindleRunning s := rfl
    refine ⟨⟨?_, ?_, ?_, ?_, fun h => ?_, fun left h => ?_⟩, ?_⟩
    · rw [hst]
      exact hr2
    · simp [hst, rundown_spindle, hm, hrun]
    · simp [hst, rundown_stopTimer, hm, hrun]
    · rw [hst]
      exact hr4
    · rw [hst]
      exact (hstate (by rw [hr1]; exact h)).trans hr1
    · rw [hst]
      exact hleft left (hr1.trans h)
    · rw [hst]
      exact hr3
  · next hm =>
    have hm : s.tcu.measuring = false := by simpa using hm
    exact ⟨⟨hm, by simp [hm], by simp [hm], rfl, fun _ => rfl, fun _ h => .inl h⟩, rfl⟩

theorem RunFinished.of_tcu {s t u : State} (h : RunFinished t u) (e : t.tcu = s.tcu) : RunFinished s u := by
  obtain ⟨h1, h2, h3, h4, h5, h6⟩ := h
  rw [e, spindleRunning_congr (congrArg Tcu.spindle e)] at h2
  rw [e, spindleRunning_congr (congrArg Tcu.spindle e)] at h3
  rw [e] at h4 h5 h6
  exact ⟨h1, h2, h3, h4, h5, h6⟩

theorem RunFinished.heads {s t u : State} (h : RunFinished s t) (k : HeadsOnly t u) : RunFinished s u :=
  ⟨k.measuring.trans h.measuring, k.spindle.trans h.spindle, k.stopTimer.trans h.stopTimer,
    k.progress.trans h.progress, fun hs => k.state.trans (h.state hs), fun left hs => by
      rw [k.state]
      exact h.left left hs⟩

/-! ### The end of a sweep -/

theorem closeSweep_finished (outcome : SweepOutcome) (s : State) : RunFinished s (closeSweep outcome s) := by
  have ha : (discardPlan .sweep ((forSides abandonSwept s).modPmu fun p =>
      { p with phase := .idle, selected := none, lastSweep := outcome, entrySkipped := false, taken := .both none })).tcu =
      s.tcu :=
    (discardPlan_tcu ..).trans ((kept_forSides (keep := { gbc := true }) abandonSwept
      (fun side _ => kept_abandonSwept side rfl) (.refl _ s)).wholeTcu rfl rfl)
  have hf := (finishRun_finished (discardPlan .sweep ((forSides abandonSwept s).modPmu fun p =>
      { p with phase := .idle, selected := none, lastSweep := outcome, entrySkipped := false, taken := .both none }))).1
  refine (hf.of_tcu ha).heads ?_
  unfold closeSweep
  refine HeadsOnly.trans ?_ (headsOnly_forSides headsOnly_releaseHead _)
  split
  · rfl
  · exact headsOnly_forSides (headsOnly_parkSwept _) _

theorem closeSweep_pmu (outcome : SweepOutcome) (s : State) :
    (closeSweep outcome s).pmu =
      { s.pmu with phase := .idle, selected := none, lastSweep := outcome, entrySkipped := false, taken := .both none } := by
  have ha : (forSides abandonSwept s).pmu = s.pmu :=
    (kept_forSides (keep := { gbc := true }) abandonSwept (fun side _ => kept_abandonSwept side rfl) (.refl _ s)).pmu rfl
  have hrun : ∀ u : State, (finishRun (discardPlan .sweep u)).pmu = u.pmu := fun u =>
    (kept_finishRun (keep := { tpe := true, ahs := true, tcu := true, spindle := true }) rfl rfl
      (kept_discardPlan .sweep rfl rfl (.refl _ u))).pmu rfl
  have hend : ∀ u : State, (forSides releaseHead u).pmu = u.pmu := fun u =>
    (kept_forSides (keep := { tcu := true }) _ (fun side _ => kept_releaseHead side rfl) (.refl _ u)).pmu rfl
  have hpark : ∀ w u, (forSides (parkSwept w) u).pmu = u.pmu := fun w u =>
    (kept_forSides (keep := { tcu := true, gbc := true }) _ (fun side _ => kept_parkSwept w side rfl rfl) (.refl _ u)).pmu rfl
  unfold closeSweep
  rw [hend]
  split
  · rw [hrun, State.modPmu_pmu, ha]
  · rw [hpark, hrun, State.modPmu_pmu, ha]

theorem Sides.get_other_set {α : Type} (v : Sides α) (a : α) (x : Side) :
    (v.set a x).get x.other = v.get x.other := by
  cases x <;> rfl

theorem failRecord_pmu (reason : Reason) (side : Side) (s : State) :
    (failRecord reason side s).pmu = { s.pmu with record := (failRecord reason side s).pmu.record } ∧
    (failRecord reason side s).pmu.record.get side =
      (if swept side s then .failed reason (s.pmu.head.get side).staleDuring (s.pmu.head.get side).profile.length
       else s.pmu.record.get side) ∧
    (failRecord reason side s).pmu.record.get side.other = s.pmu.record.get side.other := by
  unfold failRecord
  split
  · exact ⟨rfl, by simp, Sides.get_other_set ..⟩
  · exact ⟨rfl, rfl, rfl⟩

theorem failRecord_tcu (reason : Reason) (s : State) : (forSides (failRecord reason) s).tcu = s.tcu :=
  (kept_forSides (keep := { pmu := true }) _ (fun side _ => kept_failRecord _ side rfl) (.refl _ s)).wholeTcu rfl rfl

theorem sweepFail_idle {reason : Reason} {s : State} (h : sweepRunning s = false) : sweepFail reason s = s := by
  simp [sweepFail, h]

theorem supportLost_idle {s : State} (h : sweepRunning s = false) : supportLost s = s := sweepFail_idle h

theorem sweepFail_finished {reason : Reason} {s : State} (h : sweepRunning s = true) :
    RunFinished s (sweepFail reason s) := by
  unfold sweepFail
  rw [if_pos h]
  exact (closeSweep_finished _ _).of_tcu (failRecord_tcu reason s)

/-- The records of the selected wheels are FAILED, and the sweep is over (R92, R93, R98). -/
theorem sweepFail_pmu {reason : Reason} {s : State} (h : sweepRunning s = true) :
    (sweepFail reason s).pmu.phase = .idle ∧ (sweepFail reason s).pmu.lastSweep = .failed reason ∧
    (sweepFail reason s).pmu.head = s.pmu.head ∧
    ∀ side, (sweepFail reason s).pmu.record.get side =
      if swept side s then .failed reason (s.pmu.head.get side).staleDuring (s.pmu.head.get side).profile.length
      else s.pmu.record.get side := by
  obtain ⟨hl, hlrec, hlother⟩ := failRecord_pmu reason .l s
  obtain ⟨hr, hrrec, hrother⟩ := failRecord_pmu reason .r (failRecord reason .l s)
  have hsw : swept .r (failRecord reason .l s) = swept .r s := by unfold swept; rw [hl]
  have hpmu : (sweepFail reason s).pmu = _ := (congrArg State.pmu (if_pos h)).trans (closeSweep_pmu (.failed reason) (forSides (failRecord reason) s))
  rw [hpmu]
  refine ⟨rfl, rfl, ?_, fun side => ?_⟩
  · show (failRecord reason .r (failRecord reason .l s)).pmu.head = s.pmu.head
    rw [hr, hl]
  · show (failRecord reason .r (failRecord reason .l s)).pmu.record.get side = _
    cases side with
    | l => exact hrother.trans hlrec
    | r =>
      rw [hrrec, hsw]
      have hrec : (failRecord reason .l s).pmu.record.get .r = s.pmu.record.get .r := hlother
      rw [hrec, hl]

theorem sweepFail_not_running (reason : Reason) (s : State) : sweepRunning (sweepFail reason s) = false := by
  by_cases h : sweepRunning s = true
  · unfold sweepRunning
    rw [(sweepFail_pmu h).1]
    rfl
  · have hf : sweepRunning s = false := by simpa using h
    rw [sweepFail_idle hf, hf]

theorem sweepFail_lastSweep {reason : Reason} {s : State} (h : sweepRunning s = true) :
    (sweepFail reason s).pmu.lastSweep = .failed reason := (sweepFail_pmu h).2.1

theorem sweepFail_pmuHead (reason : Reason) (s : State) : (sweepFail reason s).pmu.head = s.pmu.head := by
  by_cases h : sweepRunning s = true
  · exact (sweepFail_pmu h).2.2.1
  · rw [sweepFail_idle (by simpa using h)]

/-- A turning keeps its state at the end of a sweep. -/
theorem sweepFail_state {reason : Reason} {s : State} (h : ∀ left, s.tcu.state ≠ .measureRun left) :
    (sweepFail reason s).tcu.state = s.tcu.state := by
  by_cases hr : sweepRunning s = true
  · exact (sweepFail_finished hr).state h
  · rw [sweepFail_idle (by simpa using hr)]

/-! ### The end of a reference sweep -/

theorem endReference_pmu (side : Side) (outcome : ReferenceOutcome) (s : State) :
    (endReference side outcome s).pmu =
      if referenceRunning side s then
        { s.pmu with
          head := s.pmu.head.set { s.pmu.head.get side with reference := .idle, lastReference := outcome } side }
      else s.pmu := by
  have hend : ∀ u : State, (releaseHead side (stowHead side u)).pmu = u.pmu := fun u =>
    (kept_releaseHead (keep := { tcu := true, gbc := true, fmu := true }) side rfl
      (kept_stowHead side rfl rfl rfl (.refl _ u))).pmu rfl
  unfold endReference
  split
  · rw [hend]
    simp only [modPmuHead, State.modPmu_pmu, abandon_pmu]
  · rfl

/-- A reference sweep that has failed runs no more, and neither does one that did not run on the other head. -/
theorem referenceFailed_running (reason : Reason) (side other : Side) (s : State) :
    referenceRunning other (referenceFailed reason side s) = (referenceRunning other s && other != side) := by
  unfold referenceFailed
  by_cases h : referenceRunning side s = true
  · unfold referenceRunning at h ⊢
    rw [endReference_pmu, if_pos (by unfold referenceRunning; exact h)]
    cases side <;> cases other <;> simp [Sides.get, Sides.set]
  · unfold referenceRunning at h ⊢
    rw [endReference_pmu, if_neg (by unfold referenceRunning; exact h)]
    cases side <;> cases other <;> simp_all [Sides.get]

theorem referencesFailed (reason : Reason) (s : State) : anyReference (forSides (referenceFailed reason) s) = false := by
  show (referenceRunning .l (referenceFailed reason .r _) || referenceRunning .r (referenceFailed reason .r _)) = false
  simp [referenceFailed_running]

/-- What the ends of the reference sweeps leave of the sweep. -/
theorem referencesFailed_sweep (reason : Reason) (s : State) :
    (forSides (referenceFailed reason) s).pmu.phase = s.pmu.phase ∧
    (forSides (referenceFailed reason) s).pmu.lastSweep = s.pmu.lastSweep := by
  have hone : ∀ side (u : State), (referenceFailed reason side u).pmu.phase = u.pmu.phase ∧
      (referenceFailed reason side u).pmu.lastSweep = u.pmu.lastSweep := fun side u => by
    unfold referenceFailed
    rw [endReference_pmu]
    split
    · exact ⟨rfl, rfl⟩
    · exact ⟨rfl, rfl⟩
  exact ⟨(hone .r _).1.trans (hone .l s).1, (hone .r _).2.trans (hone .l s).2⟩

/-! ### Pauses -/

theorem setPass_rest (side : Side) (status : PassStatus) (s : State) :
    ∃ progress, (setPass side status s).tcu = { s.tcu with progress := progress } := by
  unfold setPass
  split
  · exact ⟨_, rfl⟩
  · exact ⟨_, rfl⟩

theorem breakPass_rest (side : Side) (s : State) :
    ∃ progress, (breakPass side s).tcu = { s.tcu with progress := progress } := by
  unfold breakPass
  split
  · exact setPass_rest side _ s
  · exact ⟨_, rfl⟩

/-- What a withdrawal leaves of the turning unit: only heads and the statuses of passes differ. -/
theorem withdrawHead_rest (side : Side) (s : State) :
    ∃ head progress, (withdrawHead side s).tcu = { s.tcu with head := head, progress := progress } := by
  obtain ⟨progress, hp⟩ := breakPass_rest side s
  unfold withdrawHead
  dsimp only
  split
  · exact ⟨_, progress, by simp only [modHead, State.modTcu_tcu, hp]; rfl⟩
  · exact ⟨_, _, rfl⟩

theorem pauseTurning_rest (cause : PauseCause) (s : State) :
    ∃ head progress, (pauseTurning cause s).tcu =
      { s.tcu with
        state := if turningLive s then .paused cause else s.tcu.state
        head := head
        progress := progress } := by
  unfold pauseTurning
  split
  · obtain ⟨_, _, hl⟩ := withdrawHead_rest .l (s.modTcu fun t => { t with state := .paused cause })
    obtain ⟨head, progress, hr⟩ :=
      withdrawHead_rest .r (withdrawHead .l (s.modTcu fun t => { t with state := .paused cause }))
    exact ⟨head, progress, by rw [forSides, hr, hl]; rfl⟩
  · exact ⟨_, _, rfl⟩

theorem pauseTurning_live {cause : PauseCause} {s : State} (h : turningLive s = true) :
    (pauseTurning cause s).tcu.state = .paused cause := by
  obtain ⟨_, _, he⟩ := pauseTurning_rest cause s
  rw [he, if_pos h]

theorem pauseTurning_spindle (cause : PauseCause) (s : State) : (pauseTurning cause s).tcu.spindle = s.tcu.spindle := by
  obtain ⟨_, _, he⟩ := pauseTurning_rest cause s
  rw [he]

/-- A state of a turning that can be paused is no MEASURE_RUN. -/
theorem turningLive_not_measureRun {s : State} (h : turningLive s = true) (left : LeftState) :
    s.tcu.state ≠ .measureRun left := by
  intro hs
  unfold turningLive at h
  rw [hs] at h
  cases h

theorem turningLive_congr {s t : State} (h : t.tcu.state = s.tcu.state) : turningLive t = turningLive s := by
  unfold turningLive
  rw [h]

end Ends

/-! ## The lift at rest -/

section Rest

theorem visitEndIfDue_stays {s : State} (h : visitStays s = true) : visitEndIfDue s = s := by
  unfold visitEndIfDue
  refine if_neg fun hc => ?_
  simp [visitStays, hc.1, hc.2.1] at h

theorem visitEndIfDue_kept (s : State) :
    Kept { pil := true, gbc := true, pmu := true, tpe := true, tcu := true, ahs := true } s (visitEndIfDue s) :=
  kept_visitEndIfDue rfl rfl rfl rfl rfl rfl (.refl _ s)

theorem endVisit_pmu (s : State) :
    (endVisit s).pmu = { s.pmu with record := .both .none, turnedSince := false } := by
  have hkeep : ∀ u : State, (turningForgotten (endSeating true (discardPlan .seat u))).pmu = u.pmu := fun u =>
    (kept_turningForgotten (keep := { tpe := true, tcu := true, ahs := true }) rfl
      (kept_endSeating true rfl (kept_discardPlan .seat rfl rfl (.refl _ u)))).pmu rfl
  unfold endVisit
  rw [hkeep]
  simp only [clearProfiles, State.modPmu_pmu, abandon_pmu, State.modPil_pmu]

theorem turningForgotten_live {s : State} (h : turningInProgress s = true) : turningForgotten s = s := by
  unfold turningForgotten
  split
  · next hs => simp [turningInProgress, turningLive, hs] at h
  · next hs => simp [turningInProgress, turningLive, hs] at h
  · rfl

/-- The end of a visit leaves a turning in progress. -/
theorem endVisit_tcu {s : State} (h : turningInProgress s = true) : (endVisit s).tcu = s.tcu := by
  have hkeep : ∀ u : State, (endSeating true (discardPlan .seat u)).tcu = u.tcu := fun u =>
    (kept_endSeating (keep := { tpe := true, ahs := true }) true rfl
      (kept_discardPlan .seat rfl rfl (.refl _ u))).wholeTcu rfl rfl
  unfold endVisit
  dsimp only
  rw [turningForgotten_live]
  · rw [hkeep]
    exact abandon_tcu _ _
  · refine (turningInProgress_congr ?_).trans h
    rw [hkeep]
    exact congrArg Tcu.state (abandon_tcu _ _)

theorem visitEndIfDue_sweep (s : State) : (visitEndIfDue s).pmu.phase = s.pmu.phase ∧
    (visitEndIfDue s).pmu.lastSweep = s.pmu.lastSweep ∧ (visitEndIfDue s).pmu.head = s.pmu.head := by
  unfold visitEndIfDue
  split
  · rw [endVisit_pmu]
    exact ⟨rfl, rfl, rfl⟩
  · exact ⟨rfl, rfl, rfl⟩

theorem visitEndIfDue_tcu {s : State} (h : turningInProgress s = true) : (visitEndIfDue s).tcu = s.tcu := by
  unfold visitEndIfDue
  split
  · exact endVisit_tcu h
  · rfl

theorem restLift_eq (outcome : LiftOutcome) (s : State) :
    restLift outcome s = visitEndIfDue (liftRested outcome s) := rfl

theorem restLift_stays {outcome : LiftOutcome} {s : State} (h : visitStays s = true) :
    restLift outcome s = liftRested outcome s := by
  rw [restLift_eq]
  exact visitEndIfDue_stays h

theorem restLift_blu (outcome : LiftOutcome) (s : State) : (restLift outcome s).blu = (liftRested outcome s).blu :=
  (visitEndIfDue_kept _).wholeBlu rfl rfl

theorem liftRested_not_moving (outcome : LiftOutcome) (s : State) : liftMoving (liftRested outcome s) = false := by
  unfold liftMoving liftRested
  simp only [State.modBlu_blu]
  split <;> rfl

end Rest

end Sys2Proof.Machine

namespace Sys2Proof.Machine

/-! ## A settled part -/

section Settled

theorem close_noted {before s : State} (h : settled s = true) : close before s = noted before s := close_settled _ _ h

/-- What the link port holds is no part of what settles. -/
theorem settled_modSlp {s : State} (f : Slp → Slp) (h : settled s = true) : settled (s.modSlp f) = true := by
  rw [settled_iff] at h ⊢
  show (reviewAll s).modSlp f = s.modSlp f
  rw [h]

end Settled

/-! ## The silence monitor -/

section Silence

theorem silenceExpiry_report {s : State} (ht : s.slp.silenceTimer.isSome = true)
    (hm : s.sst.active.silenceMode = .report) :
    silenceExpiry s = s.modSlp fun p => { p with silenceTimer := none, silenceFlag := true } := by
  unfold silenceExpiry
  rw [if_pos ht]
  dsimp only [State.modSlp_sst]
  rw [hm]

theorem silenceExpiry_hold {s : State} (ht : s.slp.silenceTimer.isSome = true) (hm : s.sst.active.silenceMode = .hold) :
    silenceExpiry s = holdForSilence (s.modSlp fun p => { p with silenceTimer := none, silenceFlag := true }) := by
  unfold silenceExpiry
  rw [if_pos ht]
  dsimp only [State.modSlp_sst]
  rw [hm]

/-- The lift of a part that is held for silence comes to rest. -/
def silenceRest (s : State) : State := if liftMoving s then restLift .silence s else s

/-- The sweeps of a part that is held for silence end. -/
def silenceEnds (s : State) : State := forSides (referenceFailed .silence) (sweepFail .silence s)

theorem holdForSilence_eq (s : State) :
    holdForSilence s =
      (let t := silenceEnds (silenceRest (s.modSlp fun p => { p with silenceHold := true }))
       if t.tcu.state = .runup ∨ t.tcu.state = .cutting then rundown (pauseTurning .silence t) else t) := rfl

theorem silenceRest_lift (s : State) : liftMoving (silenceRest s) = false ∧
    (liftMoving s = true → (silenceRest s).blu.lastLift = .silence) := by
  unfold silenceRest
  split
  · have hb := restLift_blu .silence s
    refine ⟨?_, fun _ => by rw [hb]; rfl⟩
    unfold liftMoving
    rw [hb]
    exact liftRested_not_moving .silence s
  · next h => exact ⟨by simpa using h, fun hm => absurd hm h⟩

theorem silenceRest_sweep (s : State) : (silenceRest s).pmu.phase = s.pmu.phase := by
  unfold silenceRest
  split
  · exact (visitEndIfDue_sweep _).1
  · rfl

theorem silenceRest_state {s : State} (h : turningInProgress s = true) : (silenceRest s).tcu.state = s.tcu.state := by
  unfold silenceRest
  split
  · rw [restLift_eq, visitEndIfDue_tcu (s := liftRested .silence s) h]
    rfl
  · rfl

theorem silenceEnds_sweep (s : State) : sweepRunning (silenceEnds s) = false ∧ anyReference (silenceEnds s) = false ∧
    (sweepRunning s = true → (silenceEnds s).pmu.lastSweep = .failed .silence) := by
  obtain ⟨hphase, hlast⟩ := referencesFailed_sweep .silence (sweepFail .silence s)
  refine ⟨?_, referencesFailed .silence _, fun hr => hlast.trans (sweepFail_lastSweep hr)⟩
  unfold sweepRunning silenceEnds
  rw [hphase]
  exact sweepFail_not_running .silence s

theorem silenceEnds_state {s : State} (h : turningLive s = true) : (silenceEnds s).tcu.state = s.tcu.state :=
  (headsOnly_forSides (headsOnly_referenceFailed .silence) _).state.trans
    (sweepFail_state (turningLive_not_measureRun h))

/-- What holding for silence leaves (R36, R92, R133, R177). -/
theorem holdForSilence_spec (s : State) :
    liftMoving (holdForSilence s) = false ∧ (liftMoving s = true → (holdForSilence s).blu.lastLift = .silence) ∧
    sweepRunning (holdForSilence s) = false ∧ anyReference (holdForSilence s) = false ∧
    (sweepRunning s = true → (holdForSilence s).pmu.lastSweep = .failed .silence) ∧
    (s.tcu.state = .runup ∨ s.tcu.state = .cutting →
      (holdForSilence s).tcu.state = .paused .silence ∧ spindleRunning (holdForSilence s) = false) := by
  rw [holdForSilence_eq]
  generalize hr : silenceRest (s.modSlp fun p => { p with silenceHold := true }) = r
  obtain ⟨hlift, hlast⟩ := silenceRest_lift (s.modSlp fun p => { p with silenceHold := true })
  have hphase := silenceRest_sweep (s.modSlp fun p => { p with silenceHold := true })
  have hstate : turningInProgress s = true → r.tcu.state = s.tcu.state := fun h => hr ▸ silenceRest_state h
  rw [hr] at hlift hlast hphase
  have hends : (silenceEnds r).blu = r.blu :=
    (kept_forSides (keep := { gbc := true, pmu := true, tpe := true, tcu := true, spindle := true, ahs := true, fmu := true })
      _ (fun side _ => kept_referenceFailed _ side rfl rfl rfl rfl)
      (kept_sweepFail .silence rfl rfl rfl rfl rfl rfl (.refl _ r))).wholeBlu rfl rfl
  obtain ⟨hsweep, href, hfailed⟩ := silenceEnds_sweep r
  have hpause : ∀ u : State, (rundown (pauseTurning .silence u)).blu = u.blu ∧
      (rundown (pauseTurning .silence u)).pmu = u.pmu := fun u =>
    have hk := kept_rundown (keep := { tcu := true, spindle := true }) rfl rfl
      (kept_pauseTurning .silence rfl (.refl _ u))
    ⟨hk.wholeBlu rfl rfl, hk.pmu rfl⟩
  have hrest : ∀ u : State, u.blu = r.blu → u.pmu = (silenceEnds r).pmu →
      liftMoving u = false ∧ (liftMoving s = true → u.blu.lastLift = .silence) ∧ sweepRunning u = false ∧
      anyReference u = false ∧ (sweepRunning s = true → u.pmu.lastSweep = .failed .silence) := fun u hu hp => by
    refine ⟨?_, fun hm => ?_, ?_, ?_, fun hs => ?_⟩
    · unfold liftMoving; rw [hu]; exact hlift
    · rw [hu]; exact hlast hm
    · unfold sweepRunning; rw [hp]; exact hsweep
    · unfold anyReference referenceRunning; rw [hp]; exact href
    · rw [hp]
      refine hfailed ?_
      unfold sweepRunning
      rw [hphase]
      exact hs
  dsimp only
  split
  · next hst =>
    obtain ⟨h1, h2, h3, h4, h5⟩ := hrest _ ((hpause _).1.trans hends) (hpause _).2
    refine ⟨h1, h2, h3, h4, h5, fun _ => ⟨?_, rundown_not_running _⟩⟩
    rw [(rundown_rest _).1]
    refine pauseTurning_live ?_
    unfold turningLive
    rcases hst with hst | hst <;> rw [hst]
  · next hst =>
    obtain ⟨h1, h2, h3, h4, h5⟩ := hrest _ hends rfl
    refine ⟨h1, h2, h3, h4, h5, fun hs => absurd ?_ hst⟩
    have hlive : turningLive s = true := by
      unfold turningLive
      rcases hs with hs | hs <;> rw [hs]
    have hr := hstate (turningLive_inProgress hlive)
    rw [silenceEnds_state ((turningLive_congr hr).trans hlive), hr]
    exact hs

theorem kept_ite {keep : Blocks} {base t u : State} {c : Prop} [Decidable c] (ht : Kept keep base t)
    (hu : Kept keep base u) : Kept keep base (if c then t else u) := by
  split
  · exact ht
  · exact hu

/-- What holding for silence may touch: not the bridges, the clamps, the slots, the settings or the link port. -/
abbrev silenceTouches : Blocks :=
  { pil := true, lift := true, fmu := true, gbc := true, pmu := true, tpe := true, tcu := true, spindle := true, ahs := true }

/-- Of the link port, holding for silence changes the hold alone. -/
theorem holdForSilence_kept (s : State) :
    Kept silenceTouches (s.modSlp fun p => { p with silenceHold := true }) (holdForSilence s) := by
  rw [holdForSilence_eq]
  generalize (s.modSlp fun p => { p with silenceHold := true }) = u
  have hrest : Kept silenceTouches u (silenceRest u) :=
    kept_ite (kept_restLift .silence rfl rfl rfl rfl rfl rfl rfl (.refl _ u)) (.refl _ u)
  have hends := kept_forSides (referenceFailed .silence) (fun side _ => kept_referenceFailed _ side rfl rfl rfl rfl)
    (kept_sweepFail .silence rfl rfl rfl rfl rfl rfl hrest)
  exact kept_ite (kept_rundown rfl rfl (kept_pauseTurning .silence rfl hends)) hends

/-- Settles O55: the expiry by its two modes, the hold by what each of its four parts leaves. -/
theorem silenceExpires : Obligations.SilenceExpires := by
  unfold Obligations.SilenceExpires
  refine fun s ht => ⟨fun hm hs => ?_, fun hm => ⟨_, exec_next .silenceTimerExpiry s, ?_⟩⟩
  · rw [exec_next]
    show Host.Outcome.next (close s (silenceExpiry s)) = _
    rw [silenceExpiry_report ht hm, close_noted (settled_modSlp _ hs)]
    rfl
  · have he : effectOf .silenceTimerExpiry s = silenceExpiry s := rfl
    rw [he, silenceExpiry_hold ht hm]
    obtain ⟨h1, h2, h3, h4, h5, h6⟩ := holdForSilence_spec (s.modSlp fun p =>
      { p with silenceTimer := none, silenceFlag := true })
    have hk := holdForSilence_kept (s.modSlp fun p => { p with silenceTimer := none, silenceFlag := true })
    simp only [liftMoving, sweepRunning, anyReference, referenceRunning, spindleRunning, close_slp, close_pil, close_blu,
      close_pmu, close_tcu, close_sst, close_ahs, hk.slp rfl] at h1 h2 h3 h4 h5 h6 ⊢
    exact ⟨rfl, rfl, rfl, h1, h2, h3, h4, h5, h6, hk.bridge rfl, hk.clamp rfl, hk.sst rfl, hk.slots rfl⟩

end Silence

end Sys2Proof.Machine

namespace Sys2Proof.Machine

/-! ## Requests and presses, answered -/

section Requests

/-- A request that may be dispatched, answered with a result code alone. -/
theorem answer_say {kind tag : Byte} {handler : State → Answer} {s t : State} {code : Code}
    (hd : canDispatch s = true) (hh : handler s = say code t) :
    answer kind tag handler s = repliedCode (kind + 0x80#8) tag code t := by
  unfold answer
  rw [if_pos hd, hh]
  rfl

/-- A request that is answered with a result code alone, as a command; `k` is the KIND of its reply. -/
theorem exec_say {i : Instr} (kind : Byte) {k tag : Byte} {handler : State → Answer} {s t : State} {code : Code}
    (he : effectOf i = answer kind tag handler) (hk : kind + 0x80#8 = k) (hd : canDispatch s = true)
    (hh : handler s = say code t) : exec i s = .next (close s (repliedCode k tag code t)) := by
  rw [exec_next, he, answer_say hd hh, hk]

/-- The reply slot is no part of the report. -/
theorem close_repliedCode {kind tag : Byte} {code : Code} {s : State} (h : settled s = true) :
    close s (repliedCode kind tag code s) = repliedCode kind tag code s :=
  close_settled_same _ _ (settled_modSlp _ h) rfl

/-- A request that changes nothing. -/
theorem exec_say_same {i : Instr} (kind : Byte) {k tag : Byte} {handler : State → Answer} {s : State} {code : Code}
    (he : effectOf i = answer kind tag handler) (hk : kind + 0x80#8 = k) (hs : settled s = true)
    (hd : canDispatch s = true) (hh : handler s = say code s) : exec i s = .next (repliedCode k tag code s) := by
  rw [exec_say kind he hk hd hh, close_repliedCode hs]

theorem press_say {handler : State → Answer} {s t : State} {code : Code} (hr : s.slp.resetPending = false)
    (hh : handler s = say code t) : press handler s = t := by
  unfold press
  rw [if_neg (by simp [hr]), hh]
  rfl

theorem close_self {s : State} (h : settled s = true) : close s s = s := close_settled_same _ _ h rfl

theorem ready_iff {s : State} : ready s = true ↔ settled s = true ∧ canDispatch s = true := by
  simp [ready]

theorem acceptedOr_decide (p : Prop) [Decidable p] : acceptedOr (decide p) = if p then Code.clamped else Code.accepted := by
  simp [acceptedOr]

theorem okOr_decide (p : Prop) [Decidable p] : okOr (decide p) = if p then Code.clamped else Code.ok := by
  simp [okOr]

theorem strokeStart_untripped {m : MonitorId} {s : State} (h : (s.fmu.monitors.get m).state ≠ .tripped) :
    strokeStart m s = s := if_neg h

theorem noneTripped_iff {ms : List MonitorId} {s : State} :
    noneTripped ms s = true ↔ ∀ m ∈ ms, (s.fmu.monitors.get m).state ≠ .tripped := by
  simp [noneTripped]

theorem liftStroke_untripped {s : State} (h : noneTripped [.m1, .m2, .m3, .m4, .m5] s = true) : liftStroke s = s := by
  rw [noneTripped_iff] at h
  unfold liftStroke
  rw [strokeStart_untripped (h .m1 (by simp)), strokeStart_untripped (h .m2 (by simp)),
    strokeStart_untripped (h .m3 (by simp)), strokeStart_untripped (h .m4 (by simp)),
    strokeStart_untripped (h .m5 (by simp))]

end Requests

/-! ## The moves of the lift -/

section Lift

theorem sweepRunning_idle {s : State} (h : s.pmu.phase = .idle) : sweepRunning s = false := by
  simp [sweepRunning, h]

/-- A move from rest, with no sweep to end and no monitor that waits for its stroke. -/
theorem moveLift_rest {lift : LiftState} {kind : MoveKind} {target : Nat} {s : State} (hm : liftMoving s = false)
    (hp : s.pmu.phase = .idle) (ht : noneTripped [.m1, .m2, .m3, .m4, .m5] s = true) :
    moveLift lift kind target s = liftStarted lift kind target s := by
  unfold moveLift
  dsimp only
  rw [if_neg (by simp [hm]), supportLost_idle (sweepRunning_idle (s := s.modBlu _) hp)]
  exact liftStroke_untripped ht

/-- A move that redirects another. -/
theorem moveLift_moving {lift : LiftState} {kind : MoveKind} {target : Nat} {s : State} (hm : liftMoving s = true) :
    moveLift lift kind target s = liftStarted lift kind target s := if_pos hm

theorem liftTo_up {height : Nat} {clamped : Bool} {s : State} (h : mean s + 200 < height) :
    liftTo height clamped s = say (acceptedOr clamped) (moveLift .rising .target height s) := if_pos h

theorem liftTo_down {height : Nat} {clamped : Bool} {s : State} (h : height + 200 < mean s) :
    liftTo height clamped s = say (acceptedOr clamped) (moveLift .lowering .target height s) := by
  have hn : ¬ mean s + Config.arrivalWindow < height := fun hc => by
    have : mean s + 200 < height := hc
    omega
  exact (if_neg hn).trans (if_pos h)

theorem liftTo_there {height : Nat} {clamped : Bool} {s : State} (h : height ≤ mean s + 200) (h' : mean s ≤ height + 200) :
    liftTo height clamped s = say (okOr clamped) (liftThere height s) :=
  (if_neg (Nat.not_lt.2 h)).trans (if_neg (Nat.not_lt.2 h'))

theorem liftRequest_taken {height : Nat} {s : State} (hr : liftRefusal .link s = none) :
    liftRequest height s = liftTo (min height 250000) (decide (250000 < height)) s := by
  unfold liftRequest
  rw [hr]
  rfl

theorem lowerRequest_home {s : State} (hr : liftRefusal .link s = none) : lowerRequest 0 s = lowerHome s := by
  unfold lowerRequest
  rw [hr]
  rfl

theorem lowerRequest_down {height : Nat} {s : State} (hr : liftRefusal .link s = none) (h0 : 0 < height)
    (h : min height 250000 + 200 < mean s) :
    lowerRequest height s =
      say (acceptedOr (decide (250000 < height))) (moveLift .lowering .target (min height 250000) s) := by
  unfold lowerRequest
  rw [hr]
  dsimp only
  have hn : ¬ mean s + Config.arrivalWindow < min height Config.postTravel := fun hc => by
    have : mean s + 200 < min height 250000 := hc
    omega
  rw [if_neg (by omega), if_neg hn]
  exact liftTo_down h

theorem lowerHome_moves {s : State} (h : allHome s = false ∨ liftMoving s = true) :
    lowerHome s = say .accepted (moveLift .lowering .home 0 s) := by
  unfold lowerHome
  exact if_neg (by rcases h with h | h <;> simp [h])

theorem takeLoadRequest_moves {s : State} (hr : liftRefusal .link s = none) (hb : allBearing s = false) :
    takeLoadRequest s = say .accepted (moveLift .rising .load 250000 s) := by
  unfold takeLoadRequest
  rw [hr]
  exact if_neg (by simp [hb])

theorem takeLoadRequest_there {s : State} (hr : liftRefusal .link s = none) (hb : allBearing s = true) :
    takeLoadRequest s = say .ok (if liftMoving s then restLift .loaded s else s) := by
  unfold takeLoadRequest
  rw [hr]
  exact if_pos hb

theorem jog_moves {button : JogButton} {s : State} (hr : liftRefusal .pendant s = none) (hj : jogging s = false) :
    jog button s = say .accepted (match button with
      | .up => moveLift .rising .jog 250000 s
      | .down => moveLift .lowering .jog 0 s) := by
  unfold jog
  rw [hr]
  dsimp only
  rw [if_neg (by simp [hj])]
  cases button <;> rfl

/-- The lift's target is no part of what settles. -/
theorem settled_target {s : State} (n : Nat) (h : settled s = true) :
    settled (s.modBlu fun b => { b with target := n }) = true := by
  rw [settled_iff] at h ⊢
  show (reviewAll s).modBlu (fun b => { b with target := n }) = s.modBlu fun b => { b with target := n }
  rw [h]

theorem jogRelease_eq (button : JogButton) (s : State) :
    jogRelease button s =
      if s.blu.kind = some .jog ∧ s.blu.lift = (match button with | .up => .rising | .down => .lowering) then
        restLift .jogEnded s
      else s := by
  cases button <;> simp [jogRelease, jogging]

theorem haltLiftRequest_halted {s : State} (h : s.blu.lift = .halted) : haltLiftRequest s = say .faulted s := if_pos h

theorem haltLiftRequest_taken {s : State} (h : s.blu.lift ≠ .halted) :
    haltLiftRequest s = say .ok (if liftMoving s then restLift .haltRequest s else s) := if_neg h

theorem liftMoving_not_halted {s : State} (h : liftMoving s = true) : s.blu.lift ≠ .halted := by
  intro hl
  simp [liftMoving, hl] at h

/-- From rest, every request that the height calls for starts its move (R25 to R27). -/
theorem lift_starts {s : State} (hm : liftMoving s = false) (hp : s.pmu.phase = .idle)
    (ht : noneTripped [.m1, .m2, .m3, .m4, .m5] s = true) (hd : canDispatch s = true)
    (hr : liftRefusal .link s = none) (tag : Byte) (height : Nat) :
    (mean s + 200 < min height 250000 →
      exec (.lift tag height) s =
        .next (close s (repliedCode 0x90#8 tag (if 250000 < height then .clamped else .accepted)
          (liftStarted .rising .target (min height 250000) s)))) ∧
    (min height 250000 + 200 < mean s →
      exec (.lift tag height) s =
        .next (close s (repliedCode 0x90#8 tag (if 250000 < height then .clamped else .accepted)
          (liftStarted .lowering .target (min height 250000) s)))) ∧
    (0 < height → min height 250000 + 200 < mean s →
      exec (.lower tag height) s =
        .next (close s (repliedCode 0x92#8 tag (if 250000 < height then .clamped else .accepted)
          (liftStarted .lowering .target (min height 250000) s)))) ∧
    (allHome s = false →
      exec (.lower tag 0) s = .next (close s (repliedCode 0x92#8 tag .accepted (liftStarted .lowering .home 0 s)))) ∧
    (allBearing s = false →
      exec (.takeLoad tag) s =
        .next (close s (repliedCode 0x91#8 tag .accepted (liftStarted .rising .load 250000 s)))) := by
  rw [← acceptedOr_decide, ← moveLift_rest hm hp ht, ← moveLift_rest hm hp ht, ← moveLift_rest hm hp ht,
    ← moveLift_rest hm hp ht]
  exact ⟨fun h => exec_say 0x10#8 rfl rfl hd ((liftRequest_taken hr).trans (liftTo_up h)),
    fun h => exec_say 0x10#8 rfl rfl hd ((liftRequest_taken hr).trans (liftTo_down h)),
    fun h0 h => exec_say 0x12#8 rfl rfl hd (lowerRequest_down hr h0 h),
    fun h => exec_say 0x12#8 rfl rfl hd ((lowerRequest_home hr).trans (lowerHome_moves (.inl h))),
    fun h => exec_say 0x11#8 rfl rfl hd (takeLoadRequest_moves hr h)⟩

/-- In motion, a request redirects the move (R28), or, where the lift is there, brings it to rest (R25, R27). -/
theorem lift_redirected {s : State} (hm : liftMoving s = true) (hd : canDispatch s = true)
    (hr : liftRefusal .link s = none) (tag : Byte) (height : Nat) :
    (mean s + 200 < min height 250000 →
      exec (.lift tag height) s =
        .next (close s (repliedCode 0x90#8 tag (if 250000 < height then .clamped else .accepted)
          (liftStarted .rising .target (min height 250000) s)))) ∧
    (min height 250000 + 200 < mean s →
      exec (.lift tag height) s =
        .next (close s (repliedCode 0x90#8 tag (if 250000 < height then .clamped else .accepted)
          (liftStarted .lowering .target (min height 250000) s)))) ∧
    (0 < height → min height 250000 + 200 < mean s →
      exec (.lower tag height) s =
        .next (close s (repliedCode 0x92#8 tag (if 250000 < height then .clamped else .accepted)
          (liftStarted .lowering .target (min height 250000) s)))) ∧
    exec (.lower tag 0) s = .next (close s (repliedCode 0x92#8 tag .accepted (liftStarted .lowering .home 0 s))) ∧
    (min height 250000 ≤ mean s + 200 → mean s ≤ min height 250000 + 200 → visitStays s = true →
      exec (.lift tag height) s =
        .next (close s (repliedCode 0x90#8 tag (if 250000 < height then .clamped else .ok) (liftRested .arrived s)))) ∧
    (allBearing s = false →
      exec (.takeLoad tag) s =
        .next (close s (repliedCode 0x91#8 tag .accepted (liftStarted .rising .load 250000 s)))) ∧
    (allBearing s = true → visitStays s = true →
      exec (.takeLoad tag) s = .next (close s (repliedCode 0x91#8 tag .ok (liftRested .loaded s)))) := by
  rw [← acceptedOr_decide, ← okOr_decide, ← moveLift_moving hm, ← moveLift_moving hm, ← moveLift_moving hm,
    ← moveLift_moving hm]
  refine ⟨fun h => exec_say 0x10#8 rfl rfl hd ((liftRequest_taken hr).trans (liftTo_up h)),
    fun h => exec_say 0x10#8 rfl rfl hd ((liftRequest_taken hr).trans (liftTo_down h)),
    fun h0 h => exec_say 0x12#8 rfl rfl hd (lowerRequest_down hr h0 h),
    exec_say 0x12#8 rfl rfl hd ((lowerRequest_home hr).trans (lowerHome_moves (.inr hm))), fun h h' hv => ?_,
    fun h => exec_say 0x11#8 rfl rfl hd (takeLoadRequest_moves hr h), fun h hv => ?_⟩
  · rw [← restLift_stays hv]
    exact exec_say 0x10#8 rfl rfl hd ((liftRequest_taken hr).trans ((liftTo_there h h').trans (congrArg _ (if_pos hm))))
  · rw [← restLift_stays hv]
    exact exec_say 0x11#8 rfl rfl hd ((takeLoadRequest_there hr h).trans (congrArg _ (if_pos hm)))

/-- At rest a LIFT that is there takes the target alone, and TAKE_LOAD with the load on changes nothing. -/
theorem lift_stays {s : State} (hm : liftMoving s = false) (hs : settled s = true) (hd : canDispatch s = true)
    (hr : liftRefusal .link s = none) (tag : Byte) (height : Nat) :
    (min height 250000 ≤ mean s + 200 → mean s ≤ min height 250000 + 200 →
      exec (.lift tag height) s =
        .next (noted s (repliedCode 0x90#8 tag (if 250000 < height then .clamped else .ok)
          (s.modBlu fun b => { b with target := min height 250000 })))) ∧
    (allBearing s = true → exec (.takeLoad tag) s = .next (repliedCode 0x91#8 tag .ok s)) := by
  have hno : ¬ liftMoving s = true := by simp [hm]
  refine ⟨fun h h' => ?_, fun h => ?_⟩
  · have hn : noted s (repliedCode 0x90#8 tag (okOr (decide (250000 < height)))
        (s.modBlu fun b => { b with target := min height 250000 })) = _ :=
      (close_noted (settled_modSlp _ (settled_target _ hs))).symm
    rw [← okOr_decide, hn]
    exact exec_say 0x10#8 rfl rfl hd ((liftRequest_taken hr).trans ((liftTo_there h h').trans (congrArg _ (if_neg hno))))
  · exact exec_say_same 0x11#8 rfl rfl hs hd ((takeLoadRequest_there hr h).trans (congrArg _ (if_neg hno)))

/-- HALT_LIFT by the state of the lift (R23, R29). -/
theorem lift_halts {s : State} (hs : settled s = true) (hv : visitStays s = true) (hd : canDispatch s = true)
    (tag : Byte) :
    (s.blu.lift = .halted → exec (.haltLift tag) s = .next (repliedCode 0x93#8 tag .faulted s)) ∧
    (s.blu.lift = .lowered ∨ s.blu.lift = .holding →
      exec (.haltLift tag) s = .next (repliedCode 0x93#8 tag .ok s)) ∧
    (liftMoving s = true →
      exec (.haltLift tag) s = .next (close s (repliedCode 0x93#8 tag .ok (liftRested .haltRequest s)))) := by
  refine ⟨fun h => exec_say_same 0x13#8 rfl rfl hs hd (haltLiftRequest_halted h), fun h => ?_, fun h => ?_⟩
  · have hno : ¬ liftMoving s = true := by rcases h with h | h <;> simp [liftMoving, h]
    have hne : s.blu.lift ≠ .halted := by rcases h with h | h <;> simp [h]
    exact exec_say_same 0x13#8 rfl rfl hs hd ((haltLiftRequest_taken hne).trans (congrArg _ (if_neg hno)))
  · rw [← restLift_stays hv]
    exact exec_say 0x13#8 rfl rfl hd ((haltLiftRequest_taken (liftMoving_not_halted h)).trans (congrArg _ (if_pos h)))

/-- A press of a jog button from rest (R30). -/
theorem lift_jogs {s : State} (hm : liftMoving s = false) (hp : s.pmu.phase = .idle)
    (ht : noneTripped [.m1, .m2, .m3, .m4, .m5] s = true) (hreset : s.slp.resetPending = false)
    (hr : liftRefusal .pendant s = none) (hj : jogging s = false) :
    exec .pendantJogUp s = .next (close s (liftStarted .rising .jog 250000 s)) ∧
    exec .pendantJogDown s = .next (close s (liftStarted .lowering .jog 0 s)) := by
  have hup : press (jog .up) s = liftStarted .rising .jog 250000 s :=
    (press_say hreset (jog_moves hr hj)).trans (moveLift_rest hm hp ht)
  have hdown : press (jog .down) s = liftStarted .lowering .jog 0 s :=
    (press_say hreset (jog_moves hr hj)).trans (moveLift_rest hm hp ht)
  rw [exec_next, exec_next, ← hup, ← hdown]
  exact ⟨rfl, rfl⟩

/-- The release of a jog button (R30). -/
theorem lift_released {s : State} (hs : settled s = true) (hv : visitStays s = true) (button : JogButton) :
    exec (.pendantJogRelease button) s =
      .next (if s.blu.kind = some .jog ∧ s.blu.lift = (match button with | .up => .rising | .down => .lowering) then
          close s (liftRested .jogEnded s)
        else s) := by
  have he : effectOf (.pendantJogRelease button) s = jogRelease button s := rfl
  rw [exec_next, he, jogRelease_eq, restLift_stays hv, apply_ite (close s), close_self hs]

/-- Settles O19: the moves from rest, those in motion, and what ends a move. -/
theorem liftMoves : Obligations.LiftMoves := by
  unfold Obligations.LiftMoves
  exact ⟨⟨fun s hs hm hp ht => ⟨lift_starts hm hp ht, lift_jogs hm hp ht⟩,
    fun tag height s hs hr => ⟨fun hm => lift_redirected hm (ready_iff.1 hs).2 hr tag height,
      fun hm => lift_stays hm (ready_iff.1 hs).1 (ready_iff.1 hs).2 hr tag height⟩⟩,
    fun s hs hv => ⟨lift_halts hs hv, lift_released hs hv⟩⟩

end Lift

end Sys2Proof.Machine

namespace Sys2Proof.Machine

/-! ## A head that withdraws from its pass (R132) -/

section Withdrawal

theorem setPass_head (side : Side) (status : PassStatus) (s : State) : (setPass side status s).tcu.head = s.tcu.head := by
  obtain ⟨_, h⟩ := setPass_rest side status s
  rw [h]

theorem breakPass_head (side : Side) (s : State) : (breakPass side s).tcu.head = s.tcu.head := by
  obtain ⟨_, h⟩ := breakPass_rest side s
  rw [h]

theorem passStatuses_congr {side : Side} {s t : State} (h : t.tcu.progress = s.tcu.progress) :
    passStatuses side t = passStatuses side s := by
  unfold passStatuses
  rw [h]

theorem passStatus_congr {side : Side} {s t : State}
    (hi : (t.tcu.head.get side).passIndex = (s.tcu.head.get side).passIndex)
    (hp : passStatuses side t = passStatuses side s) : passStatus side t = passStatus side s := by
  unfold passStatus
  rw [hi, hp]

theorem setPass_statuses {side : Side} {status : PassStatus} {s : State} {i : Nat}
    (hi : (s.tcu.head.get side).passIndex = some i) :
    passStatuses side (setPass side status s) = (passStatuses side s).set (i - 1) status := by
  unfold setPass passStatuses
  rw [hi]
  cases h : s.tcu.progress with
  | none => simp [h]
  | some p => simp [h]

theorem setPass_statuses_other (side : Side) (status : PassStatus) (s : State) :
    passStatuses side.other (setPass side status s) = passStatuses side.other s := by
  unfold setPass passStatuses
  cases (s.tcu.head.get side).passIndex with
  | none => rfl
  | some i =>
    cases h : s.tcu.progress with
    | none => simp [h]
    | some p => simp [h, Sides.get_other_set]

theorem breakPass_status {side : Side} {s : State} (h : passStatus side s = some .active) :
    passStatus side (breakPass side s) = some .incomplete := by
  unfold breakPass
  rw [if_pos h]
  unfold passStatus at h ⊢
  rw [setPass_head]
  cases hi : (s.tcu.head.get side).passIndex with
  | none => rw [hi] at h; cases h
  | some i =>
    rw [hi] at h
    dsimp only at h ⊢
    rw [setPass_statuses hi, List.getElem?_set_self]
    exact (List.getElem?_eq_some_iff.1 h).1

theorem breakPass_statuses_other (side : Side) (s : State) :
    passStatuses side.other (breakPass side s) = passStatuses side.other s := by
  unfold breakPass
  split
  · exact setPass_statuses_other side _ s
  · rfl

/-- What the head of a side is, and the status of its pass. -/
abbrev SameHead (side : Side) (s t : State) : Prop :=
  t.tcu.head.get side = s.tcu.head.get side ∧ passStatus side t = passStatus side s

theorem sameHead_of_tcu {side : Side} {s t : State} (hh : t.tcu.head = s.tcu.head)
    (hp : t.tcu.progress = s.tcu.progress) : SameHead side s t :=
  ⟨by rw [hh], passStatus_congr (by rw [hh]) (passStatuses_congr hp)⟩

theorem withdrawHead_other (side : Side) (s : State) : SameHead side.other s (withdrawHead side s) := by
  unfold withdrawHead
  dsimp only
  split
  · have hh : (modHead side (·.moveTo .retracted) (breakPass side s)).tcu.head.get side.other = s.tcu.head.get side.other := by
      show ((breakPass side s).tcu.head.set _ side).get side.other = _
      rw [Sides.get_other_set, breakPass_head]
    exact ⟨hh, passStatus_congr (by rw [hh]) (breakPass_statuses_other side s)⟩
  · exact ⟨rfl, rfl⟩

theorem withdrawHead_withdraws (side : Side) (s : State) : HeadWithdraws side s (withdrawHead side s) := by
  unfold HeadWithdraws withdrawHead
  dsimp only
  split
  · refine ⟨?_, fun ha => ?_⟩
    · show ((breakPass side s).tcu.head.set (((breakPass side s).tcu.head.get side).moveTo .retracted) side).get side = _
      rw [Sides.get_set_same, breakPass_head]
    · have hindex : ((modHead side (·.moveTo .retracted) (breakPass side s)).tcu.head.get side).passIndex =
          ((breakPass side s).tcu.head.get side).passIndex := by
        show (((breakPass side s).tcu.head.set (((breakPass side s).tcu.head.get side).moveTo .retracted) side).get side).passIndex = _
        rw [Sides.get_set_same]
        rfl
      exact (passStatus_congr (t := modHead side (·.moveTo .retracted) (breakPass side s)) hindex rfl).trans
        (breakPass_status ha)
  · rfl

theorem HeadWithdraws.congr {side : Side} {s s' t t' : State} (h : HeadWithdraws side s t) (hs : SameHead side s' s)
    (ht : SameHead side t t') : HeadWithdraws side s' t' := by
  unfold HeadWithdraws at h ⊢
  rw [hs.1, hs.2] at h
  rw [ht.1, ht.2]
  exact h

/-- Both heads of a paused turning withdraw. -/
theorem pauseTurning_withdraws {cause : PauseCause} {s : State} (h : turningLive s = true) (side : Side) :
    HeadWithdraws side s (pauseTurning cause s) := by
  unfold pauseTurning
  rw [if_pos h]
  generalize hu : (s.modTcu fun t => { t with state := .paused cause }) = u
  have hsame : ∀ side, SameHead side s u := fun side => hu ▸ ⟨rfl, rfl⟩
  cases side with
  | l => exact (withdrawHead_withdraws .l u).congr (hsame .l) (withdrawHead_other .r _)
  | r =>
    refine (withdrawHead_withdraws .r (withdrawHead .l u)).congr ?_ ⟨rfl, rfl⟩
    obtain ⟨hhead, hstatus⟩ := withdrawHead_other .l u
    exact ⟨hhead.trans (hsame .r).1, hstatus.trans (hsame .r).2⟩

end Withdrawal

/-! ## A post that leaves BEARING (R37, R92) -/

section Lost

/-- What takes the spindle's support does to the spindle (R37). -/
theorem spindleUnsupported_spindle (cause : PauseCause) (s : State) :
    (spindleRunning s = true →
      (spindleUnsupported cause s).tcu.spindle = .rundown ∧ (spindleUnsupported cause s).tcu.stopTimer = some 2000 ∧
      (spindleUnsupported cause s).tcu.measuring = false) ∧
    (spindleRunning s = false → spindleUnsupported cause s = s) := by
  unfold spindleUnsupported
  refine ⟨fun h => ?_, fun h => by simp [h]⟩
  rw [if_pos h]
  obtain ⟨hf, -⟩ := finishRun_finished (rundown (pauseTurning cause s))
  have hrun : spindleRunning (pauseTurning cause s) = true := by
    rw [spindleRunning_congr (pauseTurning_spindle cause s)]
    exact h
  refine ⟨?_, ?_, hf.measuring⟩
  · rw [hf.spindle, rundown_spindle, if_pos hrun]
    split <;> rfl
  · rw [hf.stopTimer, rundown_not_running, rundown_stopTimer, if_pos hrun]
    simp

theorem spindleUnsupported_pmu (cause : PauseCause) (s : State) : (spindleUnsupported cause s).pmu = s.pmu :=
  (kept_spindleUnsupported (keep := { tcu := true, spindle := true }) cause rfl rfl (.refl _ s)).pmu rfl

theorem spindleUnsupported_paused {cause : PauseCause} {s : State} (hr : spindleRunning s = true)
    (hl : turningLive s = true) :
    (spindleUnsupported cause s).tcu.state = .paused cause ∧
    ∀ side, HeadWithdraws side s (spindleUnsupported cause s) := by
  unfold spindleUnsupported
  rw [if_pos hr]
  obtain ⟨hf, hhead⟩ := finishRun_finished (rundown (pauseTurning cause s))
  obtain ⟨hstate, -, hrhead, hprogress⟩ := rundown_rest (pauseTurning cause s)
  have hpaused : (rundown (pauseTurning cause s)).tcu.state = .paused cause := hstate.trans (pauseTurning_live hl)
  refine ⟨(hf.state fun left => by rw [hpaused]; simp).trans hpaused, fun side => ?_⟩
  exact (pauseTurning_withdraws hl side).congr ⟨rfl, rfl⟩
    (sameHead_of_tcu (hhead.trans hrhead) (hf.progress.trans hprogress))

theorem spindleUnsupported_measuring {cause : PauseCause} {s : State} (h : s.tcu.measuring = false) :
    (spindleUnsupported cause s).tcu.measuring = false := by
  by_cases hr : spindleRunning s = true
  · exact ((spindleUnsupported_spindle cause s).1 hr).2.2
  · rw [(spindleUnsupported_spindle cause s).2 (by simpa using hr)]
    exact h

theorem sweepRunning_iff {s : State} : sweepRunning s = true ↔ s.pmu.phase ≠ .idle := by simp [sweepRunning]

/-- With no sweep and a spindle that does not run, nothing is lost. -/
theorem bearingLost_quiet {s : State} (hp : s.pmu.phase = .idle) (hr : spindleRunning s = false) : bearingLost s = s := by
  unfold bearingLost
  rw [supportLost_idle (sweepRunning_idle hp)]
  exact (spindleUnsupported_spindle .load s).2 hr

/-- What a post that leaves BEARING leaves: first the sweep ends, then the spindle loses its support. -/
theorem bearingLost_spec (s : State) : LoadLost s (bearingLost s) := by
  unfold LoadLost bearingLost
  by_cases hsweep : sweepRunning s = true
  · have hend : RunFinished s (supportLost s) := sweepFail_finished hsweep
    obtain ⟨hphase, hlast, -, hrecord⟩ := sweepFail_pmu (reason := .support) hsweep
    have hpmu := spindleUnsupported_pmu .load (supportLost s)
    refine ⟨fun hr => ?_, fun hr => ?_, fun _ => ?_, fun hp => absurd hp (sweepRunning_iff.1 hsweep)⟩
    · by_cases hstill : spindleRunning (supportLost s) = true
      · exact (spindleUnsupported_spindle .load _).1 hstill
      · rw [(spindleUnsupported_spindle .load _).2 (by simpa using hstill)]
        have hm : s.tcu.measuring = true := by
          by_contra hm
          refine hstill ?_
          rw [spindleRunning_congr (s := s) (hend.spindle.trans (by simp [hm]))]
          exact hr
        exact ⟨by rw [hend.spindle]; simp [hm, hr], by rw [hend.stopTimer]; simp [hm, hr], hend.measuring⟩
    · have hcalm : spindleRunning (supportLost s) = false := calm_supportLost hr
      rw [(spindleUnsupported_spindle .load _).2 hcalm, hend.spindle, hend.stopTimer]
      simp [hr]
    · rw [hpmu]
      exact ⟨hphase, hlast, spindleUnsupported_measuring hend.measuring, hrecord⟩
  · have hidle : sweepRunning s = false := by simpa using hsweep
    rw [supportLost_idle hidle]
    obtain ⟨hspindle, hcalm⟩ := spindleUnsupported_spindle .load s
    refine ⟨hspindle, fun hr => ?_, fun hp => absurd (sweepRunning_iff.2 hp) hsweep, fun _ hr hl =>
      spindleUnsupported_paused hr hl⟩
    rw [hcalm hr]
    exact ⟨rfl, rfl⟩

theorem LoadLost.congr {s s' t t' : State} (h : LoadLost s t) (hs : s'.tcu = s.tcu) (hsp : s'.pmu = s.pmu)
    (ht : t'.tcu = t.tcu) (htp : t'.pmu = t.pmu) : LoadLost s' t' := by
  have hrun : spindleRunning s' = spindleRunning s := spindleRunning_congr (congrArg Tcu.spindle hs)
  have hlive : turningLive s' = turningLive s := turningLive_congr (congrArg Tcu.state hs)
  have hswept : ∀ side, swept side s' = swept side s := fun side => by unfold swept; rw [hsp]
  obtain ⟨h1, h2, h3, h4⟩ := h
  unfold LoadLost
  rw [hrun, hlive, hsp, ht, htp]
  refine ⟨h1, fun hr => ?_, fun hp => ?_, fun hp hr hl => ?_⟩
  · rw [hs]
    exact h2 hr
  · simpa only [hswept] using h3 hp
  · obtain ⟨hstate, hheads⟩ := h4 hp hr hl
    exact ⟨hstate, fun side => (hheads side).congr (sameHead_of_tcu (congrArg Tcu.head hs.symm) (congrArg Tcu.progress hs.symm))
      (sameHead_of_tcu (congrArg Tcu.head ht) (congrArg Tcu.progress ht))⟩

end Lost

end Sys2Proof.Machine

namespace Sys2Proof.Machine

/-! ## Loads and zones -/

section Zones

theorem postLoad_eq (x : Nat) : postLoad x = min x 30000 := by
  unfold postLoad saturate
  split
  · next h => exact (Nat.min_eq_left h).symm
  · next h => exact (Nat.min_eq_right (Nat.le_of_not_le h)).symm

theorem Four.get_map {α β : Type} (f : α → β) (v : Four α) (p : Post) : (v.map f).get p = f (v.get p) := by
  cases p <;> rfl

theorem Four.get_zipWith {α β γ : Type} (f : α → β → γ) (v : Four α) (w : Four β) (p : Post) :
    (v.zipWith f w).get p = f (v.get p) (w.get p) := by
  cases p <;> rfl

theorem Four.all_iff {α : Type} {f : α → Bool} {v : Four α} : v.all f = true ↔ ∀ p, f (v.get p) = true := by
  simp only [Four.all, Bool.and_eq_true]
  exact ⟨fun ⟨⟨⟨h1, h2⟩, h3⟩, h4⟩ p => (by cases p <;> assumption), fun h => ⟨⟨⟨h .p1, h .p2⟩, h .p3⟩, h .p4⟩⟩

theorem Four.any_iff {α : Type} {f : α → Bool} {v : Four α} : v.any f = true ↔ ∃ p, f (v.get p) = true := by
  simp only [Four.any, Bool.or_eq_true]
  constructor
  · rintro (((h | h) | h) | h)
    · exact ⟨.p1, h⟩
    · exact ⟨.p2, h⟩
    · exact ⟨.p3, h⟩
    · exact ⟨.p4, h⟩
  · rintro ⟨p, h⟩
    cases p
    · exact .inl (.inl (.inl h))
    · exact .inl (.inl (.inr h))
    · exact .inl (.inr h)
    · exact .inr h

theorem allBearing_iff {s : State} : allBearing s = true ↔ ∀ p, (s.blu.posts.get p).zone = .bearing := by
  simp [allBearing, Four.all_iff]

theorem leavesBearing_iff {a b : Four Zone} : leavesBearing a b = true ↔ ∃ p, a.get p = .bearing ∧ b.get p ≠ .bearing := by
  simp [leavesBearing, Four.any_iff, Four.get_zipWith]

/-- The zones are taken, with no effect yet. -/
def zoned (zones : Four Zone) (s : State) : State :=
  s.modBlu fun b => { b with posts := b.posts.zipWith (fun p z => { p with zone := z }) zones }

theorem takeZones_eq (zones : Four Zone) (s : State) :
    takeZones zones s =
      (let u := if leavesBearing (s.blu.posts.map PostRecord.zone) zones then bearingLost (zoned zones s) else zoned zones s
       if u.blu.kind = some .load ∧ allBearing u = true then restLift .loaded u else u) := rfl

theorem zoned_zone (zones : Four Zone) (s : State) (p : Post) :
    ((zoned zones s).blu.posts.get p).zone = zones.get p := by
  simp [zoned, Four.get_zipWith]

/-- What the loss of a post that bears may touch. -/
abbrev lossTouches : Blocks :=
  { gbc := true, pmu := true, tpe := true, tcu := true, spindle := true, ahs := true }

theorem bearingLost_kept (s : State) : Kept lossTouches s (bearingLost s) :=
  kept_bearingLost rfl rfl rfl rfl rfl rfl (.refl _ s)

/-- With no sweep that a loss could end and a spindle that does not run, the zones alone are taken, and a LOAD move that
has all four posts ends. -/
theorem takeZones_quiet {zones : Four Zone} {s : State} (hr : spindleRunning s = false)
    (hq : s.pmu.phase = .idle ∨ leavesBearing (s.blu.posts.map PostRecord.zone) zones = false) :
    takeZones zones s =
      if s.blu.kind = some .load ∧ allBearing (zoned zones s) = true then restLift .loaded (zoned zones s)
      else zoned zones s := by
  have hu : (if leavesBearing (s.blu.posts.map PostRecord.zone) zones then bearingLost (zoned zones s)
      else zoned zones s) = zoned zones s := by
    split
    · next hl =>
      exact bearingLost_quiet (s := zoned zones s) (hq.resolve_right (by simp [hl])) hr
    · rfl
  rw [takeZones_eq, hu]
  rfl

theorem takeZones_lost {zones : Four Zone} {s : State}
    (h : leavesBearing (s.blu.posts.map PostRecord.zone) zones = true) :
    takeZones zones s = bearingLost (zoned zones s) := by
  rw [takeZones_eq, if_pos h]
  refine if_neg fun hc => ?_
  obtain ⟨p, -, hp⟩ := leavesBearing_iff.1 h
  have hblu : (bearingLost (zoned zones s)).blu = (zoned zones s).blu := (bearingLost_kept _).wholeBlu rfl rfl
  have hz := allBearing_iff.1 hc.2 p
  rw [hblu, zoned_zone] at hz
  exact hp hz

/-- A post with a new load, in the zone that it gives (R20, R21). -/
def PostRecord.weighed (st : Settings) (p : PostRecord) (load : Nat) : PostRecord :=
  { p with load := min load 30000, zone := zoneAfter st p.zone (min load 30000) }

/-- The loads and their zones are taken, with no effect yet. -/
def weighed (loads : Four Nat) (s : State) : State :=
  s.modBlu fun b => { b with posts := b.posts.zipWith (PostRecord.weighed s.sst.active) loads }

theorem weighed_get (loads : Four Nat) (s : State) (p : Post) :
    (weighed loads s).blu.posts.get p = (s.blu.posts.get p).weighed s.sst.active (loads.get p) := by
  simp [weighed, Four.get_zipWith]

/-- Some post that bears leaves BEARING as the loads become those given. -/
def LeavesBearing (loads : Four Nat) (s : State) : Prop :=
  ∃ p, (s.blu.posts.get p).zone = .bearing ∧
    zoneAfter s.sst.active (s.blu.posts.get p).zone (min (loads.get p) 30000) ≠ .bearing

theorem not_leavesBearing {loads : Four Nat} {s : State} (h : BearingKept loads s) : ¬ LeavesBearing loads s := by
  rintro ⟨p, hb, hn⟩
  rw [hb] at hn
  exact hn (h p hb)

/-- The loads as read, before their zones. -/
def loaded (loads : Four Nat) (s : State) : State :=
  s.modBlu fun b => { b with posts := b.posts.zipWith (fun p x => { p with load := postLoad x }) loads }

/-- The zones that the loads as read give. -/
def zonesOf (s : State) : Four Zone := s.blu.posts.map fun p => zoneAfter s.sst.active p.zone p.load

theorem takeLoads_eq (loads : Four Nat) (s : State) :
    takeLoads loads s = takeZones (zonesOf (loaded loads s)) (loaded loads s) := rfl

theorem zoned_loaded (loads : Four Nat) (s : State) : zoned (zonesOf (loaded loads s)) (loaded loads s) = weighed loads s := by
  have hp : ((loaded loads s).blu.posts.zipWith (fun p z => { p with zone := z }) (zonesOf (loaded loads s))) =
      s.blu.posts.zipWith (PostRecord.weighed s.sst.active) loads := by
    simp [loaded, zonesOf, Four.zipWith, Four.map, PostRecord.weighed, postLoad_eq]
  exact congrArg (fun posts => { s with blu := { s.blu with posts := posts } }) hp

theorem leavesBearing_loaded (loads : Four Nat) (s : State) :
    leavesBearing ((loaded loads s).blu.posts.map PostRecord.zone) (zonesOf (loaded loads s)) = true ↔
      LeavesBearing loads s := by
  rw [leavesBearing_iff]
  unfold LeavesBearing zonesOf
  simp only [Four.get_map, loaded, State.modBlu_blu, State.modBlu_sst, Four.get_zipWith, postLoad_eq]

theorem takeLoads_quiet {loads : Four Nat} {s : State} (hr : spindleRunning s = false)
    (hq : s.pmu.phase = .idle ∨ BearingKept loads s) :
    takeLoads loads s =
      if s.blu.kind = some .load ∧ allBearing (weighed loads s) = true then restLift .loaded (weighed loads s)
      else weighed loads s := by
  rw [takeLoads_eq, takeZones_quiet (s := loaded loads s) hr, zoned_loaded]
  · rfl
  · refine hq.imp id fun hk => ?_
    rw [← Bool.not_eq_true, leavesBearing_loaded]
    exact not_leavesBearing hk

theorem takeLoads_lost {loads : Four Nat} {s : State} (h : LeavesBearing loads s) :
    takeLoads loads s = bearingLost (weighed loads s) := by
  rw [takeLoads_eq, takeZones_lost ((leavesBearing_loaded loads s).2 h), zoned_loaded]

/-! ### The positions -/

theorem guardClearance_still {s : State} (h : bridgesMoving s = false) : guardClearance s = s := by
  have hb : ∀ side, (s.pil.bridge.get side).moving = false := fun side => by
    simp only [bridgesMoving, Sides.any, Bool.or_eq_false_iff] at h
    cases side
    · exact h.1
    · exact h.2
  have hone : ∀ side, haltBridge .clearance side s = s := fun side => if_neg (by simp [hb side])
  unfold guardClearance forSides
  rw [hone .l, hone .r, ite_self]

theorem guardClearance_kept (s : State) : Kept { bridge := true } s (guardClearance s) := kept_guardClearance rfl (.refl _ s)

/-- The positions read, and what they do to the bridges. -/
def placed (positions : Four Nat) (s : State) : State := guardClearance (takePositions positions s)

theorem placed_still {positions : Four Nat} {s : State} (h : bridgesMoving s = false) :
    placed positions s = takePositions positions s := guardClearance_still (s := takePositions positions s) h

theorem placed_blu (positions : Four Nat) (s : State) : (placed positions s).blu = (takePositions positions s).blu :=
  (guardClearance_kept _).wholeBlu rfl rfl

theorem placed_get (positions : Four Nat) (s : State) (p : Post) :
    (placed positions s).blu.posts.get p = { s.blu.posts.get p with position := positions.get p } := by
  rw [placed_blu]
  simp [takePositions, Four.get_zipWith]

theorem placed_sst (positions : Four Nat) (s : State) : (placed positions s).sst = s.sst := (guardClearance_kept _).sst rfl

theorem placed_tcu (positions : Four Nat) (s : State) : (placed positions s).tcu = s.tcu :=
  (guardClearance_kept _).wholeTcu rfl rfl

theorem placed_pmu (positions : Four Nat) (s : State) : (placed positions s).pmu = s.pmu := (guardClearance_kept _).pmu rfl

theorem placed_ahs (positions : Four Nat) (s : State) : (placed positions s).ahs = s.ahs :=
  (guardClearance_kept _).wholeAhs rfl rfl

/-- The positions have no part in what leaves BEARING. -/
theorem leavesBearing_placed (loads positions : Four Nat) (s : State) :
    LeavesBearing loads (placed positions s) ↔ LeavesBearing loads s := by
  unfold LeavesBearing
  simp only [placed_get, placed_sst]

theorem bearingKept_placed {loads positions : Four Nat} {s : State} (h : BearingKept loads s) :
    BearingKept loads (placed positions s) := by
  intro p hp
  rw [placed_get] at hp
  rw [placed_sst]
  exact h p hp

end Zones

end Sys2Proof.Machine

namespace Sys2Proof.Machine

/-! ## A change of one load cell -/

section LoadChange

theorem Four.ext_get {α : Type} {v w : Four α} (h : ∀ p, v.get p = w.get p) : v = w := by
  obtain ⟨v1, v2, v3, v4⟩ := v
  obtain ⟨w1, w2, w3, w4⟩ := w
  simp only [Four.mk.injEq]
  exact ⟨h .p1, h .p2, h .p3, h .p4⟩

theorem Four.get_set {α : Type} (v : Four α) (a : α) (p q : Post) :
    (v.set a p).get q = if q = p then a else v.get q := by
  cases p <;> cases q <;> rfl

/-- The loads with that of one cell changed. -/
def loadsWith (post : Post) (load : Nat) (s : State) : Four Nat := (s.blu.posts.map PostRecord.load).set load post

theorem loadsWith_get (post : Post) (load : Nat) (s : State) (p : Post) :
    (loadsWith post load s).get p = if p = post then load else (s.blu.posts.get p).load := by
  simp [loadsWith, Four.get_set, Four.get_map]

theorem loadChanged_eq (post : Post) (load : Nat) (positions : Four Nat) (s : State) :
    loadChanged post load positions s = takeLoads (loadsWith post load s) (placed positions s) := by
  have hl : loadsWith post load (placed positions s) = loadsWith post load s := by
    unfold loadsWith
    congr 1
    refine Four.ext_get fun p => ?_
    rw [Four.get_map, Four.get_map, placed_get]
  rw [← hl]
  rfl

/-- A post read and weighed. -/
theorem weighed_placed_get (loads positions : Four Nat) (s : State) (p : Post) :
    (weighed loads (placed positions s)).blu.posts.get p =
      { s.blu.posts.get p with
        position := positions.get p
        load := min (loads.get p) 30000
        zone := zoneAfter s.sst.active (s.blu.posts.get p).zone (min (loads.get p) 30000) } := by
  rw [weighed_get, placed_get, placed_sst]
  rfl

theorem weighed_placed_positions (loads positions : Four Nat) (s : State) :
    (weighed loads (placed positions s)).blu.posts.map PostRecord.position = positions :=
  Four.ext_get fun p => by rw [Four.get_map, weighed_placed_get]

theorem weighed_placed_loads (loads positions : Four Nat) (s : State) :
    (weighed loads (placed positions s)).blu.posts.map PostRecord.load = loads.map fun x => min x 30000 :=
  Four.ext_get fun p => by rw [Four.get_map, Four.get_map, weighed_placed_get]

/-- Of the lift only the posts are read and weighed. -/
theorem weighed_placed_blu (loads positions : Four Nat) (s : State) :
    (weighed loads (placed positions s)).blu = { s.blu with posts := (weighed loads (placed positions s)).blu.posts } := by
  have h := placed_blu positions s
  unfold weighed
  simp only [State.modBlu_blu]
  rw [h]
  rfl

theorem loadsWith_clipped {post : Post} {load : Nat} {s : State} (h : (s.blu.posts.all fun p => p.load ≤ 30000) = true) :
    (loadsWith post load s).map (fun x => min x 30000) = (s.blu.posts.map PostRecord.load).set (min load 30000) post := by
  refine Four.ext_get fun p => ?_
  have hp := Four.all_iff.1 h p
  rw [Four.get_map, loadsWith_get, Four.get_set, Four.get_map]
  split
  · rfl
  · exact Nat.min_eq_left (by simpa using hp)

/-- What a change of load leaves where no post that matters leaves BEARING. -/
theorem loadChanged_quiet {post : Post} {load : Nat} {positions : Four Nat} {s : State} (hr : spindleRunning s = false)
    (hb : bridgesMoving s = false) (hq : s.pmu.phase = .idle ∨ BearingKept (loadsWith post load s) s) :
    loadChanged post load positions s =
      if s.blu.kind = some .load ∧ allBearing (weighed (loadsWith post load s) (placed positions s)) = true then
        restLift .loaded (weighed (loadsWith post load s) (placed positions s))
      else weighed (loadsWith post load s) (placed positions s) := by
  have hkind : (placed positions s).blu.kind = s.blu.kind := by rw [placed_blu]; rfl
  rw [loadChanged_eq, takeLoads_quiet (s := placed positions s), hkind]
  · rw [placed_still hb]
    exact hr
  · rw [placed_pmu]
    exact hq.imp id bearingKept_placed

theorem weighed_placed_still {loads positions : Four Nat} {s : State} (hb : bridgesMoving s = false) :
    weighed loads (placed positions s) =
      { s with blu := { s.blu with posts := (weighed loads (placed positions s)).blu.posts } } := by
  rw [placed_still hb]
  rfl

theorem zone_loadsWith {post : Post} {load : Nat} {positions : Four Nat} {s : State} :
    ((weighed (loadsWith post load s) (placed positions s)).blu.posts.get post).zone =
      zoneAfter s.sst.active (s.blu.posts.get post).zone (min load 30000) := by
  rw [weighed_placed_get, loadsWith_get, if_pos rfl]

theorem exec_loadChange (post : Post) (load : Nat) (positions : Four Nat) (s : State) :
    exec (.loadChange post load positions) s = .next (close s (loadChanged post load positions s)) := exec_next _ s

theorem mean_of_positions {s : State} {positions : Four Nat} (h : s.blu.posts.map PostRecord.position = positions) :
    mean s = (positions.p1 + positions.p2 + positions.p3 + positions.p4) / 4 := by
  rw [← h]
  rfl

theorem allHome_of_positions {s : State} {positions : Four Nat} (h : s.blu.posts.map PostRecord.position = positions) :
    allHome s = positions.all (· ≤ 500) := by
  rw [← h]
  rfl

/-- Where nothing rests or is lost, a change of load is a change of the posts alone. -/
theorem loadChange_posts {post : Post} {load : Nat} {positions : Four Nat} {s : State} (hr : spindleRunning s = false)
    (hb : bridgesMoving s = false) (hk : s.blu.kind ≠ some .load)
    (hl : (s.blu.posts.all fun p => p.load ≤ 30000) = true)
    (hq : s.pmu.phase = .idle ∨ BearingKept (loadsWith post load s) s) :
    ∃ t, exec (.loadChange post load positions) s = .next t ∧
      t.blu.posts.map PostRecord.position = positions ∧
      t.blu.posts.map PostRecord.load = (s.blu.posts.map PostRecord.load).set (min load 30000) post ∧
      (t.blu.posts.get post).zone = zoneAfter s.sst.active (s.blu.posts.get post).zone (min load 30000) ∧
      t.blu.lift = s.blu.lift ∧ t.blu.kind = s.blu.kind ∧ t.blu.target = s.blu.target ∧
      t.blu.lastLift = s.blu.lastLift ∧ t.blu.clamp = s.blu.clamp ∧ t.pil.bridge = s.pil.bridge ∧ t.pmu = s.pmu ∧
      t.tcu = s.tcu ∧ t.gbc = s.gbc ∧ t.tpe = s.tpe ∧ t.ahs = s.ahs ∧ t.sst = s.sst := by
  refine ⟨_, exec_loadChange post load positions s, ?_⟩
  rw [loadChanged_quiet hr hb hq, if_neg fun h => hk h.1]
  simp only [close_blu, close_pil, close_pmu, close_tcu, close_gbc, close_tpe, close_ahs, close_sst]
  refine ⟨weighed_placed_positions .., (weighed_placed_loads ..).trans (loadsWith_clipped hl), zone_loadsWith, ?_⟩
  rw [weighed_placed_still hb]
  exact ⟨rfl, rfl, rfl, rfl, rfl, rfl, rfl, rfl, rfl, rfl, rfl, rfl⟩

/-- A LOAD move at a change of load: it ends with all four posts BEARING, and goes on until then (R27, R31). -/
theorem loadChange_move {post : Post} {load : Nat} {positions : Four Nat} {s : State} (hr : spindleRunning s = false)
    (hb : bridgesMoving s = false) (hv : visitStays s = true) (hk : s.blu.kind = some .load)
    (hl : (s.blu.posts.all fun p => p.load ≤ 30000) = true)
    (hq : s.pmu.phase = .idle ∨ BearingKept (loadsWith post load s) s) (bearing : Bool)
    (hbear : bearing = [Post.p1, .p2, .p3, .p4].all fun p =>
      zoneAfter s.sst.active (s.blu.posts.get p).zone (if p = post then min load 30000 else (s.blu.posts.get p).load) ==
        .bearing) :
    ∃ t, exec (.loadChange post load positions) s = .next t ∧ t.blu.posts.map PostRecord.position = positions ∧
      (bearing = true →
        t.blu.lift = (if positions.all (· ≤ 500) then .lowered else .holding) ∧ t.blu.kind = none ∧
        t.blu.target = (positions.p1 + positions.p2 + positions.p3 + positions.p4) / 4 ∧ t.blu.lastLift = .loaded ∧
        ∀ p, (t.blu.posts.get p).step = 0) ∧
      (bearing = false →
        t.blu.lift = s.blu.lift ∧ t.blu.kind = s.blu.kind ∧ t.blu.target = s.blu.target ∧
        t.blu.lastLift = s.blu.lastLift ∧ ∀ p, (t.blu.posts.get p).step = (s.blu.posts.get p).step) ∧
      t.blu.clamp = s.blu.clamp ∧ t.tcu = s.tcu ∧ t.pmu = s.pmu ∧ t.pil.bridge = s.pil.bridge ∧ t.ahs = s.ahs ∧
      t.sst = s.sst := by
  refine ⟨_, exec_loadChange post load positions s, ?_⟩
  have hw := weighed_placed_still (loads := loadsWith post load s) (positions := positions) hb
  have hpos := weighed_placed_positions (loadsWith post load s) positions s
  have hget := weighed_placed_get (loadsWith post load s) positions s
  have hall : allBearing (weighed (loadsWith post load s) (placed positions s)) = bearing := by
    rw [Bool.eq_iff_iff, allBearing_iff, hbear]
    have hone : ∀ p, ((weighed (loadsWith post load s) (placed positions s)).blu.posts.get p).zone =
        zoneAfter s.sst.active (s.blu.posts.get p).zone (if p = post then min load 30000 else (s.blu.posts.get p).load) := by
      intro p
      rw [hget, loadsWith_get]
      have hp : (s.blu.posts.get p).load ≤ 30000 := by simpa using Four.all_iff.1 hl p
      split
      · rfl
      · rw [Nat.min_eq_left hp]
    simp only [hone, List.all_cons, List.all_nil, Bool.and_true, Bool.and_eq_true, beq_iff_eq]
    exact ⟨fun h => ⟨h .p1, h .p2, h .p3, h .p4⟩, fun ⟨h1, h2, h3, h4⟩ p => by cases p <;> assumption⟩
  rw [loadChanged_quiet hr hb hq, hall]
  generalize weighed (loadsWith post load s) (placed positions s) = w at hw hpos hget ⊢
  have hmean := mean_of_positions hpos
  have hhome := allHome_of_positions hpos
  simp only [close_blu, close_pil, close_pmu, close_tcu, close_ahs, close_sst]
  cases bearing with
  | true =>
    rw [if_pos ⟨hk, rfl⟩, restLift_stays (by rw [hw]; exact hv)]
    refine ⟨?_, fun _ => ⟨?_, rfl, hmean, rfl, fun p => ?_⟩, (fun h => by cases h), ?_⟩
    · rw [← hpos]; rfl
    · rw [← hhome]; rfl
    · simp [liftRested, Four.get_map]
    · rw [hw]
      exact ⟨rfl, rfl, rfl, rfl, rfl, rfl⟩
  | false =>
    rw [if_neg (by simp)]
    refine ⟨hpos, (fun h => by cases h), fun _ => ?_, ?_⟩
    · refine ⟨?_, ?_, ?_, ?_, fun p => by rw [hget]⟩ <;> rw [hw]
    · rw [hw]
      exact ⟨rfl, rfl, rfl, rfl, rfl, rfl⟩

/-- A change of load by which the post leaves BEARING (R37, R92). -/
theorem loadChange_lost {post : Post} {load : Nat} {positions : Four Nat} {s : State}
    (hz : (s.blu.posts.get post).zone = .bearing)
    (hn : zoneAfter s.sst.active (s.blu.posts.get post).zone (min load 30000) ≠ .bearing) :
    ∃ t, exec (.loadChange post load positions) s = .next t ∧ t.blu.posts.map PostRecord.position = positions ∧
      (t.blu.posts.get post).load = min load 30000 ∧
      (t.blu.posts.get post).zone = zoneAfter s.sst.active (s.blu.posts.get post).zone (min load 30000) ∧
      LoadLost s t ∧ t.blu.lift = s.blu.lift ∧ t.blu.kind = s.blu.kind ∧ t.blu.clamp = s.blu.clamp ∧
      t.ahs.slots = s.ahs.slots ∧ t.sst = s.sst := by
  refine ⟨_, exec_loadChange post load positions s, ?_⟩
  have hleaves : LeavesBearing (loadsWith post load s) (placed positions s) :=
    (leavesBearing_placed ..).2 ⟨post, hz, by rw [loadsWith_get, if_pos rfl]; exact hn⟩
  rw [loadChanged_eq, takeLoads_lost hleaves]
  have hk := bearingLost_kept (weighed (loadsWith post load s) (placed positions s))
  have hlost := bearingLost_spec (weighed (loadsWith post load s) (placed positions s))
  have hblu := hk.wholeBlu rfl rfl
  simp only [close_blu, close_ahs, close_sst]
  rw [hblu, hk.sst rfl, hk.slots rfl]
  refine ⟨weighed_placed_positions .., ?_, zone_loadsWith, hlost.congr ?_ ?_ (close_tcu ..) (close_pmu ..), ?_, ?_, ?_, ?_, ?_⟩
  · rw [weighed_placed_get, loadsWith_get, if_pos rfl]
  · exact (placed_tcu positions s).symm
  · exact (placed_pmu positions s).symm
  · rw [weighed_placed_blu]
  · rw [weighed_placed_blu]
  · rw [weighed_placed_blu]
  · exact congrArg Ahs.slots (placed_ahs positions s)
  · exact placed_sst positions s

/-! ### The thresholds -/

theorem settingsOrdered_loads {st : Settings} (h : settingsOrdered st = true) :
    st.contact < st.bearing ∧ st.bearing < st.overload := by
  simp only [settingsOrdered, Bool.and_eq_true, decide_eq_true_eq] at h
  obtain ⟨⟨⟨⟨⟨⟨hc, ho⟩, -⟩, -⟩, -⟩, -⟩, -⟩ := h
  exact ⟨hc, ho⟩

/-- The zone after a change of load, by the thresholds and the band of 50 daN (R21). -/
theorem zoneAfter_iff {st : Settings} (hc : st.contact < st.bearing) (ho : st.bearing < st.overload) (z : Zone) (load : Nat) :
    (zoneAfter st z load = .overload ↔ st.overload ≤ load ∨ (z = .overload ∧ st.overload ≤ load + 50)) ∧
    (zoneAfter st z load = .free ↔ load < st.contact ∧ (z = .free ∨ load + 50 < st.contact)) ∧
    (zoneAfter st z load = .taking ↔
      (st.contact ≤ load ∨ (z ≠ .free ∧ st.contact ≤ load + 50)) ∧ load < st.bearing ∧
        (z = .free ∨ z = .taking ∨ load + 50 < st.bearing)) := by
  unfold zoneAfter zoneAfresh fallFromOverload fallFromBearing fallFromTaking
  have hband : Config.zoneBand = 50 := rfl
  rw [hband]
  cases z with
  | free => split_ifs <;> simp_all [Zone.rank] <;> omega
  | taking => split_ifs <;> simp_all [Zone.rank] <;> omega
  | bearing => split_ifs <;> simp_all [Zone.rank] <;> omega
  | overload => split_ifs <;> simp_all [Zone.rank] <;> omega

/-- Settles O21: a change of load by what leaves BEARING, and the thresholds by the zone before. -/
theorem zoneFollowsLoad : Obligations.ZoneFollowsLoad := by
  unfold Obligations.ZoneFollowsLoad
  exact ⟨fun post load positions s hr hb hk hl hq => loadChange_posts hr hb hk hl hq,
    fun post load positions s hr hb hv hk hl hq => loadChange_move hr hb hv hk hl hq _ rfl,
    fun post load positions s _ hz hn => loadChange_lost hz hn,
    fun st z load h => zoneAfter_iff (settingsOrdered_loads h).1 (settingsOrdered_loads h).2 z load⟩

end LoadChange

end Sys2Proof.Machine

namespace Sys2Proof.Machine

/-! ## The lift control period -/

section Period

/-- Of `w` only the lift may have changed: its state and move, and the steps of its posts. -/
def LiftOnly (w t : State) : Prop :=
  ∃ b, t = { w with blu := b } ∧ b.clamp = w.blu.clamp ∧ ∀ p, ∃ n, b.posts.get p = { w.blu.posts.get p with step := n }

theorem LiftOnly.refl (w : State) : LiftOnly w w := ⟨w.blu, rfl, rfl, fun p => ⟨(w.blu.posts.get p).step, rfl⟩⟩

theorem LiftOnly.trans {u v w : State} (h : LiftOnly u v) (h' : LiftOnly v w) : LiftOnly u w := by
  obtain ⟨b, rfl, hclamp, hposts⟩ := h
  obtain ⟨c, rfl, hclamp', hposts'⟩ := h'
  refine ⟨c, rfl, hclamp'.trans hclamp, fun p => ?_⟩
  obtain ⟨n, hn⟩ := hposts p
  obtain ⟨k, hk⟩ := hposts' p
  exact ⟨k, hk.trans (by simp only [hn])⟩

theorem LiftOnly.rest {w t : State} (h : LiftOnly w t) :
    t.pil = w.pil ∧ t.blu.clamp = w.blu.clamp ∧ t.tcu = w.tcu ∧ t.pmu = w.pmu ∧ t.ahs = w.ahs ∧ t.sst = w.sst := by
  obtain ⟨b, rfl, hclamp, -⟩ := h
  exact ⟨rfl, hclamp, rfl, rfl, rfl, rfl⟩

/-- What the readings leave of the lift, and of the rest where no bridge moves. -/
theorem weighed_placed_rest {loads positions : Four Nat} {s w : State} (hb : bridgesMoving s = false)
    (hw : w = weighed loads (placed positions s)) :
    w.pil = s.pil ∧ w.blu.clamp = s.blu.clamp ∧ w.tcu = s.tcu ∧ w.pmu = s.pmu ∧ w.ahs = s.ahs ∧ w.sst = s.sst ∧
    w.blu.lift = s.blu.lift ∧ w.blu.kind = s.blu.kind ∧ w.blu.target = s.blu.target ∧ w.blu.lastLift = s.blu.lastLift := by
  rw [hw, weighed_placed_still hb]
  exact ⟨rfl, rfl, rfl, rfl, rfl, rfl, rfl, rfl, rfl, rfl⟩

theorem liftOnly_liftRested (outcome : LiftOutcome) (w : State) : LiftOnly w (liftRested outcome w) :=
  ⟨_, rfl, rfl, fun p => ⟨0, by simp only [Four.get_map]⟩⟩

theorem liftOnly_levelling (w : State) : LiftOnly w (levelling w) :=
  ⟨_, rfl, rfl, fun p => ⟨_, Four.get_map _ _ p⟩⟩

/-- A lift at rest in the state its posts give. -/
def retested (s : State) : State := s.modBlu fun b => { b with lift := if allHome s then .lowered else .holding }

theorem liftOnly_retested (w : State) : LiftOnly w (retested w) := ⟨_, rfl, rfl, fun _ => ⟨_, rfl⟩⟩

/-- With no sweep that the lowered lift would end, the re-test changes the state of the lift alone. -/
theorem retest_quiet {s : State} (hq : s.pmu.phase = .idle ∨ allHome s = false) (hv : visitStays s = true) :
    retest s = retested s := by
  have hl : (if (retested s).blu.lift = .lowered then supportLost (retested s) else retested s) = retested s := by
    split
    · next h =>
      refine supportLost_idle (sweepRunning_idle (hq.resolve_right fun hh => ?_))
      simp [retested, hh] at h
    · rfl
  show visitEndIfDue (if (retested s).blu.lift = .lowered then supportLost (retested s) else retested s) = retested s
  rw [hl]
  exact visitEndIfDue_stays hv

theorem liftPeriod_halted {s : State} (h : s.blu.lift = .halted) : liftPeriod s = s := by simp [liftPeriod, h]

theorem liftPeriod_rest {s : State} (h : s.blu.lift = .lowered ∨ s.blu.lift = .holding) : liftPeriod s = retest s := by
  obtain h | h := h <;> simp [liftPeriod, h]

theorem liftPeriod_moving {s : State} (h : liftMoving s = true) :
    liftPeriod s = (match arrival s with | some outcome => restLift outcome s | none => levelling s) := by
  unfold liftMoving at h
  cases hl : s.blu.lift <;> simp [hl] at h <;> simp [liftPeriod, hl] <;> rfl

theorem not_moving_iff {s : State} :
    liftMoving s = false ↔ (s.blu.lift = .lowered ∨ s.blu.lift = .holding) ∨ s.blu.lift = .halted := by
  unfold liftMoving
  cases s.blu.lift <;> simp

/-- A control period in which no sweep can end changes the lift alone. -/
theorem liftOnly_liftPeriod {s : State} (hq : s.pmu.phase = .idle ∨ allHome s = false) (hv : visitStays s = true) :
    LiftOnly s (liftPeriod s) := by
  cases hm : liftMoving s with
  | true =>
    rw [liftPeriod_moving hm]
    split
    · rw [restLift_stays hv]
      exact liftOnly_liftRested _ s
    · exact liftOnly_levelling s
  | false =>
    obtain h | h := not_moving_iff.1 hm
    · rw [liftPeriod_rest h, retest_quiet hq hv]
      exact liftOnly_retested s
    · rw [liftPeriod_halted h]
      exact .refl s

/-- The state a control period leaves, before the end of the step. -/
def periodLift (positions loads : Four Nat) (s : State) : State := liftPeriod (takeLoads loads (placed positions s))

/-- What the step of a control period leaves: M5 stands on the tilt the period has found (R33). -/
theorem exec_controlPeriod (positions loads : Four Nat) (s : State) :
    ∃ t, exec (.liftControlPeriodExpiry positions loads) s = .next t ∧
      t.blu = (periodLift positions loads s).blu ∧ t.pil.bridge = (periodLift positions loads s).pil.bridge ∧
      t.tcu = (periodLift positions loads s).tcu ∧ t.pmu = (periodLift positions loads s).pmu ∧
      t.ahs = (periodLift positions loads s).ahs ∧ t.sst = (periodLift positions loads s).sst ∧
      (t.fmu.monitors.get .m5).condition = tilted (periodLift positions loads s) := by
  refine ⟨close s (handCondition .m5 (tilted (periodLift positions loads s)) (periodLift positions loads s)),
    exec_next _ s, ?_⟩
  generalize periodLift positions loads s = u
  simp only [close_blu, close_pil, close_tcu, close_pmu, close_ahs, close_sst, close_fmu]
  refine ⟨rfl, rfl, rfl, rfl, rfl, rfl, ?_⟩
  show (reviewed _ .m5).condition = _
  rw [reviewed_condition]
  rfl

/-! ### What the period reads -/

/-- The posts of `t` stand as read. -/
abbrev PostsRead (positions loads : Four Nat) (s t : State) : Prop :=
  t.blu.posts.map PostRecord.position = positions ∧
  t.blu.posts.map PostRecord.load = loads.map (fun x => min x 30000) ∧
  ∀ p, (t.blu.posts.get p).zone = zoneAfter s.sst.active (s.blu.posts.get p).zone (min (loads.get p) 30000)

theorem postsRead_weighed (positions loads : Four Nat) (s : State) :
    PostsRead positions loads s (weighed loads (placed positions s)) :=
  ⟨weighed_placed_positions .., weighed_placed_loads .., fun p => by rw [weighed_placed_get]⟩

theorem PostsRead.liftOnly {positions loads : Four Nat} {s u t : State} (h : PostsRead positions loads s u)
    (hl : LiftOnly u t) : PostsRead positions loads s t := by
  obtain ⟨b, rfl, -, hposts⟩ := hl
  obtain ⟨hpos, hload, hzone⟩ := h
  refine ⟨hpos ▸ Four.ext_get fun p => ?_, hload ▸ Four.ext_get fun p => ?_, fun p => hzone p ▸ ?_⟩
  all_goals
    obtain ⟨n, hn⟩ := hposts p
    simp only [Four.get_map, hn]

/-- The posts as read give the tests of arrival. -/
theorem PostsRead.tests {positions loads : Four Nat} {s t : State} (h : PostsRead positions loads s t) :
    mean t = (positions.p1 + positions.p2 + positions.p3 + positions.p4) / 4 ∧
    allHome t = positions.all (· ≤ 500) ∧
    allBearing t = [Post.p1, .p2, .p3, .p4].all fun p =>
      zoneAfter s.sst.active (s.blu.posts.get p).zone (min (loads.get p) 30000) == .bearing := by
  obtain ⟨hpos, -, hzone⟩ := h
  refine ⟨mean_of_positions hpos, allHome_of_positions hpos, ?_⟩
  rw [Bool.eq_iff_iff, allBearing_iff]
  simp only [hzone, List.all_cons, List.all_nil, Bool.and_true, Bool.and_eq_true, beq_iff_eq]
  exact ⟨fun h => ⟨h .p1, h .p2, h .p3, h .p4⟩, fun ⟨h1, h2, h3, h4⟩ p => by cases p <;> assumption⟩

/-! ### A period in which nothing is lost -/

theorem periodLift_quiet {positions loads : Four Nat} {s : State} (hr : spindleRunning s = false)
    (hb : bridgesMoving s = false) (hv : visitStays s = true) (hq : s.pmu.phase = .idle ∨ BearingKept loads s) :
    periodLift positions loads s = liftPeriod
      (if s.blu.kind = some .load ∧ allBearing (weighed loads (placed positions s)) = true then
        liftRested .loaded (weighed loads (placed positions s))
      else weighed loads (placed positions s)) := by
  have hkind : (placed positions s).blu.kind = s.blu.kind := by rw [placed_blu]; rfl
  have hrest := restLift_stays (outcome := .loaded) (s := weighed loads (placed positions s))
    (by rw [weighed_placed_still hb]; exact hv)
  unfold periodLift
  rw [takeLoads_quiet (s := placed positions s), hkind, hrest]
  · rw [placed_still hb]
    exact hr
  · rw [placed_pmu]
    exact hq.imp id bearingKept_placed

/-- Nothing but the lift changes. -/
theorem periodLift_liftOnly {positions loads : Four Nat} {s : State} (hr : spindleRunning s = false)
    (hb : bridgesMoving s = false) (hv : visitStays s = true)
    (hq : s.pmu.phase = .idle ∨ positions.all (· ≤ 500) = false ∧ BearingKept loads s) :
    LiftOnly (weighed loads (placed positions s)) (periodLift positions loads s) := by
  have hw := weighed_placed_still (loads := loads) (positions := positions) hb
  have hread := postsRead_weighed positions loads s
  rw [periodLift_quiet hr hb hv (hq.imp id And.right)]
  have hloaded : LiftOnly (weighed loads (placed positions s))
      (if s.blu.kind = some .load ∧ allBearing (weighed loads (placed positions s)) = true then
        liftRested .loaded (weighed loads (placed positions s))
      else weighed loads (placed positions s)) := by
    split
    · exact liftOnly_liftRested _ _
    · exact .refl _
  refine hloaded.trans (liftOnly_liftPeriod ?_ ?_)
  · rw [(hread.liftOnly hloaded).tests.2.1]
    obtain ⟨b, hb, -⟩ := hloaded
    rw [hb, hw]
    exact hq.imp id And.left
  · obtain ⟨b, hb, -⟩ := hloaded
    rw [hb, hw]
    exact hv

/-- A moving lift in the period: by the table of arrival it comes to rest, or it goes on with its steps set (R31, R32). -/
theorem periodLift_moving {positions loads : Four Nat} {s : State} (hr : spindleRunning s = false)
    (hb : bridgesMoving s = false) (hv : visitStays s = true) (hp : s.pmu.phase = .idle) (hm : liftMoving s = true)
    (hk : s.blu.kind = some .load → s.blu.lift = .rising) {w t : State} (hw : w = weighed loads (placed positions s))
    (ht : t = periodLift positions loads s) :
    (∀ outcome, arrival w = some outcome →
      t.blu.lift = (if allHome w then .lowered else .holding) ∧ t.blu.kind = none ∧ t.blu.target = mean w ∧
      t.blu.lastLift = outcome ∧ ∀ p, (t.blu.posts.get p).step = 0) ∧
    (arrival w = none → t = levelling w) := by
  have hwb := weighed_placed_still (loads := loads) (positions := positions) hb
  rw [ht, periodLift_quiet hr hb hv (.inl hp), ← hw]
  rw [← hw] at hwb
  have hvw : visitStays w = true := by rw [hwb]; exact hv
  have hlift : w.blu.lift = s.blu.lift := by rw [hwb]
  have hkind : w.blu.kind = s.blu.kind := by rw [hwb]
  split
  · next h =>
    have harr : arrival w = some .loaded := by simp [arrival, hlift, hkind, h.1, hk h.1, h.2]
    have hrest : (liftRested .loaded w).blu.lift = .lowered ∨ (liftRested .loaded w).blu.lift = .holding := by
      simp only [liftRested, State.modBlu_blu]
      split <;> simp
    have hpost : allHome (liftRested .loaded w) = allHome w := rfl
    rw [harr, liftPeriod_rest hrest, 
      retest_quiet (s := liftRested .loaded w) (.inl (by show w.pmu.phase = _; rw [hwb]; exact hp)) hvw]
    refine ⟨fun outcome h => ?_, fun h => by cases h⟩
    cases h
    refine ⟨by rw [← hpost]; rfl, rfl, rfl, rfl, fun p => ?_⟩
    simp [retested, liftRested, Four.get_map]
  · have hmw : liftMoving w = true := by
      unfold liftMoving
      rw [hlift]
      exact hm
    rw [liftPeriod_moving hmw]
    refine ⟨fun outcome h => ?_, fun h => by rw [h]⟩
    rw [h]
    dsimp only
    rw [restLift_stays hvw]
    exact ⟨rfl, rfl, rfl, rfl, fun p => by simp [liftRested, Four.get_map]⟩

/-- A lift at rest follows its posts, and a HALTED one stays as it is (R23, R34). -/
theorem periodLift_rest {positions loads : Four Nat} {s : State} (hr : spindleRunning s = false)
    (hb : bridgesMoving s = false) (hv : visitStays s = true)
    (hq : s.pmu.phase = .idle ∨ positions.all (· ≤ 500) = false ∧ BearingKept loads s) (hm : liftMoving s = false)
    (hk : s.blu.kind = none) {w : State} (hw : w = weighed loads (placed positions s)) :
    periodLift positions loads s = if s.blu.lift = .halted then w else retested w := by
  have hwb := weighed_placed_still (loads := loads) (positions := positions) hb
  have hhome := (postsRead_weighed positions loads s).tests.2.1
  rw [periodLift_quiet hr hb hv (hq.imp id And.right), if_neg (by simp [hk]), ← hw]
  rw [← hw] at hwb hhome
  have hlift : w.blu.lift = s.blu.lift := by rw [hwb]
  obtain h | h := not_moving_iff.1 hm
  · rw [if_neg (by obtain h | h := h <;> simp [h]), liftPeriod_rest (hlift ▸ h), retest_quiet]
    · rw [hhome, hwb]
      exact hq.imp id And.left
    · rw [hwb]
      exact hv
  · rw [if_pos h, liftPeriod_halted (hlift.trans h)]

/-! ### A period in which a post leaves BEARING -/

theorem bearingLost_idle (s : State) : (bearingLost s).pmu.phase = .idle := by
  unfold bearingLost
  rw [spindleUnsupported_pmu]
  by_cases h : sweepRunning s = true
  · exact (sweepFail_pmu h).1
  · have hidle : sweepRunning s = false := by simpa using h
    rw [supportLost_idle hidle]
    by_contra hp
    exact h (sweepRunning_iff.2 hp)

/-- A visit goes on, by the seat and the presence sensor alone. -/
theorem Kept.visitStays {m : Blocks} {s t : State} (h : Kept m s t) (hm : m.pil = false) :
    visitStays t = visitStays s := by
  have hp := h.pil hm
  have hseat : t.pil.seatState = s.pil.seatState := by rw [← hp]
  have hpresence : t.pil.presence = s.pil.presence := by rw [← hp]
  unfold Machine.visitStays
  rw [hseat, hpresence]

/-- The loss of a post that bears comes first, and the lift has its period after it (R37, R92). -/
theorem periodLift_lost {positions loads : Four Nat} {post : Post} {s : State} (hv : visitStays s = true)
    (hz : (s.blu.posts.get post).zone = .bearing)
    (hn : zoneAfter s.sst.active (s.blu.posts.get post).zone (min (loads.get post) 30000) ≠ .bearing) :
    LiftOnly (bearingLost (weighed loads (placed positions s))) (periodLift positions loads s) := by
  unfold periodLift
  rw [takeLoads_lost ((leavesBearing_placed ..).2 ⟨post, hz, hn⟩)]
  refine liftOnly_liftPeriod (.inl (bearingLost_idle _)) ?_
  rw [(bearingLost_kept _).visitStays rfl]
  exact ((guardClearance_kept (takePositions positions s)).visitStays rfl).trans hv

/-! ### The levelling step (R32) -/

theorem clampInt_eq {lo hi : Int} (h : lo ≤ hi) (x : Int) : clampInt lo hi x = max lo (min hi x) := by
  unfold clampInt
  split_ifs <;> omega

theorem correctionOf_full {st : Settings} (h : st.liftMode = .full) (mean p : Int) :
    correctionOf st mean p =
      max (-(20 * (st.liftSpeed : Int) / 2)) (min (20 * (st.liftSpeed : Int) / 2) ((st.kpLift * (mean - p)).tdiv 4)) := by
  have hhalf : ((st.liftSpeed : Int) * 20).tdiv 2 = 20 * (st.liftSpeed : Int) / 2 := by
    rw [Int.tdiv_eq_ediv_of_nonneg (by omega), Int.mul_comm]
  unfold correctionOf divTrunc
  rw [h, hhalf]
  exact clampInt_eq (by omega) _

theorem correctionOf_oneStep {st : Settings} (h : st.liftMode = .oneStep) (mean p : Int) :
    correctionOf st mean p = if p < mean then 20 else if mean < p then -20 else 0 := by
  unfold correctionOf
  rw [h]

theorem stepOf_borne {st : Settings} {p : PostRecord} (h : p.zone = .bearing ∨ p.zone = .overload) (rising : Bool)
    (mean : Int) : stepOf st rising true mean p = 0 := by
  obtain h | h := h <;> simp [stepOf, h]

theorem stepOf_moves {st : Settings} {load : Bool} {p : PostRecord} (h : load = false ∨ p.zone = .free ∨ p.zone = .taking)
    (hp : p.position ≤ 250000) (rising : Bool) (mean : Int) :
    (stepOf st rising load mean p : Int) =
      if rising then min (max 0 (20 * (st.liftSpeed : Int) + correctionOf st mean p.position)) (250000 - p.position)
      else min (max 0 (20 * (st.liftSpeed : Int) - correctionOf st mean p.position)) p.position := by
  have hz : (load && (p.zone == .bearing || p.zone == .overload)) = false := by
    obtain h | h | h := h <;> simp [h]
  have htravel : ((Config.postTravel : Nat) : Int) = 250000 := rfl
  unfold stepOf
  dsimp only
  rw [hz, htravel, Int.mul_comm (st.liftSpeed : Int) 20]
  cases rising <;> simp only [Bool.false_eq_true, if_false, if_true] <;> omega

/-- A post that is higher is never corrected further up. -/
theorem correctionOf_antitone (st : Settings) (mean : Int) {p q : Int} (h : p ≤ q) :
    correctionOf st mean q ≤ correctionOf st mean p := by
  cases hm : st.liftMode with
  | full =>
    rw [correctionOf_full hm, correctionOf_full hm]
    have hmul : (st.kpLift : Int) * (mean - q) ≤ st.kpLift * (mean - p) :=
      Int.mul_le_mul_of_nonneg_left (by omega) (by omega)
    have hdiv := Int.tdiv_le_tdiv (c := 4) (by omega) hmul
    omega
  | oneStep =>
    rw [correctionOf_oneStep hm, correctionOf_oneStep hm]
    split_ifs <;> omega

/-- A post that lags never steps less than one that leads. -/
theorem stepOf_levels (st : Settings) (mean : Int) {p q : PostRecord} (h : p.position ≤ q.position)
    (hq : q.position ≤ 250000) :
    stepOf st true false mean q ≤ stepOf st true false mean p ∧
    stepOf st false false mean p ≤ stepOf st false false mean q := by
  have hc := correctionOf_antitone st mean (Int.ofNat_le.2 h)
  have hmoves := fun rising (r : PostRecord) (hr : r.position ≤ 250000) =>
    stepOf_moves (st := st) (load := false) (.inl rfl) hr rising mean
  have hup := hmoves true p (h.trans hq)
  have hup' := hmoves true q hq
  have hdown := hmoves false p (h.trans hq)
  have hdown' := hmoves false q hq
  simp only [if_true, Bool.false_eq_true, if_false] at hup hup' hdown hdown'
  omega

/-! ### The period of O20 -/

theorem controlPeriod_quiet {positions loads : Four Nat} {s : State} (hr : spindleRunning s = false)
    (hq : s.pmu.phase = .idle ∨ s.blu.lift = .holding ∧ positions.all (· ≤ 500) = false ∧ BearingKept loads s)
    (hb : bridgesMoving s = false) (hv : visitStays s = true) {m : Nat}
    (hmean : m = (positions.p1 + positions.p2 + positions.p3 + positions.p4) / 4) {home : Bool}
    (hhome : home = positions.all (· ≤ 500)) {arrived : Option LiftOutcome}
    (harrived : arrived = arrival (weighed loads (placed positions s)))
    (hk : liftMoving s = true → s.blu.kind = some .load → s.blu.lift = .rising) :
    ∃ t, exec (.liftControlPeriodExpiry positions loads) s = .next t ∧
      t.blu.posts.map PostRecord.position = positions ∧
      t.blu.posts.map PostRecord.load = loads.map (fun x => min x 30000) ∧
      (∀ p, (t.blu.posts.get p).zone = zoneAfter s.sst.active (s.blu.posts.get p).zone (min (loads.get p) 30000)) ∧
      (t.fmu.monitors.get .m5).condition = decide (s.sst.active.tiltLimit < spread t) ∧
      (liftMoving s = true →
        (∀ outcome, arrived = some outcome →
          t.blu.lift = (if home then .lowered else .holding) ∧ t.blu.kind = none ∧
          t.blu.target = m ∧ t.blu.lastLift = outcome ∧ ∀ p, (t.blu.posts.get p).step = 0) ∧
        (arrived = none →
          t.blu.lift = s.blu.lift ∧ t.blu.kind = s.blu.kind ∧ t.blu.target = s.blu.target ∧
          t.blu.lastLift = s.blu.lastLift ∧
          ∀ p, (t.blu.posts.get p).step =
            stepOf s.sst.active (s.blu.lift == .rising) (s.blu.kind == some .load) m (t.blu.posts.get p))) ∧
      (liftMoving s = false → s.blu.kind = none →
        t.blu.lift = (if s.blu.lift = .halted then .halted else if home then .lowered else .holding) ∧
        t.blu.kind = none ∧ t.blu.target = s.blu.target ∧ t.blu.lastLift = s.blu.lastLift ∧
        ∀ p, (t.blu.posts.get p).step = (s.blu.posts.get p).step) ∧
      t.pil.bridge = s.pil.bridge ∧ t.blu.clamp = s.blu.clamp ∧ t.tcu = s.tcu ∧ t.pmu = s.pmu ∧ t.ahs = s.ahs ∧
      t.sst = s.sst := by
  obtain ⟨t, he, hblut, hbridget, htcut, hpmut, hahst, hsstt, htilt⟩ := exec_controlPeriod positions loads s
  refine ⟨t, he, ?_⟩
  have hq' := hq.imp id And.right
  have hread := postsRead_weighed positions loads s
  have honly := periodLift_liftOnly hr hb hv hq'
  have hmoving := fun hm => periodLift_moving (positions := positions) (loads := loads) hr hb hv
    (hq.resolve_right fun h => by simp [liftMoving, h.1] at hm) hm (hk hm) rfl rfl
  have hrest := fun hm hk => periodLift_rest (positions := positions) (loads := loads) hr hb hv hq' hm hk rfl
  obtain ⟨hpil, hclamp, htcu, hpmu, hahs, hsst, hlift, hkind, htarget, hlast⟩ := weighed_placed_rest (loads := loads)
    (positions := positions) hb rfl
  have hget := weighed_placed_get loads positions s
  generalize weighed loads (placed positions s) = w at *
  generalize periodLift positions loads s = u at *
  obtain ⟨hmeanw, hhomew, -⟩ := hread.tests
  obtain ⟨hpos, hload, hzone⟩ := hread.liftOnly honly
  obtain ⟨hpil', hclamp', htcu', hpmu', hahs', hsst'⟩ := honly.rest
  rw [hhomew, ← hhome, hmeanw, ← hmean, ← harrived] at hmoving
  rw [hblut, hbridget, htcut, hpmut, hahst, hsstt, htilt]
  refine ⟨hpos, hload, hzone, ?_, fun hm => ⟨(hmoving hm).1, fun ho => ?_⟩, fun hm hk => ?_,
    congrArg Pil.bridge (hpil'.trans hpil), hclamp'.trans hclamp, htcu'.trans htcu, hpmu'.trans hpmu, hahs'.trans hahs,
    hsst'.trans hsst⟩
  · rw [← hsst, ← hsst']
    unfold tilted spread
    rw [hblut]
  · obtain rfl := (hmoving hm).2 ho
    rw [← hlift, ← hkind, ← htarget, ← hlast, ← hsst, hmean, ← hmeanw]
    refine ⟨rfl, rfl, rfl, rfl, fun p => ?_⟩
    unfold levelling
    simp only [State.modBlu_blu, Four.get_map]
    rfl
  · obtain rfl := hrest hm hk
    have hstep : ∀ p, (w.blu.posts.get p).step = (s.blu.posts.get p).step := fun p => by rw [hget]
    split
    · next hl => exact ⟨hlift.trans hl, hkind.trans hk, htarget, hlast, hstep⟩
    · refine ⟨?_, hkind.trans hk, htarget, hlast, hstep⟩
      rw [hhome, ← hhomew]
      rfl

theorem controlPeriod_lost {positions loads : Four Nat} {post : Post} {s : State} (hv : visitStays s = true)
    (hz : (s.blu.posts.get post).zone = .bearing)
    (hn : zoneAfter s.sst.active (s.blu.posts.get post).zone (min (loads.get post) 30000) ≠ .bearing) :
    ∃ t, exec (.liftControlPeriodExpiry positions loads) s = .next t ∧
      t.blu.posts.map PostRecord.position = positions ∧
      t.blu.posts.map PostRecord.load = loads.map (fun x => min x 30000) ∧
      (∀ p, (t.blu.posts.get p).zone = zoneAfter s.sst.active (s.blu.posts.get p).zone (min (loads.get p) 30000)) ∧
      LoadLost s t ∧ t.blu.clamp = s.blu.clamp ∧ t.ahs.slots = s.ahs.slots ∧ t.sst = s.sst := by
  obtain ⟨t, he, hblut, -, htcut, hpmut, hahst, hsstt, -⟩ := exec_controlPeriod positions loads s
  refine ⟨t, he, ?_⟩
  have honly := periodLift_lost (positions := positions) (loads := loads) hv hz hn
  have hkept := bearingLost_kept (weighed loads (placed positions s))
  have hlost := bearingLost_spec (weighed loads (placed positions s))
  have hblu : (bearingLost (weighed loads (placed positions s))).blu = (weighed loads (placed positions s)).blu :=
    hkept.wholeBlu rfl rfl
  have hread : PostsRead positions loads s (bearingLost (weighed loads (placed positions s))) := by
    unfold PostsRead
    rw [hblu]
    exact postsRead_weighed positions loads s
  obtain ⟨hpos, hload, hzone⟩ := hread.liftOnly honly
  obtain ⟨-, hclamp, htcu, hpmu, hahs, hsst⟩ := honly.rest
  rw [hblut, hahst, hsstt, hahs, hclamp, hsst, hkept.slots rfl, hkept.sst rfl, hblu, weighed_placed_blu]
  exact ⟨hpos, hload, hzone, hlost.congr (placed_tcu positions s).symm (placed_pmu positions s).symm (htcut.trans htcu)
    (hpmut.trans hpmu), rfl, congrArg Ahs.slots (placed_ahs positions s), placed_sst positions s⟩

/-- The step of a post, in the words of R32. -/
theorem stepOf_rule (st : Settings) (rising load : Bool) (mean : Int) (p : PostRecord) (hp : p.position ≤ 250000) {c : Int}
    (hc : c = correctionOf st mean p.position) :
    (load = true → (p.zone = .bearing ∨ p.zone = .overload) → stepOf st rising load mean p = 0) ∧
    ((load = false ∨ p.zone = .free ∨ p.zone = .taking) →
      (rising = true → (stepOf st rising load mean p : Int) = min (max 0 (20 * st.liftSpeed + c)) (250000 - p.position)) ∧
      (rising = false → (stepOf st rising load mean p : Int) = min (max 0 (20 * st.liftSpeed - c)) p.position)) := by
  refine ⟨fun hl hz => ?_, fun h => ?_⟩
  · rw [hl]
    exact stepOf_borne hz rising mean
  · have hstep := stepOf_moves (st := st) h hp rising mean
    rw [← hc] at hstep
    exact ⟨fun hr => hstep.trans (if_pos hr), fun hr => hstep.trans (by simp [hr])⟩

/-- The arrival test of the model is the table of R31 on the mean and the zones as read. -/
theorem arrival_weighed (positions loads : Four Nat) {s : State} (hb : bridgesMoving s = false) :
    arrival (weighed loads (placed positions s)) =
      (let m := (positions.p1 + positions.p2 + positions.p3 + positions.p4) / 4
       let bearing := [Post.p1, .p2, .p3, .p4].all fun p =>
         zoneAfter s.sst.active (s.blu.posts.get p).zone (min (loads.get p) 30000) == .bearing
       match s.blu.kind, s.blu.lift with
       | some .target, .rising => if s.blu.target ≤ m + 200 then some .arrived else none
       | some .target, .lowering => if m ≤ s.blu.target + 200 then some .arrived else none
       | some .home, .lowering => if positions.all (· ≤ 500) then some .arrived else none
       | some .load, .rising => if bearing then some .loaded else if 249800 ≤ m then some .noLoad else none
       | some .jog, .rising => if 249800 ≤ m then some .jogEnded else none
       | some .jog, .lowering => if positions.all (· ≤ 500) then some .jogEnded else none
       | _, _ => none) := by
  obtain ⟨hmean, hhome, hbearing⟩ := (postsRead_weighed positions loads s).tests
  have hwb := weighed_placed_still (loads := loads) (positions := positions) hb
  have hl : (weighed loads (placed positions s)).blu.lift = s.blu.lift := by rw [hwb]
  have hk : (weighed loads (placed positions s)).blu.kind = s.blu.kind := by rw [hwb]
  have ht : (weighed loads (placed positions s)).blu.target = s.blu.target := by rw [hwb]
  unfold arrival
  rw [hmean, hhome, hbearing, hl, hk, ht]
  rfl

/-- Settles O20: a period in which nothing is lost, one in which a post leaves BEARING, and the levelling step. -/
theorem liftPeriodLevels : Obligations.LiftPeriodLevels := by
  unfold Obligations.LiftPeriodLevels
  refine ⟨fun positions loads s hr hq hb hv => ?_, fun positions loads post s _ hv => ?_,
    fun st rising load mean p hp => ?_, fun st mean p q h hq => stepOf_levels st mean h hq⟩
  · exact fun hk => controlPeriod_quiet hr hq hb hv rfl rfl (arrival_weighed positions loads hb).symm hk
  · exact fun hz hn => controlPeriod_lost hv hz hn
  · refine stepOf_rule st rising load mean p hp ?_
    cases hm : st.liftMode with
    | full => exact (correctionOf_full hm mean p.position).symm
    | oneStep => exact (correctionOf_oneStep hm mean p.position).symm

end Period

end Sys2Proof.Machine

namespace Sys2Proof.Machine

/-! ## A head that awaits its cut while the other trips -/

section Strokes

/-- A head at the start of its pass, with a force reading. -/
def Head.awaiting (force : Nat) (h : Head) : Head :=
  { h with position := .moving, dest := some .awaitIndex, force := force }

/-- Both heads wait for the index event, M9 and M10 wait in TRIPPED for the next stroke, and head L stands above the force
limit, with M9 LATCHED and its scope the PIT. -/
def bothAwaiting : State :=
  reviewAll
    { State.reset with
      tcu := { State.reset.tcu with head := ⟨State.reset.tcu.head.l.awaiting 5000, State.reset.tcu.head.r.awaiting 0⟩ }
      fmu := { State.reset.fmu with
        monitors := .ofFn fun m =>
          { State.reset.fmu.monitors.get m with state := if m = .m9 ∨ m = .m10 then .tripped else .quiet } }
      sst := { State.reset.sst with
        active := { State.reset.sst.active with
          scope := .both .pit
          monitorMode := .ofFn fun _ => .latched } } }

theorem bothAwaiting_settled : settled bothAwaiting = true := by
  rw [settled_iff]
  exact reviewAll_reviewAll _

/-- The trip of M9 withdraws head R before its cut begins: M10 is not tested, and stays TRIPPED. -/
theorem indexEvent_leaves_m10 :
    (reviewed (indexTaken 0 [] [] bothAwaiting) .m10).state = .tripped ∧
    (reviewed (indexTaken 0 [] [] (quieted [.m10] bothAwaiting)) .m10).state = .quiet := by decide +kernel

/-- Refutes O23: the stroke of M10 that an index event would begin does not begin where the trip of M9, with scope PIT,
withdraws both heads first. -/
theorem not_faultsAreCleared : ¬ Obligations.FaultsAreCleared := by
  unfold Obligations.FaultsAreCleared
  rintro ⟨-, -, hstroke⟩
  obtain ⟨-, -, -, hindex, -⟩ := hstroke bothAwaiting bothAwaiting_settled (by decide +kernel) (by decide +kernel)
  obtain ⟨hquiet, -⟩ := hindex 0 [] [] .r (by decide +kernel) (by decide +kernel) (by decide +kernel)
  have hsame := hquiet (by decide +kernel)
  rw [exec_next, exec_next] at hsame
  injection hsame with hsame
  have hmonitor := congrArg (fun t : State => (t.fmu.monitors.get .m10).state) hsame
  simp only [close_fmu] at hmonitor
  exact absurd (indexEvent_leaves_m10.1.symm.trans (hmonitor.trans indexEvent_leaves_m10.2)) (by decide)

end Strokes

end Sys2Proof.Machine

namespace Sys2Proof.Machine

/-! ## A step of the turning that begins or goes on -/

section Steps

/-- On one side the head and the statuses of its passes are the same, and so is the plan. -/
structure SameSide (side : Side) (s t : State) : Prop where
  tpe : t.tpe = s.tpe
  head : t.tcu.head.get side = s.tcu.head.get side
  statuses : passStatuses side t = passStatuses side s

theorem SameSide.refl (side : Side) (s : State) : SameSide side s s := ⟨rfl, rfl, rfl⟩

theorem SameSide.symm {side : Side} {s t : State} (h : SameSide side s t) : SameSide side t s :=
  ⟨h.tpe.symm, h.head.symm, h.statuses.symm⟩

theorem SameSide.trans {side : Side} {s t u : State} (h : SameSide side s t) (h' : SameSide side t u) :
    SameSide side s u :=
  ⟨h'.tpe.trans h.tpe, h'.head.trans h.head, h'.statuses.trans h.statuses⟩

theorem SameSide.planPasses {side : Side} {s t : State} (h : SameSide side s t) :
    planPasses side t = planPasses side s := by
  unfold Machine.planPasses
  rw [h.tpe]

theorem SameSide.depthCut {side : Side} {s t : State} (h : SameSide side s t) : depthCut side t = depthCut side s := by
  unfold Machine.depthCut
  rw [h.planPasses, h.statuses]

theorem SameSide.startOf {side : Side} {s t : State} (h : SameSide side s t) (i : Nat) :
    startOf i side t = startOf i side s := by
  unfold Machine.startOf
  rw [h.planPasses, h.depthCut]

theorem SameSide.sideStepDone {side : Side} {s t : State} (h : SameSide side s t) (k : Nat) :
    sideStepDone k t side = sideStepDone k s side := by
  unfold Machine.sideStepDone
  rw [h.planPasses, h.statuses, h.head]

/-- The head of a side begins the pass at place `i`, which becomes ACTIVE (R126). -/
structure PassBegun (i : Nat) (side : Side) (s t : State) : Prop where
  tpe : t.tpe = s.tpe
  head : t.tcu.head.get side =
    { (s.tcu.head.get side).moveTo .passStart with passIndex := some i, passStart := startOf i side s }
  statuses : passStatuses side t = (passStatuses side s).set (i - 1) .active

theorem PassBegun.congr {i : Nat} {side : Side} {s s' t t' : State} (h : PassBegun i side s t) (hs : SameSide side s' s)
    (ht : SameSide side t t') : PassBegun i side s' t' :=
  ⟨ht.tpe.trans (h.tpe.trans hs.tpe), by rw [ht.head, h.head, hs.head, hs.startOf],
    by rw [ht.statuses, h.statuses, hs.statuses]⟩

/-- Of the part only the heads and the statuses of the passes have changed. -/
def PassesOnly (s t : State) : Prop :=
  ∃ head progress, t = { s with tcu := { s.tcu with head := head, progress := progress } } ∧
    progress.map Progress.step = s.tcu.progress.map Progress.step

theorem PassesOnly.refl (s : State) : PassesOnly s s := ⟨_, _, rfl, rfl⟩

theorem PassesOnly.trans {s t u : State} (h : PassesOnly s t) (h' : PassesOnly t u) : PassesOnly s u := by
  obtain ⟨_, _, rfl, hstep⟩ := h
  obtain ⟨head, progress, rfl, hstep'⟩ := h'
  exact ⟨head, progress, rfl, hstep'.trans hstep⟩

theorem passesOnly_modHead (side : Side) (f : Head → Head) (s : State) : PassesOnly s (modHead side f s) :=
  ⟨_, _, rfl, rfl⟩

theorem passesOnly_setPass (side : Side) (status : PassStatus) (s : State) : PassesOnly s (setPass side status s) := by
  unfold setPass
  split
  · exact .refl s
  · refine ⟨_, _, rfl, ?_⟩
    rw [Option.map_map]
    rfl

/-- The pass at place `i` begun. -/
def passBegun (i : Nat) (side : Side) (s : State) : State :=
  setPass side .active
    (modHead side (fun h => { h.moveTo .passStart with passIndex := some i, passStart := startOf i side s }) s)

theorem passBegun_passesOnly (i : Nat) (side : Side) (s : State) : PassesOnly s (passBegun i side s) :=
  (passesOnly_modHead side _ s).trans (passesOnly_setPass side _ _)

theorem PassesOnly.tpe {s t : State} (h : PassesOnly s t) : t.tpe = s.tpe := by
  obtain ⟨_, _, rfl, -⟩ := h
  rfl

theorem passBegun_begun (i : Nat) (side : Side) (s : State) : PassBegun i side s (passBegun i side s) := by
  refine ⟨(passBegun_passesOnly i side s).tpe, ?_, ?_⟩
  · unfold passBegun
    rw [setPass_head]
    exact Sides.get_set_same ..
  · exact setPass_statuses (congrArg Head.passIndex (Sides.get_set_same ..))

theorem passBegun_other (i : Nat) (side : Side) (s : State) : SameSide side.other s (passBegun i side s) := by
  refine ⟨(passBegun_passesOnly i side s).tpe, ?_, setPass_statuses_other side ..⟩
  unfold passBegun
  rw [setPass_head]
  exact Sides.get_other_set ..

/-- What an act on one side may do: the passes that answer a test begin, and without one the side stays. -/
def Starts (test : Nat → Side → State → Prop) (side : Side) (s t : State) : Prop :=
  (∀ i, test i side s → PassBegun i side s t) ∧ ((∀ i, ¬ test i side s) → SameSide side s t)

/-- An act on one side that leaves the other, done on both. -/
theorem starts_forSides {test : Nat → Side → State → Prop} {act : Side → State → State}
    (hcongr : ∀ i side s t, SameSide side s t → test i side s → test i side t)
    (hother : ∀ side s, SameSide side.other s (act side s)) (hstarts : ∀ side s, Starts test side s (act side s))
    (side : Side) (s : State) : Starts test side s (forSides act s) := by
  have hback : SameSide .l (act .l s) (forSides act s) := hother .r _
  have hfront : SameSide .r s (act .l s) := hother .l s
  cases side with
  | l =>
    obtain ⟨hbegun, hsame⟩ := hstarts .l s
    exact ⟨fun i hi => (hbegun i hi).congr (.refl ..) hback, fun hn => (hsame hn).trans hback⟩
  | r =>
    obtain ⟨hbegun, hsame⟩ := hstarts .r (act .l s)
    exact ⟨fun i hi => (hbegun i (hcongr _ _ _ _ hfront hi)).congr hfront (.refl ..),
      fun hn => hfront.trans (hsame fun i hi => hn i (hcongr _ _ _ _ hfront.symm hi))⟩

theorem passesOnly_forSides {act : Side → State → State} (h : ∀ side s, PassesOnly s (act side s)) (s : State) :
    PassesOnly s (forSides act s) :=
  (h .l s).trans (h .r _)

/-! ### The begin of a step (R126) -/

/-- A pass of step `k` whose tool lets it begin. -/
def Begins (k i : Nat) (side : Side) (s : State) : Prop :=
  (s.tcu.head.get side).tool = .usable ∧ passInStep k (planPasses side s) = some i

theorem beginPass_begins {k i : Nat} {side : Side} {s : State} (h : Begins k i side s) :
    beginPass k side s = passBegun i side s := by
  obtain ⟨htool, hpass⟩ := h
  unfold beginPass
  rw [hpass]
  exact if_pos htool

theorem beginPass_stays {k : Nat} {side : Side} {s : State} (h : ∀ i, ¬ Begins k i side s) : beginPass k side s = s := by
  unfold beginPass
  split
  · rfl
  · next i hi => exact if_neg fun htool => h i ⟨htool, hi⟩

theorem beginPass_cases (k : Nat) (side : Side) (s : State) :
    (∃ i, Begins k i side s ∧ beginPass k side s = passBegun i side s) ∨
    ((∀ i, ¬ Begins k i side s) ∧ beginPass k side s = s) := by
  by_cases h : ∃ i, Begins k i side s
  · obtain ⟨i, hi⟩ := h
    exact .inl ⟨i, hi, beginPass_begins hi⟩
  · have hn : ∀ i, ¬ Begins k i side s := fun i hi => h ⟨i, hi⟩
    exact .inr ⟨hn, beginPass_stays hn⟩

theorem beginPass_passesOnly (k : Nat) (side : Side) (s : State) : PassesOnly s (beginPass k side s) := by
  obtain ⟨i, -, h⟩ | ⟨-, h⟩ := beginPass_cases k side s
  · rw [h]
    exact passBegun_passesOnly i side s
  · rw [h]
    exact .refl s

theorem beginPass_other (k : Nat) (side : Side) (s : State) : SameSide side.other s (beginPass k side s) := by
  obtain ⟨i, -, h⟩ | ⟨-, h⟩ := beginPass_cases k side s
  · rw [h]
    exact passBegun_other i side s
  · rw [h]
    exact .refl ..

theorem begins_starts (k : Nat) (side : Side) (s : State) : Starts (Begins k) side s (beginPass k side s) :=
  ⟨fun i hi => by rw [beginPass_begins hi]; exact passBegun_begun i side s,
    fun hn => by rw [beginPass_stays hn]; exact .refl ..⟩

theorem Begins.congr {k i : Nat} {side : Side} {s t : State} (h : SameSide side s t) (hb : Begins k i side s) :
    Begins k i side t := by
  unfold Begins at hb ⊢
  rw [h.head, h.planPasses]
  exact hb

/-- The step is counted, before its passes begin. -/
def stepSet (k : Nat) (s : State) : State :=
  s.modTcu fun t => { t with progress := t.progress.map fun p => { p with step := k } }

theorem stepSet_same (k : Nat) (side : Side) (s : State) : SameSide side s (stepSet k s) := by
  refine ⟨rfl, rfl, ?_⟩
  unfold passStatuses stepSet
  cases h : s.tcu.progress with
  | none => simp [h]
  | some p => simp [h]

theorem beginStep_starts (k : Nat) (side : Side) (s : State) : Starts (Begins k) side s (beginStep k s) := by
  obtain ⟨hbegun, hsame⟩ := starts_forSides (test := Begins k) (fun _ _ _ _ h hb => hb.congr h) (beginPass_other k)
    (begins_starts k) side (stepSet k s)
  have hset := stepSet_same k side s
  exact ⟨fun i hi => (hbegun i (hi.congr hset)).congr hset (.refl ..),
    fun hn => hset.trans (hsame fun i hi => hn i (hi.congr hset.symm))⟩

theorem beginStep_passesOnly (k : Nat) (s : State) : PassesOnly (stepSet k s) (beginStep k s) :=
  passesOnly_forSides (beginPass_passesOnly k) _

/-! ### The step goes on (R126, R134) -/

/-- A pass of step `k` that is cut again, or that its tool had held back. -/
def Recuts (k i : Nat) (side : Side) (s : State) : Prop :=
  Begins k i side s ∧ ((passStatuses side s)[i - 1]? = some .incomplete ∨ (passStatuses side s)[i - 1]? = some .pending)

theorem Recuts.congr {k i : Nat} {side : Side} {s t : State} (h : SameSide side s t) (hr : Recuts k i side s) :
    Recuts k i side t := by
  unfold Recuts at hr ⊢
  rw [h.statuses]
  exact ⟨hr.1.congr h, hr.2⟩

theorem recutPass_recuts {k i : Nat} {side : Side} {s : State} (h : Recuts k i side s) :
    recutPass k side s = passBegun i side s := by
  obtain ⟨hbegins, hstatus⟩ := h
  rw [← beginPass_begins hbegins]
  unfold recutPass
  rw [hbegins.2]
  exact if_pos hstatus

theorem recutPass_stays {k : Nat} {side : Side} {s : State} (h : ∀ i, ¬ Recuts k i side s) : recutPass k side s = s := by
  unfold recutPass
  split
  · rfl
  · next i hi =>
    dsimp only
    split
    · next hstatus =>
      refine beginPass_stays fun j hj => h j ?_
      obtain rfl : i = j := Option.some.inj (hi.symm.trans hj.2)
      exact ⟨hj, hstatus⟩
    · rfl

theorem recutPass_cases (k : Nat) (side : Side) (s : State) :
    (∃ i, Recuts k i side s ∧ recutPass k side s = passBegun i side s) ∨
    ((∀ i, ¬ Recuts k i side s) ∧ recutPass k side s = s) := by
  by_cases h : ∃ i, Recuts k i side s
  · obtain ⟨i, hi⟩ := h
    exact .inl ⟨i, hi, recutPass_recuts hi⟩
  · have hn : ∀ i, ¬ Recuts k i side s := fun i hi => h ⟨i, hi⟩
    exact .inr ⟨hn, recutPass_stays hn⟩

theorem recutPass_passesOnly (k : Nat) (side : Side) (s : State) : PassesOnly s (recutPass k side s) := by
  obtain ⟨i, -, h⟩ | ⟨-, h⟩ := recutPass_cases k side s
  · rw [h]
    exact passBegun_passesOnly i side s
  · rw [h]
    exact .refl s

theorem recutPass_other (k : Nat) (side : Side) (s : State) : SameSide side.other s (recutPass k side s) := by
  obtain ⟨i, -, h⟩ | ⟨-, h⟩ := recutPass_cases k side s
  · rw [h]
    exact passBegun_other i side s
  · rw [h]
    exact .refl ..

theorem recuts_starts (k : Nat) (side : Side) (s : State) : Starts (Recuts k) side s (forSides (recutPass k) s) :=
  starts_forSides (test := Recuts k) (fun _ _ _ _ h hr => hr.congr h) (recutPass_other k)
    (fun side s => ⟨fun i hi => by rw [recutPass_recuts hi]; exact passBegun_begun i side s,
      fun hn => by rw [recutPass_stays hn]; exact .refl ..⟩) side s

/-- A wheel whose step has ended has no pass to cut again. -/
theorem not_recuts_of_done {k : Nat} {side : Side} {s : State} (h : sideStepDone k s side = true) (i : Nat) :
    ¬ Recuts k i side s := by
  rintro ⟨⟨-, hpass⟩, hstatus⟩
  unfold sideStepDone at h
  rw [hpass] at h
  obtain hstatus | hstatus := hstatus <;> simp [hstatus] at h

/-- A wheel whose step has not ended has not ended it by going on. -/
theorem sideStepDone_recut {k : Nat} {side : Side} {s : State} (h : sideStepDone k s side = false) :
    sideStepDone k (forSides (recutPass k) s) side = false := by
  obtain ⟨hbegun, hsame⟩ := recuts_starts k side s
  by_cases hr : ∃ i, Recuts k i side s
  · obtain ⟨i, hi⟩ := hr
    have hb := hbegun i hi
    have hplan : planPasses side (forSides (recutPass k) s) = planPasses side s := by
      unfold planPasses
      rw [hb.tpe]
    unfold sideStepDone
    rw [hplan, hi.1.2, hb.head]
    simp [Head.moveTo]
  · rw [(hsame fun i hi => hr ⟨i, hi⟩).sideStepDone]
    exact h

end Steps

end Sys2Proof.Machine

namespace Sys2Proof.Machine

/-! ## The step-end test (R129) -/

section StepEnd

theorem stepEnd_waits {s : State} {p : Progress} (hp : s.tcu.progress = some p)
    (h : sideStepDone p.step s .l = false ∨ sideStepDone p.step s .r = false) : stepEnd s = s := by
  unfold stepEnd
  split
  · next p' c _ hp' _ =>
    obtain rfl : p = p' := Option.some.inj (hp.symm.trans hp')
    refine if_neg fun hd => ?_
    rw [Bool.and_eq_true] at hd
    obtain h | h := h
    · simp [h] at hd
    · simp [h] at hd
  · rfl

theorem stepEnd_ends {s : State} {p : Progress} {c : PlanCut} (hs : s.tcu.state = .cutting) (hp : s.tcu.progress = some p)
    (hc : s.tpe.plan.cut = some c) (h : ∀ side, sideStepDone p.step s side = true) :
    stepEnd s =
      if p.step = c.steps then endDone s
      else if wornForLater p.step s .l || wornForLater p.step s .r then
        rundown (s.modTcu fun t => { t with state := .paused .edge })
      else beginStep (p.step + 1) s := by
  unfold stepEnd
  rw [hs, hp, hc]
  exact if_pos (by simp [h])

theorem leaveEnding_running {s : State} (h : s.tcu.spindle ≠ .stopped) : leaveEnding s = s := by
  unfold leaveEnding
  split
  · exact if_neg fun hc => h hc.1
  · rfl

theorem sendToPark_tcu (side : Side) (s : State) : ∃ head, (sendToPark side s).tcu = { s.tcu with head := head } := by
  unfold sendToPark
  dsimp only
  split
  · exact ⟨_, rfl⟩
  · exact ⟨_, rfl⟩

theorem rundown_running {s : State} (h : spindleRunning s = true) :
    rundown s = s.modTcu fun t => { t with spindle := .rundown, stopTimer := some Config.stopTime } := if_pos h

/-- The turning is COMPLETE, its entry handed (R130). -/
def turningDone (s : State) : State :=
  (handEntry (turnedEntry false s) s).modTcu fun t => { t with state := .ending false, lastTurn := .complete }

theorem turningDone_tcu (s : State) :
    (turningDone s).tcu = { s.tcu with state := .ending false, lastTurn := .complete } := by
  unfold turningDone
  rw [State.modTcu_tcu, handEntry_tcu]

theorem endDone_eq (s : State) : endDone s = leaveEnding (forSides sendToPark (rundown (turningDone s))) := rfl

/-- The turning enters ENDING(DONE) with a spindle that runs (R130). -/
theorem endDone_running {s : State} (h : spindleRunning s = true) :
    (endDone s).tcu.state = .ending false ∧ (endDone s).tcu.lastTurn = .complete ∧ (endDone s).tcu.spindle = .rundown ∧
    (endDone s).tcu.rollerSpeed = s.tcu.rollerSpeed := by
  have hrun : spindleRunning (turningDone s) = true := by
    rw [spindleRunning_congr (s := s) (by rw [turningDone_tcu])]
    exact h
  obtain ⟨headl, hl⟩ := sendToPark_tcu .l (rundown (turningDone s))
  obtain ⟨headr, hr⟩ := sendToPark_tcu .r (sendToPark .l (rundown (turningDone s)))
  have hboth : (forSides sendToPark (rundown (turningDone s))).tcu = { s.tcu with
      state := .ending false, lastTurn := .complete, spindle := .rundown, stopTimer := some Config.stopTime,
      head := headr } := by
    show (sendToPark .r (sendToPark .l (rundown (turningDone s)))).tcu = _
    rw [hr, hl, rundown_running hrun, State.modTcu_tcu, turningDone_tcu]
  rw [endDone_eq, leaveEnding_running (by rw [hboth]; simp), hboth]
  exact ⟨rfl, rfl, rfl, rfl⟩

/-- The TCU is CUTTING. -/
def cuttingAgain (s : State) : State := s.modTcu fun t => { t with state := .cutting }

theorem cuttingAgain_same (side : Side) (s : State) : SameSide side s (cuttingAgain s) := ⟨rfl, rfl, rfl⟩

theorem PassesOnly.progress {s t : State} {p : Progress} (h : PassesOnly s t) (hp : s.tcu.progress = some p) :
    ∃ p', t.tcu.progress = some p' ∧ p'.step = p.step := by
  obtain ⟨head, progress, rfl, hstep⟩ := h
  rw [hp] at hstep
  cases progress with
  | none => cases hstep
  | some p' => exact ⟨p', rfl, Option.some.inj hstep⟩

/-- A step that has not ended goes on, each pass that is INCOMPLETE or was held back begun. -/
theorem continueCutting_goes {s : State} {p : Progress} (hp : s.tcu.progress = some p)
    (h : sideStepDone p.step s .l = false ∨ sideStepDone p.step s .r = false) :
    continueCutting s = forSides (recutPass p.step) (cuttingAgain s) := by
  have hprogress : (cuttingAgain s).tcu.progress = some p := hp
  have hrecut : PassesOnly (cuttingAgain s) (forSides (recutPass p.step) (cuttingAgain s)) :=
    passesOnly_forSides (recutPass_passesOnly p.step) _
  obtain ⟨p', hp', hstep⟩ := hrecut.progress hprogress
  have heq : continueCutting s = stepEnd (forSides (recutPass p.step) (cuttingAgain s)) := by
    unfold continueCutting
    dsimp only
    rw [show (s.modTcu fun t => { t with state := .cutting }) = cuttingAgain s from rfl, hprogress]
  rw [heq]
  refine stepEnd_waits hp' ?_
  rw [hstep]
  exact h.imp (fun h => sideStepDone_recut (((cuttingAgain_same .l s).sideStepDone _).trans h))
    (fun h => sideStepDone_recut (((cuttingAgain_same .r s).sideStepDone _).trans h))

/-- A step that has ended is tested at once (log 66). -/
theorem continueCutting_ends {s : State} {p : Progress} (hp : s.tcu.progress = some p)
    (h : ∀ side, sideStepDone p.step s side = true) : continueCutting s = stepEnd (cuttingAgain s) := by
  have hprogress : (cuttingAgain s).tcu.progress = some p := hp
  have hstay : ∀ side, recutPass p.step side (cuttingAgain s) = cuttingAgain s := fun side =>
    recutPass_stays (not_recuts_of_done (((cuttingAgain_same side s).sideStepDone _).trans (h side)))
  have hboth : forSides (recutPass p.step) (cuttingAgain s) = cuttingAgain s := by
    unfold forSides
    rw [hstay .l, hstay .r]
  unfold continueCutting
  dsimp only
  rw [show (s.modTcu fun t => { t with state := .cutting }) = cuttingAgain s from rfl, hprogress]
  dsimp only
  rw [hboth]

end StepEnd

/-! ## The rollers and the spindle -/

section Rollers

/-- The rollers at a speed. -/
def rolled (roller : Nat) (s : State) : State := { s with tcu := { s.tcu with rollerSpeed := roller } }

/-- The spindle AT_SPEED, the blanking of M8 at its end. -/
def sped (roller v : Nat) (s : State) : State :=
  { s with
    tcu := { s.tcu with rollerSpeed := roller, spindle := .atSpeed v }
    fmu := { s.fmu with slipBlanked := false } }

theorem exec_rollers (pairL pairR : Nat) (s : State) :
    exec (.rollerSpeedChange pairL pairR) s = .next (close s (rollersChanged pairL pairR s)) := exec_next _ s

/-- With a spindle that is not in RUNUP the speed alone changes. -/
theorem rollersChanged_apart {pairL pairR : Nat} {s : State} (h : spindleTarget s = none ∨ ∃ v, s.tcu.spindle = .atSpeed v) :
    rollersChanged pairL pairR s = rolled ((pairL + pairR) / 2) s := by
  unfold rollersChanged
  dsimp only
  split
  · next target htarget =>
    have hrun : s.tcu.spindle = .runup target := htarget
    obtain h | ⟨v, h⟩ := h
    · simp [spindleTarget, hrun] at h
    · simp [hrun] at h
  · rfl

theorem rollersChanged_below {pairL pairR v : Nat} {s : State} (hv : s.tcu.spindle = .runup v)
    (hw : withinTarget ((pairL + pairR) / 2) v = false) :
    rollersChanged pairL pairR s = endSlipBlanking v (rolled ((pairL + pairR) / 2) s) := by
  have hspindle : (rolled ((pairL + pairR) / 2) s).tcu.spindle = .runup v := hv
  show (match (rolled ((pairL + pairR) / 2) s).tcu.spindle with
    | .runup target =>
      if withinTarget (endSlipBlanking target (rolled ((pairL + pairR) / 2) s)).tcu.rollerSpeed target then
        reachSpeed target (endSlipBlanking target (rolled ((pairL + pairR) / 2) s))
      else endSlipBlanking target (rolled ((pairL + pairR) / 2) s)
    | _ => rolled ((pairL + pairR) / 2) s) = _
  rw [hspindle]
  exact if_neg (Bool.not_eq_true _ ▸ hw)

theorem rollersChanged_within {pairL pairR v : Nat} {s : State} (hv : s.tcu.spindle = .runup v)
    (hw : withinTarget ((pairL + pairR) / 2) v = true) :
    rollersChanged pairL pairR s = reachSpeed v (endSlipBlanking v (rolled ((pairL + pairR) / 2) s)) := by
  have hspindle : (rolled ((pairL + pairR) / 2) s).tcu.spindle = .runup v := hv
  show (match (rolled ((pairL + pairR) / 2) s).tcu.spindle with
    | .runup target =>
      if withinTarget (endSlipBlanking target (rolled ((pairL + pairR) / 2) s)).tcu.rollerSpeed target then
        reachSpeed target (endSlipBlanking target (rolled ((pairL + pairR) / 2) s))
      else endSlipBlanking target (rolled ((pairL + pairR) / 2) s)
    | _ => rolled ((pairL + pairR) / 2) s) = _
  rw [hspindle]
  exact if_pos hw

/-- What the spindle at its speed does to the turning. -/
theorem reachSpeed_eq (roller v : Nat) (s : State) :
    reachSpeed v (endSlipBlanking v (rolled roller s)) =
      match s.tcu.state, s.tcu.progress with
      | .runup, some p =>
        if p.step = 0 then beginStep 1 (cuttingAgain (sped roller v s)) else continueCutting (sped roller v s)
      | _, _ => sped roller v s := rfl

theorem reachSpeed_apart {roller v : Nat} {s : State} (h : s.tcu.state ≠ .runup) :
    reachSpeed v (endSlipBlanking v (rolled roller s)) = sped roller v s := by
  rw [reachSpeed_eq]
  split
  · next hs _ => exact absurd hs h
  · rfl

theorem reachSpeed_runup {roller v : Nat} {s : State} {p : Progress} (h : s.tcu.state = .runup)
    (hp : s.tcu.progress = some p) :
    reachSpeed v (endSlipBlanking v (rolled roller s)) =
      if p.step = 0 then beginStep 1 (cuttingAgain (sped roller v s)) else continueCutting (sped roller v s) := by
  rw [reachSpeed_eq, h, hp]

/-- What the TCU keeps while passes begin. -/
theorem PassesOnly.tcu {s t : State} (h : PassesOnly s t) :
    t.tcu.spindle = s.tcu.spindle ∧ t.tcu.state = s.tcu.state ∧ t.tcu.rollerSpeed = s.tcu.rollerSpeed ∧
    t.tcu.progress.map Progress.step = s.tcu.progress.map Progress.step := by
  obtain ⟨_, _, rfl, hstep⟩ := h
  exact ⟨rfl, rfl, rfl, hstep⟩

theorem beginStep_tcu (k : Nat) (s : State) :
    (beginStep k s).tcu.spindle = s.tcu.spindle ∧ (beginStep k s).tcu.state = s.tcu.state ∧
    (beginStep k s).tcu.rollerSpeed = s.tcu.rollerSpeed ∧
    (beginStep k s).tcu.progress.map Progress.step = s.tcu.progress.map fun _ => k := by
  obtain ⟨h1, h2, h3, h4⟩ := (beginStep_passesOnly k s).tcu
  refine ⟨h1, h2, h3, h4.trans ?_⟩
  show (s.tcu.progress.map _).map _ = _
  rw [Option.map_map]
  rfl

theorem rundown_rollerSpeed (s : State) : (rundown s).tcu.rollerSpeed = s.tcu.rollerSpeed := by
  unfold rundown
  split
  · rfl
  · rfl

theorem stepEnd_rollerSpeed {s : State} (h : spindleRunning s = true) :
    (stepEnd s).tcu.rollerSpeed = s.tcu.rollerSpeed := by
  unfold stepEnd
  split
  · split
    · split
      · exact (endDone_running h).2.2.2
      · split
        · exact rundown_rollerSpeed _
        · exact (beginStep_tcu _ s).2.2.1
    · rfl
  · rfl

theorem continueCutting_rollerSpeed {s : State} (h : spindleRunning s = true) :
    (continueCutting s).tcu.rollerSpeed = s.tcu.rollerSpeed := by
  unfold continueCutting
  dsimp only
  split
  · rfl
  · next p _ =>
    obtain ⟨hspindle, -, hroller, -⟩ := (passesOnly_forSides (recutPass_passesOnly p.step)
      (s.modTcu fun t => { t with state := .cutting })).tcu
    rw [stepEnd_rollerSpeed, hroller]
    · rfl
    · rw [spindleRunning_congr (s := s) hspindle]
      exact h

theorem spindleRunning_sped (roller v : Nat) (s : State) : spindleRunning (sped roller v s) = true := rfl

theorem reachSpeed_rollerSpeed (roller v : Nat) (s : State) :
    (reachSpeed v (endSlipBlanking v (rolled roller s))).tcu.rollerSpeed = roller := by
  rw [reachSpeed_eq]
  split
  · split
    · exact (beginStep_tcu 1 _).2.2.1
    · exact continueCutting_rollerSpeed (spindleRunning_sped roller v s)
  · rfl

/-- Reaching the speed leaves the monitors and the lift. -/
theorem reachSpeed_kept (roller v : Nat) (s : State) :
    Kept { pmu := true, tpe := true, tcu := true, spindle := true, ahs := true } (sped roller v s)
      (reachSpeed v (endSlipBlanking v (rolled roller s))) := by
  rw [reachSpeed_eq]
  split
  · split
    · exact kept_beginStep 1 rfl (kept_modTcuRest (fun t => { t with state := .cutting }) (fun _ => rfl) rfl (.refl _ _))
    · exact kept_continueCutting rfl rfl rfl rfl rfl (.refl _ _)
  · exact .refl _ _

/-! ### The cases of a turning in RUNUP -/

theorem SameSide.of_sped (roller v : Nat) (side : Side) (s : State) : SameSide side s (cuttingAgain (sped roller v s)) :=
  ⟨rfl, rfl, rfl⟩

/-- A turning that has begun no step begins step 1 (R125, R126). -/
theorem reachSpeed_first {roller v : Nat} {s : State} {p : Progress} (h : s.tcu.state = .runup)
    (hp : s.tcu.progress = some p) (hstep : p.step = 0) {u : State}
    (hu : u = reachSpeed v (endSlipBlanking v (rolled roller s))) :
    u.tcu.spindle = .atSpeed v ∧ u.tcu.state = .cutting ∧ u.tcu.progress.map Progress.step = some 1 ∧
    ∀ side,
      if (passInStep 1 (planPasses side s)).isSome ∧ (s.tcu.head.get side).tool = .usable then
        (u.tcu.head.get side).position = .moving ∧ (u.tcu.head.get side).dest = some .passStart
      else u.tcu.head.get side = s.tcu.head.get side := by
  rw [reachSpeed_runup h hp, if_pos hstep] at hu
  obtain ⟨h1, h2, -, h4⟩ := beginStep_tcu 1 (cuttingAgain (sped roller v s))
  rw [hu]
  refine ⟨h1, h2, h4.trans (by rw [show (cuttingAgain (sped roller v s)).tcu.progress = some p from hp]; rfl), fun side => ?_⟩
  have hsame := SameSide.of_sped roller v side s
  obtain ⟨hbegun, hstay⟩ := beginStep_starts 1 side (cuttingAgain (sped roller v s))
  split
  · next hc =>
    obtain ⟨hpass, htool⟩ := hc
    obtain ⟨i, hi⟩ := Option.isSome_iff_exists.1 hpass
    have hb := hbegun i (Begins.congr hsame ⟨htool, hi⟩)
    rw [hb.head]
    exact ⟨rfl, rfl⟩
  · next hc =>
    refine (hstay fun i hi => hc ?_).head.trans hsame.head
    obtain ⟨htool, hpass⟩ := hi.congr hsame.symm
    exact ⟨by rw [hpass]; rfl, htool⟩

theorem sideStepDone_all {k : Nat} {s : State} :
    ([Side.l, .r].all (sideStepDone k s) = true ↔ ∀ side, sideStepDone k s side = true) ∧
    ([Side.l, .r].all (sideStepDone k s) = false ↔ sideStepDone k s .l = false ∨ sideStepDone k s .r = false) := by
  simp only [List.all_cons, List.all_nil, Bool.and_true, Bool.and_eq_true, Bool.and_eq_false_iff, and_true]
  exact ⟨fun ⟨hl, hr⟩ side => by cases side <;> assumption, fun h => ⟨h .l, h .r⟩⟩

/-- A head that begins its pass. -/
theorem PassBegun.starts {i : Nat} {side : Side} {s u : State} (h : PassBegun i side s u) {q : Pass}
    (hq : (planPasses side s)[i - 1]? = some q) {status : PassStatus} (hs : (passStatuses side s)[i - 1]? = some status) :
    (u.tcu.head.get side).position = .moving ∧ (u.tcu.head.get side).dest = some .passStart ∧
    (u.tcu.head.get side).passStart = some ⟨0, depthCut side s, q.depth⟩ ∧ passStatus side u = some .active := by
  have hstart : startOf i side s = some ⟨0, depthCut side s, q.depth⟩ := by
    unfold startOf
    rw [hq]
    rfl
  unfold passStatus
  rw [h.statuses, h.head, hstart]
  refine ⟨rfl, rfl, rfl, ?_⟩
  dsimp only
  exact List.getElem?_set_self (List.getElem?_eq_some_iff.1 hs).1

/-- The heads of a step that goes on, each pass that is INCOMPLETE or was held back begun. -/
theorem Starts.recuts {k : Nat} {side : Side} {s u : State} (h : Starts (Recuts k) side s u) :
    (∀ i q, ((s.tcu.head.get side).tool = .usable ∧ passInStep k (planPasses side s) = some i ∧
        ((passStatuses side s)[i - 1]? = some .incomplete ∨ (passStatuses side s)[i - 1]? = some .pending)) →
      (planPasses side s)[i - 1]? = some q →
      (u.tcu.head.get side).position = .moving ∧ (u.tcu.head.get side).dest = some .passStart ∧
      (u.tcu.head.get side).passStart = some ⟨0, depthCut side s, q.depth⟩ ∧ passStatus side u = some .active) ∧
    ((∀ i, ¬ ((s.tcu.head.get side).tool = .usable ∧ passInStep k (planPasses side s) = some i ∧
        ((passStatuses side s)[i - 1]? = some .incomplete ∨ (passStatuses side s)[i - 1]? = some .pending))) →
      u.tcu.head.get side = s.tcu.head.get side) := by
  obtain ⟨hbegun, hstay⟩ := h
  refine ⟨fun i q hagain hq => ?_, fun hn => (hstay fun i hi => hn i ⟨hi.1.1, hi.1.2, hi.2⟩).head⟩
  obtain ⟨htool, hpass, hstatus⟩ := hagain
  have hb := hbegun i ⟨⟨htool, hpass⟩, hstatus⟩
  obtain ⟨status, hs⟩ : ∃ status, (passStatuses side s)[i - 1]? = some status := hstatus.elim (⟨_, ·⟩) (⟨_, ·⟩)
  exact hb.starts hq hs

/-- A turning whose step has not ended goes on with it (R126, R134). -/
theorem reachSpeed_goes {roller v : Nat} {s : State} {p : Progress} (h : s.tcu.state = .runup)
    (hp : s.tcu.progress = some p) (hstep : p.step ≠ 0) (hdone : [Side.l, .r].all (sideStepDone p.step s) = false)
    {u : State} (hu : u = reachSpeed v (endSlipBlanking v (rolled roller s))) :
    u.tcu.spindle = .atSpeed v ∧ u.tcu.state = .cutting ∧ u.tcu.progress.map Progress.step = some p.step ∧
    ∀ side, Starts (Recuts p.step) side s u := by
  rw [reachSpeed_runup h hp, if_neg hstep, continueCutting_goes (s := sped roller v s) (p := p) hp] at hu
  · obtain ⟨h1, h2, -, h4⟩ := (passesOnly_forSides (recutPass_passesOnly p.step) (cuttingAgain (sped roller v s))).tcu
    rw [hu]
    refine ⟨h1, h2, h4.trans (by rw [show (cuttingAgain (sped roller v s)).tcu.progress = some p from hp]; rfl), fun side => ?_⟩
    have hsame := SameSide.of_sped roller v side s
    obtain ⟨hbegun, hstay⟩ := recuts_starts p.step side (cuttingAgain (sped roller v s))
    exact ⟨fun i hi => (hbegun i (hi.congr hsame)).congr hsame (.refl ..),
      fun hn => hsame.trans (hstay fun i hi => hn i (hi.congr hsame.symm))⟩
  · exact sideStepDone_all.2.1 hdone

/-- A tool that is not worn for a later pass lets the pass of the next step begin. -/
theorem usable_of_not_worn {k i : Nat} {side : Side} {s : State} (h : wornForLater k s side = false)
    (hi : passInStep (k + 1) (planPasses side s) = some i) : (s.tcu.head.get side).tool = .usable := by
  have hany : (planPasses side s).any (fun p => p.step == k + 1) = true := by
    rw [← List.findIdx?_isSome, ← Option.isSome_map]
    exact Option.isSome_iff_exists.2 ⟨i, hi⟩
  have hlater : (planPasses side s).any (fun p => decide (k < p.step)) = true := by
    obtain ⟨p, hp, hstep⟩ := List.any_eq_true.1 hany
    exact List.any_eq_true.2 ⟨p, hp, by simp at hstep ⊢; omega⟩
  unfold wornForLater at h
  rw [hlater] at h
  simpa using h

/-- A turning whose step has ended makes the step-end test (R129, log 66). -/
theorem reachSpeed_ends {roller v : Nat} {s : State} {p : Progress} {c : PlanCut} (h : s.tcu.state = .runup)
    (hp : s.tcu.progress = some p) (hstep : p.step ≠ 0) (hdone : [Side.l, .r].all (sideStepDone p.step s) = true)
    (hc : s.tpe.plan.cut = some c) {u : State} (hu : u = reachSpeed v (endSlipBlanking v (rolled roller s))) :
    (p.step = c.steps → u.tcu.state = .ending false ∧ u.tcu.lastTurn = .complete ∧ u.tcu.spindle = .rundown) ∧
    (p.step ≠ c.steps → [Side.l, .r].any (wornForLater p.step s) = true →
      u.tcu.state = .paused .edge ∧ u.tcu.spindle = .rundown ∧ u.tcu.stopTimer = some 2000 ∧
      u.tcu.progress = some p ∧ u.tcu.head = s.tcu.head) ∧
    (p.step ≠ c.steps → [Side.l, .r].any (wornForLater p.step s) = false →
      u.tcu.spindle = .atSpeed v ∧ u.tcu.state = .cutting ∧ u.tcu.progress.map Progress.step = some (p.step + 1) ∧
      ∀ side, (passInStep (p.step + 1) (planPasses side s)).isSome = true →
        (u.tcu.head.get side).position = .moving ∧ (u.tcu.head.get side).dest = some .passStart) := by
  have hall := sideStepDone_all.1.1 hdone
  rw [reachSpeed_runup h hp, if_neg hstep, continueCutting_ends (s := sped roller v s) (p := p) hp hall,
    stepEnd_ends (s := cuttingAgain (sped roller v s)) rfl hp hc hall] at hu
  have hworn : [Side.l, .r].any (wornForLater p.step s) =
      (wornForLater p.step (cuttingAgain (sped roller v s)) .l || wornForLater p.step (cuttingAgain (sped roller v s)) .r) := by
    simp only [List.any_cons, List.any_nil, Bool.or_false]
    rfl
  rw [hworn]
  refine ⟨fun hk => ?_, fun hk hw => ?_, fun hk hw => ?_⟩
  · rw [if_pos hk] at hu
    obtain ⟨h1, h2, h3, -⟩ := endDone_running (s := cuttingAgain (sped roller v s)) rfl
    rw [hu]
    exact ⟨h1, h2, h3⟩
  · rw [if_neg hk, if_pos hw, rundown_running rfl] at hu
    rw [hu]
    exact ⟨rfl, rfl, rfl, hp, rfl⟩
  · rw [if_neg hk, if_neg (by simp [hw])] at hu
    obtain ⟨h1, h2, -, h4⟩ := beginStep_tcu (p.step + 1) (cuttingAgain (sped roller v s))
    rw [hu]
    refine ⟨h1, h2, h4.trans (by rw [show (cuttingAgain (sped roller v s)).tcu.progress = some p from hp]; rfl),
      fun side hside => ?_⟩
    obtain ⟨i, hi⟩ := Option.isSome_iff_exists.1 hside
    have hside : wornForLater p.step s side = false := by
      rw [Bool.or_eq_false_iff] at hw
      cases side
      · exact hw.1
      · exact hw.2
    have htool := usable_of_not_worn hside hi
    have hb := (beginStep_starts (p.step + 1) side (cuttingAgain (sped roller v s))).1 i
      (Begins.congr (SameSide.of_sped roller v side s) ⟨htool, hi⟩)
    rw [hb.head]
    exact ⟨rfl, rfl⟩

end Rollers

/-! ## The stop timer (R120, R130, R140) -/

section StopTimer

/-- The spindle STOPPED. -/
def stopped (s : State) : State := s.modTcu fun t => { t with spindle := .stopped, stopTimer := none }

theorem stopExpiry_eq {s : State} (h : s.tcu.spindle = .rundown) (ht : s.tcu.stopTimer.isSome = true) :
    stopExpiry s = leaveEnding (leaveMeasureRun (if s.tcu.measuring then runForMeasure (stopped s) else stopped s)) := by
  unfold stopExpiry
  rw [if_pos ⟨h, ht⟩]
  rfl

theorem exec_stopExpiry (s : State) : exec .stopTimerExpiry s = .next (close s (stopExpiry s)) := exec_next _ s

theorem leaveMeasureRun_other {s : State} (h : ∀ left, s.tcu.state ≠ .measureRun left) : leaveMeasureRun s = s := by
  unfold leaveMeasureRun
  split
  · next left hs => exact absurd hs (h left)
  · rfl

theorem leaveMeasureRun_left {s : State} {left : LeftState} (h : s.tcu.state = .measureRun left)
    (hs : s.tcu.spindle = .stopped) (hm : s.tcu.measuring = false) :
    leaveMeasureRun s = s.modTcu fun t => { t with state := left.state } := by
  unfold leaveMeasureRun
  rw [h]
  exact if_pos ⟨hs, hm⟩

theorem leaveMeasureRun_running {s : State} (h : s.tcu.spindle ≠ .stopped) : leaveMeasureRun s = s := by
  unfold leaveMeasureRun
  split
  · exact if_neg fun hc => h hc.1
  · rfl

theorem leaveEnding_other {s : State} (h : ∀ ab, s.tcu.state ≠ .ending ab) : leaveEnding s = s := by
  unfold leaveEnding
  split
  · next ab hs => exact absurd hs (h ab)
  · rfl

/-- A turning leaves ENDING with the spindle STOPPED and each head PARKED or HALTED (R130). -/
theorem leaveEnding_leaves {s : State} {ab : Bool} (h : s.tcu.state = .ending ab) (hs : s.tcu.spindle = .stopped)
    (hh : ∀ side, (s.tcu.head.get side).position = .parked ∨ (s.tcu.head.get side).position = .halted) :
    (leaveEnding s).tcu.state = (if ab then .aborted else .done) ∧ (leaveEnding s).pmu.turnedSince = true ∧
    (ab = false → (leaveEnding s).tpe.plan = { s.tpe.plan with state := .spent }) ∧
    ∀ side, ((leaveEnding s).tcu.head.get side).owner = .none := by
  have hall : s.tcu.head.all (fun h => h.position == .parked || h.position == .halted) = true := by
    have hl := hh .l
    have hr := hh .r
    simp only [Sides.get] at hl hr
    simp [Sides.all, hl, hr]
  unfold leaveEnding
  rw [h]
  dsimp only
  rw [if_pos ⟨hs, hall⟩]
  cases ab with
  | true => exact ⟨rfl, rfl, (fun h => by cases h), fun side => (by cases side <;> rfl)⟩
  | false => exact ⟨rfl, rfl, fun _ => rfl, fun side => (by cases side <;> rfl)⟩

theorem leaveEnding_spindle (s : State) :
    (leaveEnding s).tcu.spindle = s.tcu.spindle ∧ (leaveEnding s).tcu.stopTimer = s.tcu.stopTimer := by
  unfold leaveEnding
  split
  · split
    · dsimp only
      split
      · exact ⟨rfl, rfl⟩
      · exact ⟨rfl, rfl⟩
    · exact ⟨rfl, rfl⟩
  · exact ⟨rfl, rfl⟩

/-- The stop timer with no measuring run asked for (R120, R130, R140). -/
theorem stopExpiry_idle {s : State} (h : s.tcu.spindle = .rundown) (ht : s.tcu.stopTimer.isSome = true)
    (hm : s.tcu.measuring = false) :
    ∃ t, exec .stopTimerExpiry s = .next t ∧ t.tcu.spindle = .stopped ∧ t.tcu.stopTimer = none ∧
      t.blu = s.blu ∧ t.sst = s.sst ∧ t.ahs = s.ahs ∧
      (∀ left, s.tcu.state = .measureRun left → t.tcu.state = left.state) ∧
      (∀ ab, s.tcu.state = .ending ab →
        (∀ side, (s.tcu.head.get side).position = .parked ∨ (s.tcu.head.get side).position = .halted) →
        t.tcu.state = (if ab then .aborted else .done) ∧ t.pmu.turnedSince = true ∧
        (ab = false → t.tpe.plan = { s.tpe.plan with state := .spent }) ∧
        ∀ side, (t.tcu.head.get side).owner = .none) := by
  refine ⟨_, exec_stopExpiry s, ?_⟩
  have heq := stopExpiry_eq h ht
  rw [if_neg (by simp [hm])] at heq
  simp only [close_tcu, close_blu, close_sst, close_ahs, close_pmu, close_tpe]
  have hrun : ∃ st, (leaveMeasureRun (stopped s)).tcu = { (stopped s).tcu with state := st } :=
    ⟨_, (leaveMeasureRun_rest (stopped s)).choose_spec.1⟩
  have hkept : Kept { pmu := true, tpe := true, tcu := true, spindle := true } s (stopExpiry s) := by
    rw [heq]
    exact kept_leaveEnding rfl rfl rfl (kept_leaveMeasureRun rfl (kept_modTcu _ rfl rfl (.refl _ s)))
  refine ⟨?_, ?_, hkept.wholeBlu rfl rfl, hkept.sst rfl, hkept.wholeAhs rfl rfl, fun left hleft => ?_, fun ab hab hh => ?_⟩
  · obtain ⟨st, hst⟩ := hrun
    rw [heq, (leaveEnding_spindle _).1, hst]
    rfl
  · obtain ⟨st, hst⟩ := hrun
    rw [heq, (leaveEnding_spindle _).2, hst]
    rfl
  · rw [heq, leaveMeasureRun_left (s := stopped s) hleft rfl hm, leaveEnding_other fun ab => by cases left <;> simp [LeftState.state]]
    rfl
  · have hstate : (stopped s).tcu.state = .ending ab := hab
    rw [heq, leaveMeasureRun_other (s := stopped s) fun left => by rw [hstate]; simp]
    exact leaveEnding_leaves (s := stopped s) hab rfl hh

/-- A measuring run that waited for the spindle to stop begins (R140). -/
theorem stopExpiry_runs {s : State} (h : s.tcu.spindle = .rundown) (ht : s.tcu.stopTimer.isSome = true)
    (hm : s.tcu.measuring = true) (hsafe : (bothClamps .closed s && bothBridges .out s) = true) (hn : noneTripped [.m8] s = true) :
    ∃ t, exec .stopTimerExpiry s = .next t ∧
      t.tcu = { s.tcu with spindle := .runup 10, stopTimer := none, runEvents := 0, interval := 0 } ∧
      t.pmu = s.pmu ∧ t.blu = s.blu ∧ t.ahs = s.ahs ∧ t.sst = s.sst := by
  refine ⟨_, exec_stopExpiry s, ?_⟩
  have hrun : runForMeasure (stopped s) = spindleUp 10 (stopped s) := by
    unfold runForMeasure
    rw [if_pos (show (bothClamps .closed (stopped s) && bothBridges .out (stopped s)) = true from hsafe),
      if_pos (show (stopped s).tcu.spindle = .stopped from rfl)]
    rfl
  have hstroke : (s.fmu.monitors.get .m8).state ≠ .tripped := noneTripped_iff.1 hn .m8 (by simp)
  have hup : spindleUp 10 (stopped s) =
      ((stopped s).modTcu fun t => { t with spindle := .runup 10, stopTimer := none, runEvents := 0, interval := 0 }).modFmu
        fun u => { u with
          slipEighths := s.sst.active.slipBlanking
          slipBlanked := decide (s.tcu.rollerSpeed * 8 < s.sst.active.slipBlanking * 10 * 1000) } :=
    strokeStart_untripped hstroke
  rw [stopExpiry_eq h ht, if_pos hm, hrun, hup, leaveMeasureRun_running (by simp), leaveEnding_running (by simp)]
  simp only [close_tcu, close_pmu, close_blu, close_ahs, close_sst]
  exact ⟨rfl, rfl, rfl, rfl, rfl⟩

/-- A measuring run that waited, and that nothing supports, ends its sweep (R45, R92, R140). -/
theorem stopExpiry_unsupported {left : LeftState} {s : State} (h : s.tcu.spindle = .rundown)
    (ht : s.tcu.stopTimer.isSome = true) (hm : s.tcu.measuring = true) (hs : s.tcu.state = .measureRun left)
    (hsafe : (bothClamps .closed s && bothBridges .out s) = false) (hsweep : sweepRunning s = true) :
    ∃ t, exec .stopTimerExpiry s = .next t ∧ t.tcu.spindle = .stopped ∧ t.tcu.measuring = false ∧
      t.tcu.state = left.state ∧ t.pmu.phase = .idle ∧ t.pmu.lastSweep = .failed .support := by
  refine ⟨_, exec_stopExpiry s, ?_⟩
  have hrun : runForMeasure (stopped s) = supportLost (stopped s) :=
    if_neg (by simp [show (bothClamps .closed (stopped s) && bothBridges .out (stopped s)) = false from hsafe])
  rw [stopExpiry_eq h ht, if_pos hm, hrun]
  simp only [close_tcu, close_pmu]
  have hsweep' : sweepRunning (stopped s) = true := hsweep
  have hend : RunFinished (stopped s) (supportLost (stopped s)) := sweepFail_finished hsweep'
  obtain ⟨hphase, hlast, -, -⟩ := sweepFail_pmu (reason := .support) hsweep'
  have hspindle : (supportLost (stopped s)).tcu.spindle = .stopped := hend.spindle.trans (by simp [stopped, spindleRunning])
  have hleft : leaveMeasureRun (supportLost (stopped s)) =
      (supportLost (stopped s)).modTcu fun t => { t with state := left.state } := by
    obtain hstate | hstate := hend.left left hs
    · exact leaveMeasureRun_left hstate hspindle hend.measuring
    · rw [leaveMeasureRun_other fun l => by rw [hstate]; cases left <;> simp [LeftState.state], ← hstate]
      rfl
  rw [hleft, leaveEnding_other fun ab => by cases left <;> simp [LeftState.state]]
  exact ⟨hspindle, hend.measuring, rfl, hphase, hlast⟩

theorem passStatus_close (side : Side) (before s : State) : passStatus side (close before s) = passStatus side s :=
  passStatus_congr (by rw [close_tcu]) (passStatuses_congr (by rw [close_tcu]))

/-- Settles O46: the rollers by what the spindle and the turning do, and the stop timer by what waits for it. -/
theorem spindleFollowsRollers : Obligations.SpindleFollowsRollers := by
  unfold Obligations.SpindleFollowsRollers
  refine ⟨fun pairL pairR s => ⟨fun h => ?_, fun v hv hw => ?_, fun v hv hw => ?_⟩, fun s h ht hm => ?_,
    fun left s h ht hm hs => ⟨fun hsafe hn => stopExpiry_runs h ht hm hsafe hn,
      fun hsafe hsweep => stopExpiry_unsupported h ht hm hs hsafe hsweep⟩⟩
  · rw [exec_rollers, rollersChanged_apart h]
    rfl
  · refine ⟨_, exec_rollers pairL pairR s, ?_⟩
    have hkept := reachSpeed_kept ((pairL + pairR) / 2) v s
    have hroller := reachSpeed_rollerSpeed ((pairL + pairR) / 2) v s
    simp only [close_tcu, close_blu, close_fmu, passStatus_close]
    rw [rollersChanged_within hv hw]
    generalize hu : reachSpeed v (endSlipBlanking v (rolled ((pairL + pairR) / 2) s)) = u at hkept hroller ⊢
    refine ⟨?_, hroller, hkept.wholeBlu rfl rfl, fun hs => ?_, fun p hs hp hstep => ?_,
      fun p hs hp hstep => ⟨fun hdone => ?_, fun c hdone hc => ?_⟩⟩
    · rw [hkept.fmu rfl]
      rfl
    · rw [← hu, reachSpeed_apart hs]
      exact ⟨rfl, rfl, rfl⟩
    · exact reachSpeed_first hs hp hstep hu.symm
    · obtain ⟨h1, h2, h3, hside⟩ := reachSpeed_goes hs hp hstep hdone hu.symm
      exact ⟨h1, h2, h3, fun side => (hside side).recuts⟩
    · exact reachSpeed_ends hs hp hstep hdone hc hu.symm
  · refine ⟨_, exec_rollers pairL pairR s, ?_⟩
    simp only [close_tcu, close_blu, close_pmu]
    rw [rollersChanged_below hv hw]
    exact ⟨rfl, rfl, rfl⟩
  · obtain ⟨t, he, h1, h2, h3, h4, h5, hleft, hend⟩ := stopExpiry_idle h ht hm
    refine ⟨t, he, h1, h2, h3, h4, h5, fun left hs => ?_, hend⟩
    rw [hleft left hs]
    cases left <;> rfl

end StopTimer

end Sys2Proof.Machine

namespace Sys2Proof.Machine

/-! ## A monitor at a change of mode (R61) -/

section Modes

/-- A monitor that has nothing to do under one deglitch time has nothing to do under another. -/
theorem settleMonitor_time {time : Nat} {seen : Bool} {m : Monitor} (h : settleMonitor time seen m = m) (time' : Nat) :
    settleMonitor time' seen m = m := by
  obtain ⟨st, c, cond, tm, rec⟩ := m
  cases st <;> cases seen <;> cases rec <;> first | rfl | simp [settleMonitor, settleMonitor.recur] at h

/-- The record with the condition its owner hands. -/
def Monitor.handed (c : Bool) (m : Monitor) : Monitor := { m with condition := c }

theorem reviewed_eq (s : State) (m : MonitorId) :
    reviewed s m = settleMonitor (s.sst.active.deglitch.get m) (sees s m (ownerCondition s m))
      ((s.fmu.monitors.get m).handed (ownerCondition s m)) := rfl

/-- A settled record holds its condition, and the state machine has nothing to do on it (R49, R50). -/
theorem settled_monitor {s : State} (h : settled s = true) (m : MonitorId) :
    (s.fmu.monitors.get m).handed (ownerCondition s m) = s.fmu.monitors.get m ∧
    settleMonitor (s.sst.active.deglitch.get m) (sees s m (ownerCondition s m)) (s.fmu.monitors.get m) =
      s.fmu.monitors.get m := by
  have hr : reviewed s m = s.fmu.monitors.get m := by
    rw [← reviewAll_get, (settled_iff s).1 h]
  have hc : (s.fmu.monitors.get m).condition = ownerCondition s m := by
    rw [← hr]
    exact reviewed_condition s m
  have hsame : (s.fmu.monitors.get m).handed (ownerCondition s m) = s.fmu.monitors.get m := by
    rw [← hc]
    rfl
  refine ⟨hsame, ?_⟩
  rw [reviewed_eq, hsame] at hr
  exact hr

theorem settled_warned {s : State} (h : settled s = true) {m : MonitorId} (hw : (s.fmu.monitors.get m).state = .warned) :
    sees s m (ownerCondition s m) = true := by
  obtain ⟨-, hset⟩ := settled_monitor h m
  by_contra hs
  rw [Bool.not_eq_true] at hs
  have hq := congrArg Monitor.state hset
  simp [settleMonitor, hw, hs] at hq

theorem remode_unwarned {time : Nat} {mode : MonitorMode} {m : Monitor} (hm : mode ≠ .off) (hs : m.state ≠ .warned) :
    remode time mode m = m := by
  unfold remode
  split
  · exact absurd rfl hm
  · next h => exact absurd h hs
  · next h => exact absurd h hs
  · rfl

theorem remode_warned {time : Nat} {mode : MonitorMode} {m : Monitor} (hm : mode ≠ .off) (hn : mode ≠ .warnOnly)
    (hs : m.state = .warned) : remode time mode m = { m with state := .deglitch, timer := some time } := by
  cases mode with
  | off => exact absurd rfl hm
  | warnOnly => exact absurd rfl hn
  | latched => simp [remode, hs]
  | perStroke => simp [remode, hs]

/-- The record of a monitor whose mode may have changed. -/
def remoded (time : Nat) (was mode : MonitorMode) (m : Monitor) : Monitor := if mode = was then m else remode time mode m

theorem sees_on {s : State} {m : MonitorId} (h : s.sst.active.monitorMode.get m ≠ .off) (c : Bool) :
    sees s m c = (c && !blanked s m) := by
  unfold sees
  rw [bne_iff_ne.2 h, Bool.and_true]

theorem sees_off {s : State} {m : MonitorId} (h : s.sst.active.monitorMode.get m = .off) (c : Bool) :
    sees s m c = false := by
  simp [sees, h]

/-- What the end of the step makes of a monitor whose mode may have changed, by the table of R61. -/
theorem reviewed_remoded {s u : State} {m : MonitorId} {mode : MonitorMode} {time : Nat} (hs : settled s = true)
    (hmode : u.sst.active.monitorMode.get m = mode) (htime : u.sst.active.deglitch.get m = time)
    (hget : u.fmu.monitors.get m = remoded time (s.sst.active.monitorMode.get m) mode (s.fmu.monitors.get m)) :
    (mode = .off → s.sst.active.monitorMode.get m ≠ .off →
      (reviewed u m).state = .quiet ∧ (reviewed u m).timer = none ∧ (reviewed u m).recurrence = .none ∧
      (reviewed u m).count = (s.fmu.monitors.get m).count) ∧
    (mode = s.sst.active.monitorMode.get m → ownerCondition u m = ownerCondition s m → blanked u m = blanked s m →
      reviewed u m = s.fmu.monitors.get m) ∧
    (mode ≠ .off → ownerCondition u m = ownerCondition s m → blanked u m = blanked s m →
      (s.sst.active.monitorMode.get m = .off → (s.fmu.monitors.get m).state = .quiet →
        if ownerCondition s m && !blanked s m then
          (reviewed u m).state = .deglitch ∧ (reviewed u m).timer = some time
        else (reviewed u m).state = .quiet) ∧
      (s.sst.active.monitorMode.get m ≠ .off → (s.fmu.monitors.get m).state ≠ .warned →
        reviewed u m = s.fmu.monitors.get m) ∧
      (s.sst.active.monitorMode.get m = .warnOnly → (s.fmu.monitors.get m).state = .warned →
        if mode = .warnOnly then reviewed u m = s.fmu.monitors.get m
        else (reviewed u m).state = .deglitch ∧ (reviewed u m).timer = some time)) := by
  obtain ⟨hcond, hset⟩ := settled_monitor hs m
  generalize hb : s.fmu.monitors.get m = before at *
  generalize hwas : s.sst.active.monitorMode.get m = was at *
  have hkeep : u.fmu.monitors.get m = before → ownerCondition u m = ownerCondition s m →
      sees u m (ownerCondition s m) = sees s m (ownerCondition s m) → reviewed u m = before := fun hg hc hsees => by
    rw [reviewed_eq, hg, hc, hcond, hsees]
    exact settleMonitor_time hset _
  refine ⟨fun hm hw => ?_, fun hm hc hbl => ?_, fun hm hc hbl => ⟨fun hw hq => ?_, fun hw hn => ?_, fun hw hq => ?_⟩⟩
  · have hrec : u.fmu.monitors.get m = before.cleared := by
      rw [hget, hm]
      exact if_neg fun h => hw h.symm
    rw [reviewed_eq, sees_off (hmode.trans hm), hrec]
    exact ⟨rfl, rfl, rfl, rfl⟩
  · refine hkeep (by rw [hget]; exact if_pos hm) hc ?_
    unfold sees
    rw [hmode, hm, hwas, hbl]
  · have hrec : u.fmu.monitors.get m = before := by
      rw [hget]
      unfold remoded
      rw [if_neg fun h => hm (h.trans hw), remode_unwarned hm (by rw [hq]; simp)]
    rw [reviewed_eq, hrec, hc, hcond, sees_on (by rw [hmode]; exact hm), hbl, htime]
    cases ownerCondition s m && !blanked s m with
    | true => simp [settleMonitor, hq]
    | false => simp [settleMonitor, hq]
  · refine hkeep ?_ hc ?_
    · rw [hget]
      unfold remoded
      rw [remode_unwarned hm hn, ite_self]
    · rw [sees_on (by rw [hmode]; exact hm), sees_on (by rw [hwas]; exact hw), hbl]
  · have hon : was ≠ .off := by rw [hw]; simp
    have hseen : sees u m (ownerCondition s m) = sees s m (ownerCondition s m) := by
      rw [sees_on (by rw [hmode]; exact hm), sees_on (by rw [hwas]; exact hon), hbl]
    split
    · next hwarn =>
      refine hkeep ?_ hc hseen
      rw [hget]
      exact if_pos (hwarn.trans hw.symm)
    · next hwarn =>
      have hrec : u.fmu.monitors.get m = { before with state := .deglitch, timer := some time } := by
        rw [hget]
        unfold remoded
        rw [if_neg fun h => hwarn (h.trans hw), remode_warned hm hwarn hq]
      rw [reviewed_eq, hrec, hc, hseen, settled_warned hs (by rw [hb]; exact hq)]
      exact ⟨rfl, rfl⟩

/-! ### The changes of mode, one after the other -/

theorem completeUnconfirmed_kept (s : State) : Kept { clamp := true } s (forSides completeUnconfirmed s) :=
  kept_forSides _ (fun side _ => kept_completeUnconfirmed side rfl) (.refl _ s)

/-- The record that a monitor has once it has taken its mode. -/
def modeTaken (before : Settings) (s : State) (m : MonitorId) : Monitor :=
  remoded (s.sst.active.deglitch.get m) (before.monitorMode.get m) (s.sst.active.monitorMode.get m) (s.fmu.monitors.get m)

theorem PerMonitor.set_get {α : Type} (v : PerMonitor α) (m : MonitorId) : v.set (v.get m) m = v := by cases m <;> rfl

theorem modeChanged_fmu (before : Settings) (m : MonitorId) (s : State) :
    (modeChanged (before.monitorMode.get m) m s).fmu =
      { s.fmu with monitors := s.fmu.monitors.set (modeTaken before s m) m } := by
  unfold modeChanged modeTaken remoded
  dsimp only
  split
  · rw [PerMonitor.set_get]
  · rw [(completeUnconfirmed_kept _).fmu rfl]
    rfl

theorem modeChanged_sst (was : MonitorMode) (m : MonitorId) (s : State) : (modeChanged was m s).sst = s.sst :=
  (kept_modeChanged (keep := { fmu := true, clamp := true }) was m rfl rfl (.refl _ s)).sst rfl

theorem foldl_modeChanged (before : Settings) {ms : List MonitorId} (h : ms.Nodup) (s : State) :
    (ms.foldl (fun s m => modeChanged (before.monitorMode.get m) m s) s).fmu =
      { s.fmu with monitors := .ofFn fun m => if m ∈ ms then modeTaken before s m else s.fmu.monitors.get m } := by
  induction ms generalizing s with
  | nil =>
    have hid : PerMonitor.ofFn (fun m => s.fmu.monitors.get m) = s.fmu.monitors := PerMonitor.ext_get fun m => by simp
    simp [hid]
  | cons n ms ih =>
    obtain ⟨hn, hms⟩ := List.nodup_cons.1 h
    rw [List.foldl_cons, ih hms, modeChanged_fmu]
    simp only [Fmu.mk.injEq, and_true]
    refine PerMonitor.ext_get fun m => ?_
    unfold modeTaken
    simp only [PerMonitor.get_ofFn, List.mem_cons, modeChanged_sst, modeChanged_fmu]
    by_cases hm : m = n
    · subst hm
      rw [if_neg hn, if_pos (.inl rfl), PerMonitor.get_set_same]
    · simp only [PerMonitor.get_set_ne _ _ _ _ hm, hm, false_or]

/-- Every monitor takes its mode (R61). -/
theorem modesChanged_fmu (before : Settings) (s : State) :
    (modesChanged before s).fmu = { s.fmu with monitors := .ofFn (modeTaken before s) } := by
  have hall : ∀ m, m ∈ MonitorId.list := fun m => by cases m <;> decide
  unfold modesChanged
  rw [foldl_modeChanged before (by decide) s]
  simp only [hall, if_true]

theorem modesChanged_kept (before : Settings) (s : State) :
    Kept { clamp := true, fmu := true } s (modesChanged before s) := kept_modesChanged before rfl rfl (.refl _ s)

end Modes

end Sys2Proof.Machine

namespace Sys2Proof.Machine

/-! ## What the owners do with new settings (R22, R85, R141, R187) -/

section Owners

/-- The thresholds of the load zones are the same in two sets of settings. -/
abbrev SameThresholds (before st : Settings) : Prop :=
  before.contact = st.contact ∧ before.bearing = st.bearing ∧ before.overload = st.overload

/-- The zones that the loads give, found afresh. -/
def zonesFresh (s : State) : Four Zone := s.blu.posts.map fun p => zoneAfresh s.sst.active p.load

/-- A lift with no LOAD move takes zones, and a post that leaves BEARING is lost. -/
theorem takeZones_rest {zones : Four Zone} {s : State} (hk : s.blu.kind = none) :
    takeZones zones s =
      if leavesBearing (s.blu.posts.map PostRecord.zone) zones then bearingLost (zoned zones s) else zoned zones s := by
  have hkind : ∀ u : State, u.blu = (zoned zones s).blu → ¬ (u.blu.kind = some .load ∧ allBearing u = true) := fun u hu h => by
    have hn : u.blu.kind = none := by
      rw [hu]
      exact hk
    simp [hn] at h
  rw [takeZones_eq]
  split
  · exact if_neg (hkind _ ((bearingLost_kept _).wholeBlu rfl rfl))
  · exact if_neg (hkind _ rfl)

theorem thresholdsChanged_same {before : Settings} {s : State} (h : SameThresholds before s.sst.active) :
    thresholdsChanged before s = s := if_pos h

theorem thresholdsChanged_moved {before : Settings} {s : State} (h : ¬ SameThresholds before s.sst.active) :
    thresholdsChanged before s = takeZones (zonesFresh s) s := if_neg h

theorem bearingLost_blu (s : State) : (bearingLost s).blu = s.blu := (bearingLost_kept s).wholeBlu rfl rfl

theorem takeZones_zone {zones : Four Zone} {s : State} (hk : s.blu.kind = none) (p : Post) :
    ((takeZones zones s).blu.posts.get p).zone = zones.get p := by
  rw [takeZones_rest hk]
  split
  · rw [bearingLost_blu, zoned_zone]
  · exact zoned_zone zones s p

/-- The zones after a change of the thresholds (R22). -/
theorem thresholdsChanged_zone {before : Settings} {s : State} (hk : SameThresholds before s.sst.active ∨ s.blu.kind = none) (p : Post) :
    ((thresholdsChanged before s).blu.posts.get p).zone =
      if SameThresholds before s.sst.active then (s.blu.posts.get p).zone
      else zoneAfresh s.sst.active (s.blu.posts.get p).load := by
  split
  · next h => rw [thresholdsChanged_same h]
  · next h =>
    rw [thresholdsChanged_moved h, takeZones_zone (hk.resolve_left h)]
    exact Four.get_map ..

/-- A post that leaves BEARING by it (R22, R37). -/
theorem thresholdsChanged_lost {before : Settings} {s : State} (hk : SameThresholds before s.sst.active ∨ s.blu.kind = none) {p : Post}
    (hz : (s.blu.posts.get p).zone = .bearing)
    (hn : ((thresholdsChanged before s).blu.posts.get p).zone ≠ .bearing) : LoadLost s (thresholdsChanged before s) := by
  by_cases h : SameThresholds before s.sst.active
  · rw [thresholdsChanged_same h] at hn
    exact absurd hz hn
  · rw [thresholdsChanged_moved h] at hn ⊢
    rw [takeZones_zone (hk.resolve_left h)] at hn
    rw [takeZones_rest (hk.resolve_left h), if_pos (leavesBearing_iff.2 ⟨p, by rw [Four.get_map, hz], hn⟩)]
    exact (bearingLost_spec (zoned (zonesFresh s) s)).congr rfl rfl rfl rfl

/-- What a lift at rest leaves as its thresholds change. -/
abbrev thresholdsTouch : Blocks :=
  { lift := true, gbc := true, pmu := true, tpe := true, tcu := true, spindle := true, ahs := true }

theorem thresholdsChanged_kept {before : Settings} {s : State} (hk : SameThresholds before s.sst.active ∨ s.blu.kind = none) :
    Kept thresholdsTouch s (thresholdsChanged before s) := by
  have hzoned : Kept thresholdsTouch s (zoned (zonesFresh s) s) := by
    unfold zoned
    refine kept_modBluRest _ ?_ rfl (.refl _ s)
    exact fun _ => rfl
  by_cases h : SameThresholds before s.sst.active
  · rw [thresholdsChanged_same h]
    exact .refl _ s
  · rw [thresholdsChanged_moved h, takeZones_rest (hk.resolve_left h)]
    split
    · exact kept_bearingLost rfl rfl rfl rfl rfl rfl hzoned
    · exact hzoned

theorem bearingLost_pmuHead (s : State) : (bearingLost s).pmu.head = s.pmu.head := by
  unfold bearingLost
  rw [spindleUnsupported_pmu]
  exact sweepFail_pmuHead .support s

theorem thresholdsChanged_pmuHead {before : Settings} {s : State} (hk : SameThresholds before s.sst.active ∨ s.blu.kind = none) :
    (thresholdsChanged before s).pmu.head = s.pmu.head := by
  by_cases h : SameThresholds before s.sst.active
  · rw [thresholdsChanged_same h]
  · rw [thresholdsChanged_moved h, takeZones_rest (hk.resolve_left h)]
    split
    · exact bearingLost_pmuHead _
    · rfl

/-! ### With no sweep running -/

/-- The feeds and the tools of the heads are the same. -/
def SameTools (s t : State) : Prop :=
  ∀ side, (t.tcu.head.get side).feed = (s.tcu.head.get side).feed ∧
    (t.tcu.head.get side).tools = (s.tcu.head.get side).tools

theorem sameTools_of_head {s t : State} (h : t.tcu.head = s.tcu.head) : SameTools s t := fun side => by
  rw [h]
  exact ⟨rfl, rfl⟩

theorem pauseTurning_tools (cause : PauseCause) (s : State) : SameTools s (pauseTurning cause s) := fun side => by
  by_cases hl : turningLive s = true
  · have hw := pauseTurning_withdraws (cause := cause) hl side
    unfold HeadWithdraws at hw
    split at hw
    · rw [hw.1]
      exact ⟨rfl, rfl⟩
    · rw [hw]
      exact ⟨rfl, rfl⟩
  · unfold pauseTurning
    rw [if_neg hl]
    exact ⟨rfl, rfl⟩

theorem spindleUnsupported_tools (cause : PauseCause) (s : State) : SameTools s (spindleUnsupported cause s) := by
  unfold spindleUnsupported
  split
  · have hhead : (finishRun (rundown (pauseTurning cause s))).tcu.head = (pauseTurning cause s).tcu.head :=
      (finishRun_finished _).2.trans (rundown_rest _).2.2.1
    intro side
    rw [hhead]
    exact pauseTurning_tools cause s side
  · exact sameTools_of_head rfl

/-- With no sweep running, or the thresholds as they were, the plan, the feeds and the tools stay. -/
theorem thresholdsChanged_idle {before : Settings} {s : State} (hk : SameThresholds before s.sst.active ∨ s.blu.kind = none) 
    (hp : s.pmu.phase = .idle ∨ SameThresholds before s.sst.active) :
    (thresholdsChanged before s).tpe = s.tpe ∧ SameTools s (thresholdsChanged before s) := by
  by_cases h : SameThresholds before s.sst.active
  · rw [thresholdsChanged_same h]
    exact ⟨rfl, sameTools_of_head rfl⟩
  · rw [thresholdsChanged_moved h, takeZones_rest (hk.resolve_left h)]
    split
    · unfold bearingLost
      rw [supportLost_idle (sweepRunning_idle (s := zoned (zonesFresh s) s) (hp.resolve_right h))]
      have hkept : Kept { tcu := true, spindle := true } (zoned (zonesFresh s) s)
          (spindleUnsupported .load (zoned (zonesFresh s) s)) := kept_spindleUnsupported .load rfl rfl (.refl _ _)
      exact ⟨hkept.tpe rfl, spindleUnsupported_tools .load (zoned (zonesFresh s) s)⟩
    · exact ⟨rfl, sameTools_of_head rfl⟩

/-! ### The probe offsets and the feeds -/

theorem offsetChanged_calibration (before : Settings) (side : Side) (s : State) :
    ((offsetChanged before side s).pmu.head.get side).calibration =
      if before.probeOffset.get side = s.sst.active.probeOffset.get side then (s.pmu.head.get side).calibration
      else .stale := by
  unfold offsetChanged
  split
  · rfl
  · exact congrArg PmuHead.calibration (Sides.get_set_same ..)

theorem offsetChanged_other (before : Settings) (side : Side) (s : State) :
    (offsetChanged before side s).pmu.head.get side.other = s.pmu.head.get side.other := by
  unfold offsetChanged
  split
  · rfl
  · exact Sides.get_other_set ..

theorem offsetChanged_kept (before : Settings) (side : Side) (s : State) :
    Kept { pmu := true } s (offsetChanged before side s) := kept_offsetChanged before side rfl (.refl _ s)

/-- A head whose offset has changed is STALE, and the other stays (R85). -/
theorem offsetsChanged_calibration (before : Settings) (side : Side) (s : State) :
    ((forSides (offsetChanged before) s).pmu.head.get side).calibration =
      if before.probeOffset.get side = s.sst.active.probeOffset.get side then (s.pmu.head.get side).calibration
      else .stale := by
  cases side with
  | l =>
    show ((offsetChanged before .r (offsetChanged before .l s)).pmu.head.get (Side.other .r)).calibration = _
    rw [offsetChanged_other]
    exact offsetChanged_calibration before .l s
  | r =>
    show ((offsetChanged before .r (offsetChanged before .l s)).pmu.head.get .r).calibration = _
    rw [offsetChanged_calibration, (offsetChanged_kept before .l s).sst rfl]
    rw [show (offsetChanged before .l s).pmu.head.get .r = s.pmu.head.get .r from offsetChanged_other before .l s]

theorem offsetsChanged_kept (before : Settings) (s : State) :
    Kept { pmu := true } s (forSides (offsetChanged before) s) :=
  kept_forSides _ (fun side _ => kept_offsetChanged before side rfl) (.refl _ s)

/-- The feeds are the same, or clamped into their new range (R141). -/
theorem feedsChanged_head (before : Settings) (s : State) (side : Side) :
    (feedsChanged before s).tcu.head.get side =
      if before.fMin = s.sst.active.fMin ∧ before.fMax = s.sst.active.fMax then s.tcu.head.get side
      else clampFeed s.sst.active (s.tcu.head.get side) := by
  unfold feedsChanged
  dsimp only
  split
  · rfl
  · exact Sides.get_map ..

theorem feedsChanged_rest (before : Settings) (s : State) :
    ∃ head, feedsChanged before s = { s with tcu := { s.tcu with head := head } } := by
  unfold feedsChanged
  dsimp only
  split
  · exact ⟨_, rfl⟩
  · exact ⟨_, rfl⟩

theorem Sides.ext_get {α : Type} {v w : Sides α} (h : ∀ side, v.get side = w.get side) : v = w := by
  obtain ⟨l, r⟩ := v
  obtain ⟨l', r'⟩ := w
  rw [Sides.mk.injEq]
  exact ⟨h .l, h .r⟩

/-! ### All the owners -/

/-- What the owners leave of a lift with no move, or of thresholds that stay, as the settings become those of `s` (R187). -/
structure OwnersActed (before : Settings) (s u : State) : Prop where
  zone : ∀ p, (u.blu.posts.get p).zone =
    if SameThresholds before s.sst.active then (s.blu.posts.get p).zone
    else zoneAfresh s.sst.active (s.blu.posts.get p).load
  lost : (∃ p, (s.blu.posts.get p).zone = .bearing ∧ (u.blu.posts.get p).zone ≠ .bearing) → spindleRunning s = true →
    spindleRunning u = false ∧ (s.pmu.phase = .idle → turningLive s = true → u.tcu.state = .paused .load)
  calibration : ∀ side, (u.pmu.head.get side).calibration =
    if before.probeOffset.get side = s.sst.active.probeOffset.get side then (s.pmu.head.get side).calibration else .stale
  record : ∀ m, u.fmu.monitors.get m = modeTaken before s m
  idle : s.pmu.phase = .idle ∨ SameThresholds before s.sst.active → u.tpe = s.tpe ∧ ∀ side,
    (u.tcu.head.get side).feed =
      (if before.fMin = s.sst.active.fMin ∧ before.fMax = s.sst.active.fMax then (s.tcu.head.get side).feed
       else (clampInt s.sst.active.fMin s.sst.active.fMax (s.tcu.head.get side).feed).toNat) ∧
    (u.tcu.head.get side).tools = (s.tcu.head.get side).tools
  heads : SameThresholds before s.sst.active → before.fMin = s.sst.active.fMin ∧ before.fMax = s.sst.active.fMax →
    u.tcu.head = s.tcu.head
  kept : Kept { lift := true, clamp := true, fmu := true, gbc := true, pmu := true, tpe := true, tcu := true,
                spindle := true, ahs := true } s u

theorem ownersAct_acted {before : Settings} {s : State} (hk : SameThresholds before s.sst.active ∨ s.blu.kind = none) :
    OwnersActed before s (ownersAct before s) := by
  have hzone := thresholdsChanged_zone (before := before) hk
  have hlost := fun p => thresholdsChanged_lost (before := before) (p := p) hk
  have hpmu := thresholdsChanged_pmuHead (before := before) hk
  have hidle := thresholdsChanged_idle (before := before) hk
  have hz := thresholdsChanged_kept (before := before) hk
  have hstay := thresholdsChanged_same (before := before) (s := s)
  have hact : ownersAct before s =
      feedsChanged before (forSides (offsetChanged before) (modesChanged before (thresholdsChanged before s))) := rfl
  have hkept : Kept { lift := true, clamp := true, fmu := true, gbc := true, pmu := true, tpe := true, tcu := true,
                      spindle := true, ahs := true } s (ownersAct before s) := by
    rw [hact]
    refine kept_feedsChanged before rfl (kept_forSides _ (fun side _ => kept_offsetChanged before side rfl)
      (kept_modesChanged before rfl rfl ?_))
    exact ⟨hz.pil, hz.bridge, nofun, nofun, nofun, nofun, nofun, nofun, nofun, nofun, nofun, hz.slots, hz.sst, hz.slp,
      hz.pending⟩
  rw [hact] at hkept ⊢
  generalize thresholdsChanged before s = z at *
  have hm := modesChanged_kept before z
  have hfmu := modesChanged_fmu before z
  generalize modesChanged before z = m at *
  have ho := offsetsChanged_kept before m
  have hcal := offsetsChanged_calibration before
  have hcalm := fun side => hcal side m
  generalize forSides (offsetChanged before) m = o at *
  obtain ⟨head, hu⟩ := feedsChanged_rest before o
  have hhead := feedsChanged_head before o
  generalize feedsChanged before o = u at *
  have hsst : o.sst = s.sst := (ho.sst rfl).trans ((hm.sst rfl).trans (hz.sst rfl))
  have htcu : o.tcu = z.tcu := (ho.wholeTcu rfl rfl).trans (hm.wholeTcu rfl rfl)
  have hposts : o.blu.posts = z.blu.posts := by rw [ho.wholeBlu rfl rfl, ← hm.lift rfl]
  refine ⟨fun p => ?_, fun hex hr => ?_, fun side => ?_, fun n => ?_, fun hp => ⟨?_, fun side => ?_⟩, fun hsame hf => ?_, hkept⟩
  · rw [hu, hposts]
    exact hzone p
  · obtain ⟨p, hbear, hn⟩ := hex
    rw [hu, hposts] at hn
    obtain ⟨hdown, -, -, hpaused⟩ := hlost p hbear hn
    have hspindle : u.tcu.spindle = .rundown := by
      rw [hu]
      exact (congrArg Tcu.spindle htcu).trans (hdown hr).1
    refine ⟨by simp [spindleRunning, hspindle], fun hp hlive => ?_⟩
    rw [hu]
    exact (congrArg Tcu.state htcu).trans (hpaused hp hr hlive).1
  · rw [hu]
    refine (hcalm side).trans ?_
    rw [hm.pmu rfl, hpmu, hm.sst rfl, hz.sst rfl]
  · rw [hu]
    show o.fmu.monitors.get n = _
    rw [ho.fmu rfl, hfmu]
    unfold modeTaken
    simp only [PerMonitor.get_ofFn, hz.sst rfl, hz.fmu rfl]
  · rw [hu]
    exact (ho.tpe rfl).trans ((hm.tpe rfl).trans (hidle hp).1)
  · obtain ⟨hfeed, htools⟩ := (hidle hp).2 side
    rw [hhead, hsst, htcu, ← hfeed, ← htools]
    split
    · exact ⟨rfl, rfl⟩
    · exact ⟨rfl, rfl⟩
  · have hz := hstay hsame
    have hget : ∀ side, u.tcu.head.get side = s.tcu.head.get side := fun side => by
      rw [hhead, hsst, if_pos hf, htcu, hz]
    exact Machine.Sides.ext_get hget

end Owners

end Sys2Proof.Machine

namespace Sys2Proof.Machine

/-! ## The settings image (R184, R185, R187) -/

section Image

/-- The settings in force alone have a part in what settles. -/
theorem settled_sst {s : State} (h : settled s = true) {sst : Sst} (ha : sst.active = s.sst.active) :
    settled { s with sst := sst } = true := by
  obtain ⟨active, image, snapshot, store, source, last⟩ := sst
  dsimp only at ha
  subst ha
  rw [settled_iff] at h ⊢
  show (reviewAll s).modSst (fun _ => ⟨s.sst.active, image, snapshot, store, source, last⟩) =
    s.modSst fun _ => ⟨s.sst.active, image, snapshot, store, source, last⟩
  rw [h]

theorem ownerCondition_close (before s : State) (m : MonitorId) : ownerCondition (close before s) m = ownerCondition s m := by
  rw [← ownerCondition_reviewAll s m, close_eq]
  cases m <;> rfl

theorem blanked_close (before s : State) (m : MonitorId) : blanked (close before s) m = blanked s m := by
  rw [close_eq]
  cases m <;> rfl

/-! ### A load of the settings -/

theorem planInputChanged_discards {s : State} (hu : planInUse s = false)
    (h : s.tpe.plan.state = .ready ∨ s.tpe.work ≠ .idle) :
    (planInputChanged s).tpe.plan = .empty (some .settings) ∧ (planInputChanged s).tpe.work = .idle := by
  have hin : s.tpe.plan.state ≠ .inUse := by simpa [planInUse] using hu
  have hcancel : (cancelWork .settings s).tpe.plan = s.tpe.plan ∧ (cancelWork .settings s).tpe.work = .idle := by
    have hdrop : ∀ u, (dropMarkOpening u).tpe = u.tpe := fun u =>
      (kept_dropMarkOpening (keep := { ahs := true }) rfl (.refl _ u)).tpe rfl
    unfold cancelWork
    split
    · next hw => exact ⟨rfl, hw⟩
    · rw [hdrop]
      exact ⟨rfl, rfl⟩
  unfold planInputChanged
  rw [if_pos h]
  unfold discardPlan
  dsimp only
  rw [hcancel.1, if_neg hin]
  exact ⟨rfl, hcancel.2⟩

theorem planInputChanged_stays {s : State} (h : ¬ (s.tpe.plan.state = .ready ∨ s.tpe.work ≠ .idle)) :
    planInputChanged s = s := if_neg h

theorem planInputChanged_kept (s : State) : Kept { tpe := true, ahs := true } s (planInputChanged s) :=
  kept_planInputChanged rfl rfl (.refl _ s)

/-- The settings replaced, before their owners act. -/
def settingsPut (st : Settings) (outcome : SettingsOutcome) (s : State) : State :=
  s.modSst fun t => { t with active := st, lastOutcome := outcome }

/-- The silence timer takes a changed timeout. -/
def silenceFollows (before st : Settings) (s : State) : State :=
  if before.silenceTimeout = st.silenceTimeout then s else restartSilence s

theorem replaceSettings_eq (st : Settings) (outcome : SettingsOutcome) (s : State) :
    replaceSettings st outcome s =
      planInputChanged (silenceFollows s.sst.active st (ownersAct s.sst.active (settingsPut st outcome s))) := rfl

theorem silenceFollows_kept (before st : Settings) (s : State) : Kept { slp := true } s (silenceFollows before st s) := by
  unfold silenceFollows
  split
  · exact .refl _ s
  · exact kept_restartSilence rfl (.refl _ s)

/-- What a load of settings leaves of the state, with nothing in motion and no plan in use (R187). -/
structure SettingsLoaded (st : Settings) (outcome : SettingsOutcome) (s u : State) : Prop where
  zone : ∀ p, (u.blu.posts.get p).zone =
    if SameThresholds s.sst.active st then (s.blu.posts.get p).zone else zoneAfresh st (s.blu.posts.get p).load
  lost : (∃ p, (s.blu.posts.get p).zone = .bearing ∧ (u.blu.posts.get p).zone ≠ .bearing) → spindleRunning s = true →
    spindleRunning u = false ∧ (turningLive s = true → u.tcu.state = .paused .load)
  calibration : ∀ side, (u.pmu.head.get side).calibration =
    if s.sst.active.probeOffset.get side = st.probeOffset.get side then (s.pmu.head.get side).calibration else .stale
  feed : ∀ side, (u.tcu.head.get side).feed =
    if s.sst.active.fMin = st.fMin ∧ s.sst.active.fMax = st.fMax then (s.tcu.head.get side).feed
    else (clampInt st.fMin st.fMax (s.tcu.head.get side).feed).toNat
  tools : ∀ side, (u.tcu.head.get side).tools = (s.tcu.head.get side).tools
  silence : u.slp.silenceTimer =
    if s.sst.active.silenceTimeout = st.silenceTimeout then s.slp.silenceTimer
    else if st.silenceTimeout = 0 then none else some st.silenceTimeout
  plan : if s.tpe.plan.state = .ready ∨ s.tpe.work ≠ .idle then u.tpe.plan = .empty (some .settings) ∧ u.tpe.work = .idle
    else u.tpe = s.tpe
  record : ∀ m, u.fmu.monitors.get m =
    remoded (st.deglitch.get m) (s.sst.active.monitorMode.get m) (st.monitorMode.get m) (s.fmu.monitors.get m)
  sst : u.sst = { s.sst with active := st, lastOutcome := outcome }
  bridge : u.pil.bridge = s.pil.bridge
  slots : u.ahs.slots = s.ahs.slots

theorem replaceSettings_loaded {st : Settings} {outcome : SettingsOutcome} {s : State} (hk : s.blu.kind = none)
    (hp : s.pmu.phase = .idle) (hu : planInUse s = false) :
    SettingsLoaded st outcome s (replaceSettings st outcome s) := by
  have hact := ownersAct_acted (before := s.sst.active) (s := settingsPut st outcome s) (.inr hk)
  rw [replaceSettings_eq]
  generalize hv : ownersAct s.sst.active (settingsPut st outcome s) = v at *
  have hsil := silenceFollows_kept s.sst.active st v
  have hsilence : (silenceFollows s.sst.active st v).slp.silenceTimer =
      if s.sst.active.silenceTimeout = st.silenceTimeout then s.slp.silenceTimer
      else if st.silenceTimeout = 0 then none else some st.silenceTimeout := by
    unfold silenceFollows
    split
    · rw [hact.kept.slp rfl]
      rfl
    · show (if v.sst.active.silenceTimeout = 0 then none else some v.sst.active.silenceTimeout) = _
      rw [hact.kept.sst rfl]
      rfl
  generalize silenceFollows s.sst.active st v = w at *
  have hplan := planInputChanged_kept w
  have hwtpe : w.tpe = s.tpe := (hsil.tpe rfl).trans (hact.idle (.inl hp)).1
  have hdiscard := planInputChanged_discards (s := w) (by unfold planInUse; rw [hwtpe]; exact hu)
  have hstay := planInputChanged_stays (s := w)
  rw [hwtpe] at hdiscard hstay
  generalize planInputChanged w = u at *
  have htcu : u.tcu = v.tcu := (hplan.wholeTcu rfl rfl).trans (hsil.wholeTcu rfl rfl)
  have hblu : u.blu = v.blu := (hplan.wholeBlu rfl rfl).trans (hsil.wholeBlu rfl rfl)
  have hidle := (hact.idle (.inl hp)).2
  refine ⟨fun p => ?_, fun hex hr => ?_, fun side => ?_, fun side => ?_, fun side => ?_, ?_, ?_, fun m => ?_, ?_, ?_, ?_⟩
  · rw [hblu]
    exact hact.zone p
  · rw [hblu] at hex
    obtain ⟨hdown, hpaused⟩ := hact.lost hex hr
    rw [spindleRunning_congr (congrArg Tcu.spindle htcu), htcu]
    exact ⟨hdown, hpaused hp⟩
  · rw [hplan.pmu rfl, hsil.pmu rfl]
    exact hact.calibration side
  · rw [htcu]
    exact (hidle side).1
  · rw [htcu]
    exact (hidle side).2
  · rw [hplan.slp rfl]
    exact hsilence
  · split
    · next h => exact hdiscard h
    · next h =>
      rw [hstay h]
      exact hwtpe
  · rw [hplan.fmu rfl, hsil.fmu rfl]
    exact hact.record m
  · rw [hplan.sst rfl, hsil.sst rfl, hact.kept.sst rfl]
    rfl
  · rw [hplan.bridge rfl, hsil.bridge rfl, hact.kept.bridge rfl]
    rfl
  · rw [hplan.slots rfl, hsil.slots rfl, hact.kept.slots rfl]
    rfl

/-- What the owners leave of a load of settings at the end of its step, in the words of R187. -/
def OwnersTook (s : State) (st : Settings) (t : State) : Prop :=
  (∀ p, (t.blu.posts.get p).zone =
    if SameThresholds s.sst.active st then (s.blu.posts.get p).zone else zoneAfresh st (s.blu.posts.get p).load) ∧
  ((∃ p, (s.blu.posts.get p).zone = .bearing ∧ (t.blu.posts.get p).zone ≠ .bearing) →
    spindleRunning s = true → spindleRunning t = false ∧ (turningLive s = true → t.tcu.state = .paused .load)) ∧
  (∀ side, (t.pmu.head.get side).calibration =
    if s.sst.active.probeOffset.get side = st.probeOffset.get side then (s.pmu.head.get side).calibration else .stale) ∧
  (∀ side, (t.tcu.head.get side).feed =
    if s.sst.active.fMin = st.fMin ∧ s.sst.active.fMax = st.fMax then (s.tcu.head.get side).feed
    else (clampInt st.fMin st.fMax (s.tcu.head.get side).feed).toNat) ∧
  t.slp.silenceTimer =
    (if s.sst.active.silenceTimeout = st.silenceTimeout then s.slp.silenceTimer
     else if st.silenceTimeout = 0 then none else some st.silenceTimeout) ∧
  (if s.tpe.plan.state = .ready ∨ s.tpe.work ≠ .idle then t.tpe.plan = .empty (some .settings) ∧ t.tpe.work = .idle
   else t.tpe = s.tpe) ∧
  ∀ m,
    (st.monitorMode.get m = .off → s.sst.active.monitorMode.get m ≠ .off →
      (t.fmu.monitors.get m).state = .quiet ∧ (t.fmu.monitors.get m).timer = none ∧
      (t.fmu.monitors.get m).recurrence = .none ∧ (t.fmu.monitors.get m).count = (s.fmu.monitors.get m).count) ∧
    (st.monitorMode.get m ≠ .off → ownerCondition t m = ownerCondition s m → blanked t m = blanked s m →
      (s.sst.active.monitorMode.get m = .off → (s.fmu.monitors.get m).state = .quiet →
        if ownerCondition s m && !blanked s m then
          (t.fmu.monitors.get m).state = .deglitch ∧ (t.fmu.monitors.get m).timer = some (st.deglitch.get m)
        else (t.fmu.monitors.get m).state = .quiet) ∧
      (s.sst.active.monitorMode.get m ≠ .off → (s.fmu.monitors.get m).state ≠ .warned →
        t.fmu.monitors.get m = s.fmu.monitors.get m) ∧
      (s.sst.active.monitorMode.get m = .warnOnly → (s.fmu.monitors.get m).state = .warned →
        if st.monitorMode.get m = .warnOnly then t.fmu.monitors.get m = s.fmu.monitors.get m
        else (t.fmu.monitors.get m).state = .deglitch ∧ (t.fmu.monitors.get m).timer = some (st.deglitch.get m)))

theorem SettingsLoaded.took {st : Settings} {outcome : SettingsOutcome} {s u : State} (h : SettingsLoaded st outcome s u)
    (hs : settled s = true) (kind tag : Byte) (code : Code) :
    OwnersTook s st (close s (repliedCode kind tag code u)) := by
  unfold OwnersTook
  simp only [close_blu, close_tcu, close_pmu, close_tpe, close_slp, close_fmu, PerMonitor.get_ofFn, ownerCondition_close,
    blanked_close]
  refine ⟨h.zone, fun hex hr => ?_, h.calibration, h.feed, h.silence, h.plan, fun m => ?_⟩
  · rw [spindleRunning_congr (s := u) (t := close s (repliedCode kind tag code u)) (congrArg Tcu.spindle (close_tcu ..))]
    exact h.lost hex hr
  · have hact : (repliedCode kind tag code u).sst.active = st := congrArg Sst.active h.sst
    obtain ⟨hoff, -, hon⟩ := reviewed_remoded (u := repliedCode kind tag code u) (m := m) hs
      (congrArg (·.monitorMode.get m) hact) (congrArg (·.deglitch.get m) hact) (h.record m)
    exact ⟨hoff, hon⟩

/-- A load of settings, as a command. -/
theorem SettingsLoaded.exec_eq {st : Settings} {outcome : SettingsOutcome} {s u : State} (h : SettingsLoaded st outcome s u)
    (hs : settled s = true) {i : Instr} {k tag : Byte} (he : exec i s = .next (close s (repliedCode k tag .ok u))) :
    ∃ t, exec i s = .next t ∧ t.slp.replySlot = some ⟨k, tag, .fixed .ok []⟩ ∧
      t.sst = { s.sst with active := st, lastOutcome := outcome } ∧ OwnersTook s st t ∧
      t.pil.bridge = s.pil.bridge ∧ t.ahs.slots = s.ahs.slots ∧
      ∀ side, (t.tcu.head.get side).tools = (s.tcu.head.get side).tools := by
  refine ⟨_, he, ?_, ?_, h.took hs k tag .ok, ?_, ?_, fun side => ?_⟩
  · rw [close_slp]
    rfl
  · rw [close_sst]
    exact h.sst
  · rw [close_pil]
    exact h.bridge
  · rw [close_ahs]
    exact h.slots
  · rw [close_tcu]
    exact h.tools side

/-! ### The commands of the image -/

theorem settingsHeld_free {s : State} (h : settingsHeld s = false) (hw : workLaw s = true) :
    s.blu.kind = none ∧ s.pmu.phase = .idle := by
  simp only [settingsHeld, Bool.or_eq_false_iff] at h
  obtain ⟨⟨⟨⟨⟨hm, -⟩, -⟩, hp⟩, -⟩, -⟩ := h
  simp only [workLaw, Bool.and_eq_true, hm, Bool.false_or] at hw
  obtain ⟨⟨⟨hk, -⟩, -⟩, -⟩ := hw
  exact ⟨Option.isNone_iff_eq_none.1 hk, by simpa [sweepRunning] using hp⟩

theorem loadRefusal_free {s : State} (hi : s.sst.store = .idle) (hu : planInUse s = false)
    (h : settingsHeld s = false) : loadRefusal s = none := by
  simp [loadRefusal, hi, hu, h]

theorem loadRefusal_held {s : State} (hi : s.sst.store = .idle) (hu : planInUse s = false)
    (h : settingsHeld s = true) : loadRefusal s = some .notAvailable := by
  simp [loadRefusal, hi, hu, h]

/-- STORE_SETTINGS (R184). -/
theorem settings_store {s : State} (hs : settled s = true) (hd : canDispatch s = true) (hi : s.sst.store = .idle)
    (tag : Byte) {code : Nat} {set : Bool} (hc : autoloadOf code = some set) :
    exec (.storeSettings tag code) s =
      .next (noted s (repliedCode 0xD2#8 tag .accepted { s with sst := { s.sst with
        store := .pending, snapshot := some ⟨s.sst.active, s.tcu.head.map Head.tools, set⟩ } })) := by
  have hreq : storeSettingsRequest code s = say .accepted { s with sst := { s.sst with
      store := .pending, snapshot := some ⟨s.sst.active, s.tcu.head.map Head.tools, set⟩ } } := by
    unfold storeSettingsRequest
    rw [hc]
    exact if_neg fun h => h hi
  rw [exec_say 0x52#8 rfl rfl hd hreq]
  exact congrArg _ (close_noted (settled_modSlp _ (settled_sst hs rfl)))

/-- The programming and the read-back of the image (R184, R185). -/
theorem settings_program {s : State} (hs : settled s = true) :
    (s.sst.store = .pending → s.ahs.store = .ready → s.ahs.commit = none →
      exec .settingsProgrammingBegin s =
        .next (noted s { s with sst := { s.sst with store := .writing, image := none } })) ∧
    (s.sst.store = .writing → ∀ agrees : Bool,
      exec (.settingsReadbackDone agrees) s =
        .next (noted s { s with sst := { s.sst with
          store := .idle
          image := if agrees then s.sst.snapshot else none
          snapshot := none
          lastOutcome := if agrees then .stored else .storeFailed } })) := by
  refine ⟨fun hp hr hc => ?_, fun hw agrees => ?_⟩
  · have he : programmingBegin s = { s with sst := { s.sst with store := .writing, image := none } } := if_pos ⟨hp, hr, hc⟩
    rw [exec_next, show effectOf .settingsProgrammingBegin = programmingBegin from rfl, he]
    exact congrArg _ (close_noted (settled_sst hs rfl))
  · have he : readbackDone agrees s = { s with sst := { s.sst with
        store := .idle
        image := if agrees then s.sst.snapshot else none
        snapshot := none
        lastOutcome := if agrees then .stored else .storeFailed } } := if_pos hw
    rw [exec_next, show effectOf (.settingsReadbackDone agrees) = readbackDone agrees from rfl, he]
    exact congrArg _ (close_noted (settled_sst hs rfl))

/-- LOAD_SETTINGS and DEFAULT_SETTINGS while something holds the settings, and without an image (R187). -/
theorem settings_refused {s : State} (hs : settled s = true) (hd : canDispatch s = true) (hi : s.sst.store = .idle)
    (hu : planInUse s = false) (tag : Byte) :
    (settingsHeld s = true →
      exec (.loadSettings tag) s = .next (repliedCode 0xD3#8 tag .notAvailable s) ∧
      exec (.defaultSettings tag) s = .next (repliedCode 0xD4#8 tag .notAvailable s)) ∧
    (settingsHeld s = false → s.sst.image = none →
      exec (.loadSettings tag) s = .next (repliedCode 0xD3#8 tag .notAvailable s)) := by
  refine ⟨fun hh => ⟨?_, ?_⟩, fun hh hn => ?_⟩
  · refine exec_say_same 0x53#8 rfl rfl hs hd ?_
    unfold loadSettingsRequest
    rw [loadRefusal_held hi hu hh]
  · refine exec_say_same 0x54#8 rfl rfl hs hd ?_
    unfold defaultSettingsRequest
    rw [loadRefusal_held hi hu hh]
  · refine exec_say_same 0x53#8 rfl rfl hs hd ?_
    unfold loadSettingsRequest
    rw [loadRefusal_free hi hu hh, hn]

/-- Settles O53: the store, the programming and the read-back, and both loads by what holds them and by their owners. -/
theorem settingsAreStored : Obligations.SettingsAreStored := by
  unfold Obligations.SettingsAreStored
  intro tag s hs
  refine ⟨fun hd hi code set hc => settings_store hs hd hi tag hc, (settings_program hs).1, (settings_program hs).2,
    fun hd hi hu => ⟨(settings_refused hs hd hi hu tag).1, fun hh => ⟨(settings_refused hs hd hi hu tag).2 hh,
      fun i himage hw => ?_, fun hw => ?_⟩⟩⟩
  · obtain ⟨hk, hp⟩ := settingsHeld_free hh hw
    refine (replaceSettings_loaded (st := i.settings) (outcome := .loaded) hk hp hu).exec_eq hs ?_
    refine exec_say 0x53#8 rfl rfl hd ?_
    unfold loadSettingsRequest
    rw [loadRefusal_free hi hu hh, himage]
  · obtain ⟨hk, hp⟩ := settingsHeld_free hh hw
    refine (replaceSettings_loaded (st := .defaults) (outcome := .defaulted) hk hp hu).exec_eq hs ?_
    refine exec_say 0x54#8 rfl rfl hd ?_
    unfold defaultSettingsRequest
    rw [loadRefusal_free hi hu hh]

end Image

end Sys2Proof.Machine

namespace Sys2Proof.Machine

/-! ## The settings by their names (10.1, 10.2) -/

section Names

/-- The setting exists: an entry of a table is inside it. -/
def isNamed : Setting → Bool
  | .wheel i _ => i < 8
  | .profile i _ => i < 4
  | _ => true

theorem wheelSettings_mem {i : Nat} (h : i < 8) : wheelSettings i ∈ allSettings :=
  List.mem_append_left _ (List.mem_append_right _ (List.mem_map_of_mem (List.mem_range.2 h)))

theorem profileSettings_mem {i : Nat} (h : i < 4) : profileSettings i ∈ allSettings :=
  List.mem_append_right _ (List.mem_map_of_mem (List.mem_range.2 h))

theorem named_mem {x : Setting} (h : isNamed x = true) : ∃ xs ∈ allSettings, x ∈ xs := by
  cases x with
  | wheel i f => exact ⟨_, wheelSettings_mem (of_decide_eq_true h), by cases f <;> simp [wheelSettings]⟩
  | profile i f => exact ⟨_, profileSettings_mem (of_decide_eq_true h), by cases f <;> simp [profileSettings]⟩
  | monitorMode m => exact ⟨monitorSettings m, by cases m <;> simp [allSettings, MonitorId.list], by simp [monitorSettings]⟩
  | deglitch m => exact ⟨monitorSettings m, by cases m <;> simp [allSettings, MonitorId.list], by simp [monitorSettings]⟩
  | aMax band => exact ⟨bandSettings band, by cases band <;> simp [allSettings], by simp [bandSettings]⟩
  | bandSpeed band => exact ⟨bandSettings band, by cases band <;> simp [allSettings], by simp [bandSettings]⟩
  | bandForce band => exact ⟨bandSettings band, by cases band <;> simp [allSettings], by simp [bandSettings]⟩
  | scope side => exact ⟨singleSettings, by simp [allSettings], by cases side <;> decide⟩
  | toolBlanking side => exact ⟨singleSettings, by simp [allSettings], by cases side <;> decide⟩
  | probeOffset side => exact ⟨singleSettings, by simp [allSettings], by cases side <;> decide⟩
  | _ => exact ⟨singleSettings, by simp [allSettings], by decide⟩

theorem allSettings_named : (allSettings.all fun xs => xs.all isNamed) = true := by decide

/-- The settings of a set, one by one. -/
theorem all_allSettings {f : Setting → Bool} :
    (allSettings.all fun xs => xs.all f) = true ↔ ∀ x, isNamed x = true → f x = true := by
  simp only [List.all_eq_true]
  refine ⟨fun h x hx => ?_, fun h xs hxs x hx => h x ?_⟩
  · obtain ⟨xs, hxs, hmem⟩ := named_mem hx
    exact h xs hxs x hmem
  · exact List.all_eq_true.1 (List.all_eq_true.1 allSettings_named xs hxs) x hx

theorem singleOf_named {n : Nat} {x : Setting} (h : singleOf n = some x) : isNamed x = true := by
  unfold singleOf at h
  split at h <;> cases h <;> rfl

theorem scalarOf_named {id inst : Nat} {x : Setting} (h : scalarOf id inst = some x) : isNamed x = true := by
  have hmap : ∀ {α : Type} {f : α → Setting} {o : Option α}, (∀ a, isNamed (f a) = true) → o.map f = some x →
      isNamed x = true := fun hf ho => by
    obtain ⟨a, -, rfl⟩ := Option.map_eq_some_iff.1 ho
    exact hf a
  unfold scalarOf at h
  split at h
  · exact hmap (fun _ => rfl) h
  · exact hmap (fun _ => rfl) h
  · split at h <;> cases h <;> rfl
  · split at h <;> cases h <;> rfl
  · split at h <;> cases h <;> rfl
  · exact hmap (fun _ => rfl) h
  · exact hmap (fun _ => rfl) h
  · exact hmap (fun _ => rfl) h
  · split at h
    · exact singleOf_named h
    · cases h

/-- An address names a setting that exists. -/
theorem settingOf_named {addr : SettingAddr} {x : Setting} (h : settingOf addr = some x) : isNamed x = true := by
  cases addr with
  | scalar id inst => exact scalarOf_named h
  | table t entry field =>
    unfold settingOf at h
    dsimp only at h
    split at h
    · split at h
      · next hi =>
        obtain ⟨f, -, rfl⟩ := Option.map_eq_some_iff.1 h
        exact decide_eq_true hi
      · cases h
    · split at h
      · next hi =>
        obtain ⟨f, -, rfl⟩ := Option.map_eq_some_iff.1 h
        exact decide_eq_true hi
      · cases h
    · cases h

end Names

/-! ## A setting that is written -/

section Written

/-- A value that the setting's range, or its set of values, allows. -/
def Allowed (x : Setting) (v : Int) : Prop :=
  (settingRange x).1 ≤ v ∧ v ≤ (settingRange x).2 ∧ badValue x v = false

theorem settingInRange_iff {st : Settings} {x : Setting} : settingInRange st x = true ↔ Allowed x (readSetting st x) := by
  simp [settingInRange, Allowed, and_assoc]

theorem WheelType.read_write (w : WheelType) (v : Nat) (f g : WheelField) :
    (w.write v f).read g = if g = f then v else w.read g := by
  cases f <;> cases g <;> rfl

theorem Profile.read_write (p : Profile) (v : Nat) (f g : ProfileField) :
    (p.write v f).read g = if g = f then v else p.read g := by
  cases f <;> cases g <;> rfl

/-- An enumerated setting's value is the code of the value it stands for. -/
theorem code_ofCode {v : Int} :
    (v = 0 ∨ v = 1 → (ErrorMode.ofCode v).code = v ∧ (ClampMode.ofCode v).code = v ∧ (SilenceMode.ofCode v).code = v ∧
      (Scope.ofCode v).code = v) ∧
    (v = 0 ∨ v = 1 ∨ v = 2 ∨ v = 3 → (MonitorMode.ofCode v).code = v) := by
  refine ⟨fun h => ?_, fun h => ?_⟩
  · obtain rfl | rfl := h <;> decide
  · obtain rfl | rfl | rfl | rfl := h <;> decide

/-- The tables have their lengths. -/
abbrev Whole (st : Settings) : Prop := st.wheelTypes.length = 8 ∧ st.profiles.length = 4

theorem wheelType_write {st : Settings} (h : Whole st) (w : WheelType) {i : Nat} (hi : i < 8) (j : Nat) :
    (st.wheelTypes.set i w).getD j .undefined = if j = i then w else st.wheelType j := by
  have hlen : i < st.wheelTypes.length := by rw [h.1]; exact hi
  unfold Settings.wheelType
  rw [List.getD_eq_getElem?_getD, List.getD_eq_getElem?_getD, List.getElem?_set]
  by_cases hij : i = j
  · rw [if_pos hij, if_pos hlen, if_pos hij.symm]
    rfl
  · rw [if_neg hij, if_neg fun h => hij h.symm]

theorem profile_write {st : Settings} (h : Whole st) (p : Profile) {i : Nat} (hi : i < 4) (j : Nat) :
    (st.profiles.set i p).getD j .first = if j = i then p else st.profile j := by
  have hlen : i < st.profiles.length := by rw [h.2]; exact hi
  unfold Settings.profile
  rw [List.getD_eq_getElem?_getD, List.getD_eq_getElem?_getD, List.getElem?_set]
  by_cases hij : i = j
  · rw [if_pos hij, if_pos hlen, if_pos hij.symm]
    rfl
  · rw [if_neg hij, if_neg fun h => hij h.symm]

theorem readSetting_write_wheel {st : Settings} (h : Whole st) (v : Int) {i : Nat} (hi : i < 8) (f : WheelField) (j : Nat)
    (g : WheelField) :
    readSetting (writeSetting st v (.wheel i f)) (.wheel j g) =
      if j = i ∧ g = f then (v.toNat : Int) else readSetting st (.wheel j g) := by
  show (((st.wheelTypes.set i ((st.wheelType i).write v.toNat f)).getD j .undefined).read g : Int) = _
  rw [wheelType_write h _ hi]
  by_cases hj : j = i
  · subst hj
    rw [if_pos rfl, WheelType.read_write]
    by_cases hg : g = f
    · rw [if_pos hg, if_pos ⟨rfl, hg⟩]
    · rw [if_neg hg, if_neg fun h => hg h.2]
      rfl
  · rw [if_neg hj, if_neg fun h => hj h.1]
    rfl

theorem readSetting_write_profile {st : Settings} (h : Whole st) (v : Int) {i : Nat} (hi : i < 4) (f : ProfileField)
    (j : Nat) (g : ProfileField) :
    readSetting (writeSetting st v (.profile i f)) (.profile j g) =
      if j = i ∧ g = f then (v.toNat : Int) else readSetting st (.profile j g) := by
  show (((st.profiles.set i ((st.profile i).write v.toNat f)).getD j .first).read g : Int) = _
  rw [profile_write h _ hi]
  by_cases hj : j = i
  · subst hj
    rw [if_pos rfl, Profile.read_write]
    by_cases hg : g = f
    · rw [if_pos hg, if_pos ⟨rfl, hg⟩]
    · rw [if_neg hg, if_neg fun h => hg h.2]
      rfl
  · rw [if_neg hj, if_neg fun h => hj h.1]
    rfl

theorem Sides.get_set_ne {α : Type} (v : Sides α) (a : α) {x y : Side} (h : y ≠ x) : (v.set a x).get y = v.get y := by
  cases x <;> cases y <;> first | rfl | exact absurd rfl h

theorem Bands.get_set_ne {α : Type} (v : Bands α) (a : α) {x y : Band} (h : y ≠ x) : (v.set a x).get y = v.get y := by
  cases x <;> cases y <;> first | rfl | exact absurd rfl h

theorem Bands.get_set_same {α : Type} (v : Bands α) (a : α) (x : Band) : (v.set a x).get x = a := by cases x <;> rfl

/-- Writing one setting leaves every other (R181). -/
theorem readSetting_write_other {st : Settings} (h : Whole st) (v : Int) {x y : Setting} (hx : isNamed x = true)
    (hy : y ≠ x) : readSetting (writeSetting st v x) y = readSetting st y := by
  cases x with
  | wheel i f =>
    cases y with
    | wheel j g =>
      rw [readSetting_write_wheel h v (of_decide_eq_true hx)]
      exact if_neg fun hc => hy (by rw [hc.1, hc.2])
    | _ => rfl
  | profile i f =>
    cases y with
    | profile j g =>
      rw [readSetting_write_profile h v (of_decide_eq_true hx)]
      exact if_neg fun hc => hy (by rw [hc.1, hc.2])
    | _ => rfl
  | monitorMode m =>
    cases y with
    | monitorMode n => exact congrArg MonitorMode.code (PerMonitor.get_set_ne _ _ _ _ fun hc => hy (by rw [hc]))
    | _ => rfl
  | deglitch m =>
    cases y with
    | deglitch n => exact congrArg Int.ofNat (PerMonitor.get_set_ne _ _ _ _ fun hc => hy (by rw [hc]))
    | _ => rfl
  | scope side =>
    cases y with
    | scope other => exact congrArg Scope.code (Sides.get_set_ne _ _ fun hc => hy (by rw [hc]))
    | _ => rfl
  | toolBlanking side =>
    cases y with
    | toolBlanking other => exact congrArg Int.ofNat (Sides.get_set_ne _ _ fun hc => hy (by rw [hc]))
    | _ => rfl
  | probeOffset side =>
    cases y with
    | probeOffset other => exact Sides.get_set_ne _ _ fun hc => hy (by rw [hc])
    | _ => rfl
  | aMax band =>
    cases y with
    | aMax other => exact congrArg Int.ofNat (Bands.get_set_ne _ _ fun hc => hy (by rw [hc]))
    | _ => rfl
  | bandSpeed band =>
    cases y with
    | bandSpeed other => exact congrArg Int.ofNat (Bands.get_set_ne _ _ fun hc => hy (by rw [hc]))
    | _ => rfl
  | bandForce band =>
    cases y with
    | bandForce other => exact congrArg Int.ofNat (Bands.get_set_ne _ _ fun hc => hy (by rw [hc]))
    | _ => rfl
  | _ => cases y <;> first | rfl | exact absurd rfl hy

/-- The values of an enumerated setting. -/
theorem Allowed.enum {x : Setting} {v : Int} {vs : List Int} (h : Allowed x v) (he : enumValues x = some vs) : v ∈ vs := by
  obtain ⟨-, -, hb⟩ := h
  unfold badValue at hb
  rw [he] at hb
  simpa using hb

/-- A value that is allowed is the one that the setting then has. -/
theorem readSetting_write_same {st : Settings} (hw : Whole st) {v : Int} {x : Setting} (hx : isNamed x = true)
    (h : Allowed x v) : readSetting (writeSetting st v x) x = v := by
  have hnat : 0 ≤ (settingRange x).1 → (v.toNat : Int) = v := fun h0 => Int.toNat_of_nonneg (h0.trans h.1)
  cases x with
  | liftMode => exact (code_ofCode.1 (by simpa using h.enum rfl)).1
  | clampMode => exact (code_ofCode.1 (by simpa using h.enum rfl)).2.1
  | feedMode => exact (code_ofCode.1 (by simpa using h.enum rfl)).1
  | silenceMode => exact (code_ofCode.1 (by simpa using h.enum rfl)).2.2.1
  | monitorMode m =>
    exact (congrArg MonitorMode.code (PerMonitor.get_set_same ..)).trans (code_ofCode.2 (by simpa using h.enum rfl))
  | scope side =>
    exact (congrArg Scope.code (Sides.get_set_same ..)).trans (code_ofCode.1 (by simpa using h.enum rfl)).2.2.2
  | deglitch m => exact (congrArg Int.ofNat (PerMonitor.get_set_same ..)).trans (hnat (by simp [settingRange]))
  | toolBlanking side => exact (congrArg Int.ofNat (Sides.get_set_same ..)).trans (hnat (by simp [settingRange]))
  | aMax band => exact (congrArg Int.ofNat (Bands.get_set_same ..)).trans (hnat (by simp [settingRange]))
  | bandSpeed band => exact (congrArg Int.ofNat (Bands.get_set_same ..)).trans (hnat (by simp [settingRange]))
  | bandForce band => exact (congrArg Int.ofNat (Bands.get_set_same ..)).trans (hnat (by simp [settingRange]))
  | probeOffset side => exact Sides.get_set_same ..
  | ta => rfl
  | tb => rfl
  | tc => rfl
  | wheel i f =>
    rw [readSetting_write_wheel hw v (of_decide_eq_true hx), if_pos ⟨rfl, rfl⟩]
    exact hnat (by cases f <;> simp [settingRange, wheelRange])
  | profile i f =>
    rw [readSetting_write_profile hw v (of_decide_eq_true hx), if_pos ⟨rfl, rfl⟩]
    exact hnat (by cases f <;> simp [settingRange, profileRange])
  | _ => exact hnat (by decide)

theorem whole_write {st : Settings} (h : Whole st) (v : Int) (x : Setting) : Whole (writeSetting st v x) := by
  cases x with
  | wheel i f => exact ⟨(List.length_set ..).trans h.1, h.2⟩
  | profile i f => exact ⟨h.1, (List.length_set ..).trans h.2⟩
  | _ => exact h

/-! ### Good settings -/

theorem settingsGood_iff {st : Settings} :
    settingsGood st = true ↔
      Whole st ∧ settingsOrdered st = true ∧ ∀ x, isNamed x = true → Allowed x (readSetting st x) := by
  unfold settingsGood
  simp only [Bool.and_eq_true, beq_iff_eq, all_allSettings, settingInRange_iff, and_assoc, Whole]

/-- The orders of the groups, with the values as requests carry them (R182). -/
def Ordered (r : Setting → Int) : Prop :=
  r .contact < r .bearing ∧ r .bearing < r .overload ∧ r .ta ≤ r .tb ∧ r .tb ≤ r .tc ∧ r .fMin ≤ r .fStart ∧
  r .fStart ≤ r .fMax ∧ ∀ i < 8, r (.wheel i .tMin) ≤ r (.wheel i .tMax)

theorem settingsOrdered_iff {st : Settings} (h : Whole st) : settingsOrdered st = true ↔ Ordered (readSetting st) := by
  have hall : (st.wheelTypes.all fun w => decide (w.tMin ≤ w.tMax)) = true ↔
      ∀ i < 8, readSetting st (.wheel i .tMin) ≤ readSetting st (.wheel i .tMax) := by
    rw [List.all_eq_true]
    refine ⟨fun hw i hi => ?_, fun hw w hmem => ?_⟩
    · have hlen : i < st.wheelTypes.length := by rw [h.1]; exact hi
      have he : st.wheelType i = st.wheelTypes[i] := by simp [Settings.wheelType, List.getD_eq_getElem?_getD, hlen]
      have := of_decide_eq_true (hw _ (List.getElem_mem hlen))
      rw [← he] at this
      exact Int.ofNat_le.2 this
    · obtain ⟨i, hlen, rfl⟩ := List.getElem_of_mem hmem
      have he : st.wheelType i = st.wheelTypes[i] := by simp [Settings.wheelType, List.getD_eq_getElem?_getD, hlen]
      have := Int.ofNat_le.1 (hw i (h.1 ▸ hlen))
      rw [← he]
      exact decide_eq_true this
  unfold settingsOrdered Ordered
  simp only [Bool.and_eq_true, hall, decide_eq_true_eq, and_assoc, readSetting, Int.ofNat_lt, Int.ofNat_le]

end Written

end Sys2Proof.Machine

namespace Sys2Proof.Machine

/-! ## The value that is taken (R182) -/

section Taken

/-- A value of a setting keeps the orders of its group, as the others stand (R182). -/
def Fits (r : Setting → Int) (v : Int) : Setting → Prop
  | .contact => v < r .bearing
  | .bearing => r .contact < v ∧ v < r .overload
  | .overload => r .bearing < v
  | .ta => v ≤ r .tb
  | .tb => r .ta ≤ v ∧ v ≤ r .tc
  | .tc => r .tb ≤ v
  | .fMin => v ≤ r .fStart
  | .fStart => r .fMin ≤ v ∧ v ≤ r .fMax
  | .fMax => r .fStart ≤ v
  | .wheel i .tMin => v ≤ r (.wheel i .tMax)
  | .wheel i .tMax => r (.wheel i .tMin) ≤ v
  | _ => True

/-- The orders after one value has been replaced. -/
theorem ordered_replaced {r r' : Setting → Int} {x : Setting} (hx : isNamed x = true) (h : Ordered r)
    (hr : ∀ y, y ≠ x → r' y = r y) : Ordered r' ↔ Fits r (r' x) x := by
  obtain ⟨h1, h2, h3, h4, h5, h6, h7⟩ := h
  have hw := iff_true_intro h7
  have hsame : (∀ i, x ≠ .wheel i .tMin ∧ x ≠ .wheel i .tMax) → x ∉ [.contact, .bearing, .overload, .ta, .tb, .tc, .fMin,
      .fStart, .fMax] → Ordered r' := fun hwheel hn => by
    simp only [List.mem_cons, List.not_mem_nil, or_false, not_or] at hn
    obtain ⟨n1, n2, n3, n4, n5, n6, n7, n8, n9⟩ := hn
    unfold Ordered
    rw [hr _ (Ne.symm n1), hr _ (Ne.symm n2), hr _ (Ne.symm n3), hr _ (Ne.symm n4), hr _ (Ne.symm n5), hr _ (Ne.symm n6),
      hr _ (Ne.symm n7), hr _ (Ne.symm n8), hr _ (Ne.symm n9)]
    refine ⟨h1, h2, h3, h4, h5, h6, fun i hi => ?_⟩
    rw [hr _ (hwheel i).1.symm, hr _ (hwheel i).2.symm]
    exact h7 i hi
  cases x with
  | contact => simp (disch := simp) only [Ordered, Fits, hr, hw, and_true]; omega
  | bearing => simp (disch := simp) only [Ordered, Fits, hr, hw, and_true]; omega
  | overload => simp (disch := simp) only [Ordered, Fits, hr, hw, and_true]; omega
  | ta => simp (disch := simp) only [Ordered, Fits, hr, hw, and_true]; omega
  | tb => simp (disch := simp) only [Ordered, Fits, hr, hw, and_true]; omega
  | tc => simp (disch := simp) only [Ordered, Fits, hr, hw, and_true]; omega
  | fMin => simp (disch := simp) only [Ordered, Fits, hr, hw, and_true]; omega
  | fStart => simp (disch := simp) only [Ordered, Fits, hr, hw, and_true]; omega
  | fMax => simp (disch := simp) only [Ordered, Fits, hr, hw, and_true]; omega
  | wheel i f =>
    have hi : i < 8 := of_decide_eq_true hx
    have hother : ∀ j g, j ≠ i ∨ g ≠ f → r' (.wheel j g) = r (.wheel j g) := fun j g hjg =>
      hr _ fun hc => by
        obtain ⟨rfl, rfl⟩ := Setting.wheel.inj hc
        exact hjg.elim (· rfl) (· rfl)
    have hwheels : Ordered r' ↔ r' (.wheel i .tMin) ≤ r' (.wheel i .tMax) := by
      unfold Ordered
      rw [hr .contact (by simp), hr .bearing (by simp), hr .overload (by simp), hr .ta (by simp), hr .tb (by simp),
        hr .tc (by simp), hr .fMin (by simp), hr .fStart (by simp), hr .fMax (by simp)]
      refine ⟨fun ⟨_, _, _, _, _, _, h⟩ => h i hi, fun h => ⟨h1, h2, h3, h4, h5, h6, fun j hj => ?_⟩⟩
      by_cases hji : j = i
      · rw [hji]
        exact h
      · rw [hother j _ (.inl hji), hother j _ (.inl hji)]
        exact h7 j hj
    cases f with
    | tMin =>
      rw [hwheels, hother i .tMax (.inr (by simp))]
      rfl
    | tMax =>
      rw [hwheels, hother i .tMin (.inr (by simp))]
      rfl
    | _ => exact ⟨fun _ => trivial, fun _ => hsame (by simp) (by simp)⟩
  | _ => exact ⟨fun _ => trivial, fun _ => hsame (by simp) (by simp)⟩

/-- A value brought into the range of its setting and then into the span of its group: it stays in the range, keeps the
orders, and no other such value is nearer to the one sent (R182). -/
structure Taken (r : Setting → Int) (x : Setting) (value v : Int) : Prop where
  range : (settingRange x).1 ≤ v ∧ v ≤ (settingRange x).2
  fits : Fits r v x
  nearest : ∀ z, (settingRange x).1 ≤ z → z ≤ (settingRange x).2 → Fits r z x → (v - value).natAbs ≤ (z - value).natAbs

/-- A value is taken by the span `lo` to `hi` that its group leaves it, where the span meets the range. -/
theorem taken_of_span {r : Setting → Int} {x : Setting} {value c : Int} (lo hi : Int)
    (hmeet : lo ≤ hi ∧ lo ≤ (settingRange x).2 ∧ (settingRange x).1 ≤ hi ∧ (settingRange x).1 ≤ (settingRange x).2)
    (hc : ∀ w, (settingRange x).1 ≤ w → w ≤ (settingRange x).2 →
      w = clampInt (settingRange x).1 (settingRange x).2 value → c = max lo (min hi w))
    (hf : ∀ z, (settingRange x).1 ≤ z → z ≤ (settingRange x).2 → (Fits r z x ↔ lo ≤ z ∧ z ≤ hi)) : Taken r x value c := by
  have hw := clampInt_eq hmeet.2.2.2 value
  have hc := hc _ (by omega) (by omega) rfl
  have hrange : (settingRange x).1 ≤ c ∧ c ≤ (settingRange x).2 := by omega
  exact ⟨hrange, (hf c hrange.1 hrange.2).2 (by omega), fun z hl hh hz => by have := (hf z hl hh).1 hz; omega⟩

/-- A setting that stands in no order takes its range. -/
theorem taken_of_range {r : Setting → Int} {x : Setting} (hx : (settingRange x).1 ≤ (settingRange x).2)
    (hf : ∀ v, Fits r v x) (value : Int) : Taken r x value (clampInt (settingRange x).1 (settingRange x).2 value) :=
  taken_of_span (settingRange x).1 (settingRange x).2 ⟨hx, hx, hx, hx⟩ (fun _ _ _ h => by omega)
    fun z hl hh => ⟨fun _ => ⟨hl, hh⟩, fun _ => hf z⟩

/-- The span that its group leaves a setting, within its range (R182). -/
def groupSpan (st : Settings) : Setting → Int × Int
  | .contact => (100, st.bearing - 1)
  | .bearing => (st.contact + 1, st.overload - 1)
  | .overload => (st.bearing + 1, 25000)
  | .ta => (-300, st.tb)
  | .tb => (st.ta, st.tc)
  | .tc => (st.tb, 600)
  | .fMin => (100, st.fStart)
  | .fStart => (st.fMin, st.fMax)
  | .fMax => (st.fStart, 2000)
  | .wheel i .tMin => (10000, (st.wheelType i).tMax)
  | .wheel i .tMax => ((st.wheelType i).tMin, 40000)
  | x => settingRange x

theorem clampSpan_taken {st : Settings} {x : Setting} (hx : isNamed x = true)
    (hr : ∀ y, isNamed y = true → (settingRange y).1 ≤ readSetting st y ∧ readSetting st y ≤ (settingRange y).2)
    (ho : Ordered (readSetting st)) (value : Int) :
    Taken (readSetting st) x value (clampSpan st (clampInt (settingRange x).1 (settingRange x).2 value) x) := by
  obtain ⟨h1, h2, h3, h4, h5, h6, h7⟩ := ho
  have hcontact := hr .contact rfl
  have hbearing := hr .bearing rfl
  have hoverload := hr .overload rfl
  have hta := hr .ta rfl
  have htb := hr .tb rfl
  have htc := hr .tc rfl
  have hmin := hr .fMin rfl
  have hstart := hr .fStart rfl
  have hmax := hr .fMax rfl
  simp only [settingRange, readSetting] at hcontact hbearing hoverload hta htb htc hmin hstart hmax h1 h2 h3 h4 h5 h6
  have hspan := fun hmeet hc hf => taken_of_span (r := readSetting st) (x := x) (value := value)
    (c := clampSpan st (clampInt (settingRange x).1 (settingRange x).2 value) x) (groupSpan st x).1 (groupSpan st x).2
    hmeet hc hf
  have hfree := fun hle hf => taken_of_range (r := readSetting st) (x := x) hle hf value
  cases x with
  | contact | bearing | overload | ta | tb | tc | fMin | fStart | fMax =>
    refine hspan ?_ (fun w hl hh hw => ?_) (fun z hl hh => ?_)
    · simp only [settingRange, groupSpan]
      omega
    · rw [← hw]
      simp only [settingRange, groupSpan, clampSpan, clampInt] at hl hh ⊢
      omega
    · simp only [settingRange, groupSpan, Fits, readSetting] at hl hh ⊢ <;> omega
  | wheel i f =>
    have hi : i < 8 := of_decide_eq_true hx
    have htmin := hr (.wheel i .tMin) hx
    have htmax := hr (.wheel i .tMax) hx
    have horder := h7 i hi
    simp only [settingRange, wheelRange, readSetting, WheelType.read] at htmin htmax horder
    cases f with
    | tMin | tMax =>
      refine hspan ?_ (fun w hl hh hw => ?_) (fun z hl hh => ?_)
      · simp only [settingRange, wheelRange, groupSpan]
        omega
      · rw [← hw]
        simp only [settingRange, wheelRange, groupSpan, clampSpan] at hl hh ⊢
        omega
      · simp only [settingRange, wheelRange, groupSpan, Fits, readSetting, WheelType.read] at hl hh ⊢
        omega
    | _ => exact hfree (by simp [settingRange, wheelRange]) fun _ => trivial
  | profile i f => exact hfree (by cases f <;> simp [settingRange, profileRange]) fun _ => trivial
  | _ => exact hfree (by simp [settingRange]) fun _ => trivial

/-- An enumerated setting's codes are its range, and no order binds it. -/
theorem enum_range {x : Setting} {vs : List Int} (h : enumValues x = some vs) (r : Setting → Int) {v : Int} (hv : v ∈ vs) :
    ((settingRange x).1 ≤ v ∧ v ≤ (settingRange x).2) ∧ Fits r v x := by
  cases x with
  | liftMode | clampMode | monitorMode | deglitch | scope | feedMode | silenceMode =>
    cases h
    simp only [List.mem_cons, List.not_mem_nil, or_false] at hv
    exact ⟨by simp only [settingRange]; omega, trivial⟩
  | _ => cases h

/-- What R182 takes of a value that is not refused. -/
theorem takenValue_taken {st : Settings} {x : Setting} {value : Int} (hx : isNamed x = true)
    (hb : badValue x value = false) (hg : settingsGood st = true) :
    Taken (readSetting st) x value (takenValue st x value) ∧ badValue x (takenValue st x value) = false := by
  obtain ⟨hwhole, hord, hall⟩ := settingsGood_iff.1 hg
  unfold takenValue
  cases he : enumValues x with
  | some vs =>
    have hv : value ∈ vs := by simpa [badValue, he] using hb
    obtain ⟨hrange, hfits⟩ := enum_range he (readSetting st) hv
    exact ⟨⟨hrange, hfits, fun z _ _ _ => by simp⟩, hb⟩
  | none =>
    refine ⟨clampSpan_taken hx (fun y hy => ?_) ((settingsOrdered_iff hwhole).1 hord) value, by simp [badValue, he]⟩
    obtain ⟨hl, hh, -⟩ := hall y hy
    exact ⟨hl, hh⟩

/-- A set of settings stays good where the value written is allowed and keeps the orders. -/
theorem settingsGood_write {st : Settings} {x : Setting} {v : Int} (hx : isNamed x = true) (hg : settingsGood st = true)
    (ha : Allowed x v) : settingsGood (writeSetting st v x) = true ↔ Fits (readSetting st) v x := by
  obtain ⟨hwhole, hord, hall⟩ := settingsGood_iff.1 hg
  have hother := fun y hy => readSetting_write_other hwhole v (x := x) (y := y) hx hy
  have hsame := readSetting_write_same hwhole hx ha
  have horder := ordered_replaced hx ((settingsOrdered_iff hwhole).1 hord) hother
  rw [hsame] at horder
  rw [settingsGood_iff, settingsOrdered_iff (whole_write hwhole v x), horder]
  refine ⟨fun h => h.2.1, fun h => ⟨whole_write hwhole v x, h, fun y hy => ?_⟩⟩
  by_cases hyx : y = x
  · rw [hyx, hsame]
    exact ha
  · rw [hother y hyx]
    exact hall y hy

/-- The value taken leaves good settings, and is of all that do the one nearest to the value sent (R182). -/
theorem takenValue_good {st : Settings} {addr : SettingAddr} {x : Setting} {value : Int} (ha : settingOf addr = some x)
    (hb : badValue x value = false) (hg : settingsGood st = true) {v : Int} (hv : v = takenValue st x value) :
    settingsGood (writeSetting st v x) = true ∧ readSetting (writeSetting st v x) x = v ∧
    (settingRange x).1 ≤ v ∧ v ≤ (settingRange x).2 ∧
    ∀ z : Int, badValue x z = false → settingsGood (writeSetting st z x) = true → readSetting (writeSetting st z x) x = z →
      (v - value).natAbs ≤ (z - value).natAbs := by
  have hx := settingOf_named ha
  obtain ⟨htaken, hbad⟩ := takenValue_taken hx hb hg
  obtain ⟨hwhole, -, -⟩ := settingsGood_iff.1 hg
  rw [← hv] at htaken hbad
  have hallowed : Allowed x v := ⟨htaken.range.1, htaken.range.2, hbad⟩
  refine ⟨(settingsGood_write hx hg hallowed).2 htaken.fits, readSetting_write_same hwhole hx hallowed, htaken.range.1,
    htaken.range.2, fun z _ hz hread => ?_⟩
  obtain ⟨-, -, hall⟩ := settingsGood_iff.1 hz
  have hzallowed := hall x hx
  rw [hread] at hzallowed
  exact htaken.nearest z hzallowed.1 hzallowed.2.1 ((settingsGood_write hx hg hzallowed).1 hz)

end Taken

end Sys2Proof.Machine

namespace Sys2Proof.Machine

/-! ## One mode changed (R41, R61) -/

section OneMode

theorem modeChanged_same {was : MonitorMode} {m : MonitorId} {s : State} (h : s.sst.active.monitorMode.get m = was) :
    modeChanged was m s = s := if_pos h

theorem foldl_modeChanged_same (before : Settings) (ms : List MonitorId) {s : State}
    (h : ∀ n ∈ ms, s.sst.active.monitorMode.get n = before.monitorMode.get n) :
    ms.foldl (fun s m => modeChanged (before.monitorMode.get m) m s) s = s := by
  induction ms with
  | nil => rfl
  | cons n ms ih =>
    rw [List.foldl_cons, modeChanged_same (h n (.head ms))]
    exact ih fun k hk => h k (.tail n hk)

theorem foldl_modeChanged_one (before : Settings) {ms : List MonitorId} (hms : ms.Nodup) {m : MonitorId} (hm : m ∈ ms)
    {s : State} (h : ∀ n, n ≠ m → s.sst.active.monitorMode.get n = before.monitorMode.get n) :
    ms.foldl (fun s m => modeChanged (before.monitorMode.get m) m s) s = modeChanged (before.monitorMode.get m) m s := by
  induction ms with
  | nil => cases hm
  | cons n ms ih =>
    obtain ⟨hn, hrest⟩ := List.nodup_cons.1 hms
    rw [List.foldl_cons]
    by_cases hnm : n = m
    · rw [hnm]
      refine foldl_modeChanged_same before ms fun k hk => ?_
      rw [modeChanged_sst]
      exact h k fun hkm => hn (hnm ▸ hkm ▸ hk)
    · rw [modeChanged_same (h n hnm)]
      exact ih hrest ((List.mem_cons.1 hm).resolve_left (Ne.symm hnm))

theorem monitors_all (m : MonitorId) : m ∈ MonitorId.list := by cases m <;> decide

/-- With one mode at most that differs, one monitor takes its mode. -/
theorem modesChanged_one {before : Settings} {m : MonitorId} {s : State}
    (h : ∀ n, n ≠ m → s.sst.active.monitorMode.get n = before.monitorMode.get n) :
    modesChanged before s = modeChanged (before.monitorMode.get m) m s :=
  foldl_modeChanged_one before (by decide) (monitors_all m) h

/-! ### The clamps at a change of mode -/

theorem completeUnconfirmed_waits {side : Side} {s : State} (h : clampsMoving s = false) :
    completeUnconfirmed side s = s := by
  have hm : (s.blu.clamp.get side).moving = false := by
    simp only [clampsMoving, Sides.any, Bool.or_eq_false_iff] at h
    cases side
    · exact h.1
    · exact h.2
  unfold completeUnconfirmed
  dsimp only
  rw [hm]
  rfl

theorem completeUnconfirmed_completes {side : Side} {s : State} {mode : MonitorMode}
    (hmode : s.sst.active.monitorMode.get (clampMonitor side) = mode) (h : mode = .off ∨ mode = .warnOnly)
    (hm : (s.blu.clamp.get side).moving = true) (ht : (s.blu.clamp.get side).timeout = true) :
    (completeUnconfirmed side s).blu.clamp.get side = (s.blu.clamp.get side).ended .unconfirmed := by
  unfold completeUnconfirmed
  dsimp only
  rw [hmode, if_pos (by obtain rfl | rfl := h <;> simp [hm, ht])]
  exact Sides.get_set_same ..

theorem completeUnconfirmed_other (side : Side) (s : State) :
    (completeUnconfirmed side s).blu.clamp.get side.other = s.blu.clamp.get side.other := by
  unfold completeUnconfirmed
  dsimp only
  split
  · exact Sides.get_other_set ..
  · rfl

theorem clampsCompleted {side : Side} {s : State} {mode : MonitorMode}
    (hmode : s.sst.active.monitorMode.get (clampMonitor side) = mode) (h : mode = .off ∨ mode = .warnOnly)
    (hm : (s.blu.clamp.get side).moving = true) (ht : (s.blu.clamp.get side).timeout = true) :
    (forSides completeUnconfirmed s).blu.clamp.get side = (s.blu.clamp.get side).ended .unconfirmed := by
  cases side with
  | l => exact (completeUnconfirmed_other .r _).trans (completeUnconfirmed_completes hmode h hm ht)
  | r =>
    have hfirst : (completeUnconfirmed .l s).blu.clamp.get .r = s.blu.clamp.get .r := completeUnconfirmed_other .l s
    have hsst : (completeUnconfirmed .l s).sst = s.sst := (kept_completeUnconfirmed (keep := { clamp := true }) .l rfl (.refl _ s)).sst rfl
    refine (completeUnconfirmed_completes (s := completeUnconfirmed .l s) (by rw [hsst]; exact hmode) h ?_ ?_).trans ?_
    · rw [hfirst]
      exact hm
    · rw [hfirst]
      exact ht
    · rw [hfirst]

theorem modeChanged_moved {was : MonitorMode} {m : MonitorId} {s : State} (h : s.sst.active.monitorMode.get m ≠ was) :
    modeChanged was m s = forSides completeUnconfirmed
      (modMonitor m (remode (s.sst.active.deglitch.get m) (s.sst.active.monitorMode.get m)) s) := if_neg h

theorem remode_condition (time : Nat) (mode : MonitorMode) (m : Monitor) : (remode time mode m).condition = m.condition := by
  unfold remode
  split <;> rfl

theorem ownerCondition_remode (time : Nat) (mode : MonitorMode) (m : MonitorId) (s : State) :
    ownerCondition (modMonitor m (remode time mode) s) m = ownerCondition s m := by
  cases m
  case m5 => exact remode_condition ..
  case m11 => exact remode_condition ..
  case m12 => exact remode_condition ..
  all_goals rfl

/-- A value of a setting written, before its owner acts. -/
def written (x : Setting) (v : Int) (s : State) : State :=
  s.modSst fun t => { t with active := writeSetting t.active v x }

theorem written_mode (m : MonitorId) (v : Int) (s : State) :
    (written (.monitorMode m) v s).sst.active.monitorMode.get m = .ofCode v := PerMonitor.get_set_same ..

theorem ownerCondition_written (m n : MonitorId) (v : Int) (s : State) :
    ownerCondition (written (.monitorMode m) v s) n = ownerCondition s n := by
  cases n <;> rfl

theorem blanked_written (m n : MonitorId) (v : Int) (s : State) :
    blanked (written (.monitorMode m) v s) n = blanked s n := by
  cases n <;> rfl

/-- One mode written, and what its monitor and a clamp make of it. -/
theorem mode_written {s u : State} {m : MonitorId} {v : Int} (hs : settled s = true)
    (hu : u = modeChanged (s.sst.active.monitorMode.get m) m (written (.monitorMode m) v s)) {mode : MonitorMode}
    (hmode : mode = .ofCode v) :
    (mode = .off →
      if s.sst.active.monitorMode.get m = .off then reviewed u m = s.fmu.monitors.get m else
        (reviewed u m).state = .quiet ∧ (reviewed u m).timer = none ∧ (reviewed u m).recurrence = .none ∧
        (reviewed u m).count = (s.fmu.monitors.get m).count) ∧
    (clampsMoving s = false → mode ≠ .off →
      (s.sst.active.monitorMode.get m = .off → (s.fmu.monitors.get m).state = .quiet →
        if ownerCondition s m && !blanked s m then
          (reviewed u m).state = .deglitch ∧ (reviewed u m).timer = some (s.sst.active.deglitch.get m)
        else (reviewed u m).state = .quiet) ∧
      (s.sst.active.monitorMode.get m ≠ .off → (s.fmu.monitors.get m).state ≠ .warned →
        reviewed u m = s.fmu.monitors.get m) ∧
      (s.sst.active.monitorMode.get m = .warnOnly → (s.fmu.monitors.get m).state = .warned →
        if mode = .warnOnly then reviewed u m = s.fmu.monitors.get m
        else (reviewed u m).state = .deglitch ∧ (reviewed u m).timer = some (s.sst.active.deglitch.get m))) ∧
    (∀ side, m = clampMonitor side → (mode = .off ∨ mode = .warnOnly) → mode ≠ s.sst.active.monitorMode.get m →
      (s.blu.clamp.get side).moving = true → (s.blu.clamp.get side).timeout = true →
      u.blu.clamp.get side = (s.blu.clamp.get side).ended .unconfirmed) := by
  have hwritten := (written_mode m v s).trans hmode.symm
  have hsst : u.sst = (written (.monitorMode m) v s).sst := by rw [hu, modeChanged_sst]
  have hrecord : u.fmu.monitors.get m =
      remoded (s.sst.active.deglitch.get m) (s.sst.active.monitorMode.get m) mode (s.fmu.monitors.get m) := by
    rw [hu, modeChanged_fmu]
    refine (PerMonitor.get_set_same ..).trans ?_
    unfold modeTaken
    rw [hwritten]
    rfl
  obtain ⟨hoff, hsame, hon⟩ := reviewed_remoded (u := u) hs (by rw [hsst]; exact hwritten) (by rw [hsst]; rfl) hrecord
  have hstill : mode = s.sst.active.monitorMode.get m → u = written (.monitorMode m) v s := fun h => by
    rw [hu]
    exact modeChanged_same (hwritten.trans h)
  refine ⟨fun hm => ?_, fun hclamps hm => ?_, fun side hside hm hne hmoving htimeout => ?_⟩
  · split
    · next hwas =>
      have hstay := hstill (hm.trans hwas.symm)
      exact hsame (hm.trans hwas.symm) (by rw [hstay, ownerCondition_written]) (by rw [hstay, blanked_written])
    · next hwas => exact hoff hm hwas
  · by_cases hmoved : mode = s.sst.active.monitorMode.get m
    · have hstay := hstill hmoved
      exact hon hm (by rw [hstay, ownerCondition_written]) (by rw [hstay, blanked_written])
    · have hnow : u = modMonitor m (remode (s.sst.active.deglitch.get m) mode) (written (.monitorMode m) v s) := by
        rw [hu, modeChanged_moved (by rw [hwritten]; exact hmoved), hwritten]
        unfold forSides
        rw [completeUnconfirmed_waits, completeUnconfirmed_waits]
        · rfl
        · exact hclamps
        · rw [completeUnconfirmed_waits]
          · exact hclamps
          · exact hclamps
      refine hon hm ?_ ?_
      · rw [hnow, ownerCondition_remode, ownerCondition_written]
      · rw [hnow]
        exact blanked_written m m v s
  · subst hside
    rw [hu, modeChanged_moved (by rw [hwritten]; exact hne)]
    exact clampsCompleted hwritten hm hmoving htimeout

end OneMode

end Sys2Proof.Machine

namespace Sys2Proof.Machine

/-! ## What taking a setting does (R181) -/

section Taking

theorem edgeLifeChanged_same {before : Settings} {s : State} (h : before.edgeLife = s.sst.active.edgeLife) :
    edgeLifeChanged before s = s := if_pos h

theorem edgesChanged_same {before : Settings} {s : State} (h : before.edgesPerInsert = s.sst.active.edgesPerInsert) :
    edgesChanged before s = s := if_pos h

theorem edgeLifeChanged_moved {before : Settings} {s : State} (h : before.edgeLife ≠ s.sst.active.edgeLife) :
    edgeLifeChanged before s = s.modTcu fun t => { t with head := t.head.map (wearOut s.sst.active.edgeLife) } := if_neg h

theorem edgesChanged_moved {before : Settings} {s : State} (h : before.edgesPerInsert ≠ s.sst.active.edgesPerInsert) :
    edgesChanged before s = s.modTcu fun t => { t with head := t.head.map (exhaust s.sst.active.edgesPerInsert) } := if_neg h

/-- With neither the edge life nor the edges per insert changed, the tools stay. -/
theorem toolsChanged_same {before : Settings} {s : State} (hl : before.edgeLife = s.sst.active.edgeLife)
    (he : before.edgesPerInsert = s.sst.active.edgesPerInsert) : toolsChanged before s = s := by
  unfold toolsChanged
  rw [edgeLifeChanged_same hl, edgesChanged_same he]

theorem toolsChanged_kept (before : Settings) (s : State) : Kept { tcu := true } s (toolsChanged before s) :=
  kept_toolsChanged before rfl (.refl _ s)

/-- The states that the owners leave one after the other as a setting is taken: after the common owners, after the tools,
and in the end. -/
structure SettingTaken (x : Setting) (s o w u : State) : Prop where
  tools : w = toolsChanged s.sst.active o
  blu : u.blu = o.blu
  pmu : u.pmu = o.pmu
  tcu : u.tcu = w.tcu
  sst : u.sst = o.sst
  slots : u.ahs.slots = o.ahs.slots
  silence : u.slp.silenceTimer =
    if x = .silenceTimeout then
      if o.sst.active.silenceTimeout = 0 then none else some o.sst.active.silenceTimeout
    else o.slp.silenceTimer
  untouched : isPlanInput s x = false → u.tpe = o.tpe
  discards : isPlanInput s x = true → planInUse o = false →
    if o.tpe.plan.state = .ready ∨ o.tpe.work ≠ .idle then
      u.tpe.plan = .empty (some .settings) ∧ u.tpe.work = .idle
    else u.tpe = o.tpe

theorem takeSetting_taken (x : Setting) (v : Int) (s : State) :
    SettingTaken x s (ownersAct s.sst.active (written x v s))
      (toolsChanged s.sst.active (ownersAct s.sst.active (written x v s))) (takeSetting x v s) := by
  have heq : takeSetting x v s =
      (let w := toolsChanged s.sst.active (ownersAct s.sst.active (written x v s))
       let q := if x = .silenceTimeout then restartSilence w else w
       if isPlanInput s x then planInputChanged q else q) := rfl
  rw [heq]
  dsimp only
  generalize ownersAct s.sst.active (written x v s) = o
  have hw := toolsChanged_kept s.sst.active o
  generalize hwdef : toolsChanged s.sst.active o = w at *
  have hq : Kept { slp := true } w (if x = .silenceTimeout then restartSilence w else w) := by
    split
    · exact kept_restartSilence rfl (.refl _ w)
    · exact .refl _ w
  have hsilence : (if x = .silenceTimeout then restartSilence w else w).slp.silenceTimer =
      if x = .silenceTimeout then if o.sst.active.silenceTimeout = 0 then none else some o.sst.active.silenceTimeout
      else o.slp.silenceTimer := by
    split
    · rw [← hw.sst rfl]
      rfl
    · rw [hw.slp rfl]
  generalize (if x = .silenceTimeout then restartSilence w else w) = q at *
  have hu : Kept { tpe := true, ahs := true } q (if isPlanInput s x then planInputChanged q else q) := by
    split
    · exact planInputChanged_kept q
    · exact .refl _ q
  have hqtpe : q.tpe = o.tpe := (hq.tpe rfl).trans (hw.tpe rfl)
  refine ⟨hwdef.symm, ?_, ?_, ?_, ?_, ?_, ?_, fun hi => ?_, fun hi hin => ?_⟩
  · exact (hu.wholeBlu rfl rfl).trans ((hq.wholeBlu rfl rfl).trans (hw.wholeBlu rfl rfl))
  · exact (hu.pmu rfl).trans ((hq.pmu rfl).trans (hw.pmu rfl))
  · exact (hu.wholeTcu rfl rfl).trans (hq.wholeTcu rfl rfl)
  · exact (hu.sst rfl).trans ((hq.sst rfl).trans (hw.sst rfl))
  · exact (hu.slots rfl).trans ((hq.slots rfl).trans (hw.slots rfl))
  · rw [hu.slp rfl]
    exact hsilence
  · rw [if_neg (by simp [hi])]
    exact hqtpe
  · rw [if_pos hi, ← hqtpe]
    split
    · next h => exact planInputChanged_discards (by unfold planInUse; rw [hqtpe]; exact hin) h
    · next h => rw [planInputChanged_stays h]

/-! ### The settings that stay -/

/-- Only the load thresholds find the zones afresh, and they wait for a lift at rest (R46, R181). -/
theorem thresholds_or_rest {x : Setting} {v : Int} {s : State} (hh : settingHeld s x = false) (hw : workLaw s = true) :
    SameThresholds s.sst.active (writeSetting s.sst.active v x) ∨ s.blu.kind = none := by
  have hrest : liftMoving s = false → s.blu.kind = none := fun hm => by
    simp only [workLaw, Bool.and_eq_true, hm, Bool.false_or] at hw
    obtain ⟨⟨⟨hk, -⟩, -⟩, -⟩ := hw
    exact Option.isNone_iff_eq_none.1 hk
  cases x with
  | contact | bearing | overload => exact .inr (hrest hh)
  | _ => exact .inl ⟨rfl, rfl, rfl⟩

/-- A plan input is no load threshold. -/
theorem thresholds_of_input {x : Setting} {v : Int} {s : State} (h : isPlanInput s x = true) :
    SameThresholds s.sst.active (writeSetting s.sst.active v x) := by
  cases x with
  | contact | bearing | overload => cases h
  | _ => exact ⟨rfl, rfl, rfl⟩

theorem nat_written {v : Int} (h : 0 ≤ v) (n : Nat) : (n = v.toNat ↔ v = n) ∧ (v.toNat = n ↔ v = n) := by omega

/-- Of a threshold written the thresholds are the same where the value is the present one. -/
theorem thresholds_written {x : Setting} (hx : x = .contact ∨ x = .bearing ∨ x = .overload) {v : Int} (hv : 0 ≤ v)
    (st : Settings) : SameThresholds st (writeSetting st v x) ↔ v = readSetting st x := by
  obtain rfl | rfl | rfl := hx
  · exact ⟨fun h => ((nat_written hv _).1).1 h.1, fun h => ⟨((nat_written hv _).1).2 h, rfl, rfl⟩⟩
  · exact ⟨fun h => ((nat_written hv _).1).1 h.2.1, fun h => ⟨rfl, ((nat_written hv _).1).2 h, rfl⟩⟩
  · exact ⟨fun h => ((nat_written hv _).1).1 h.2.2, fun h => ⟨rfl, rfl, ((nat_written hv _).1).2 h⟩⟩

end Taking

/-! ## The clauses of O52, owner by owner -/

section Clauses

/-- What a setting taken has made of the load zones (R22). -/
theorem taken_thresholds {x : Setting} {v : Int} {s : State} (hx : x = .contact ∨ x = .bearing ∨ x = .overload)
    (hv : 0 ≤ v) (hh : settingHeld s x = false) (hw : workLaw s = true) {u : State} (hu : u = takeSetting x v s) :
    (∀ p, (u.blu.posts.get p).zone =
      if v = readSetting s.sst.active x then (s.blu.posts.get p).zone
      else zoneAfresh (writeSetting s.sst.active v x) (s.blu.posts.get p).load) ∧
    ((∃ p, (s.blu.posts.get p).zone = .bearing ∧ (u.blu.posts.get p).zone ≠ .bearing) → spindleRunning s = true →
      spindleRunning u = false ∧ (turningLive s = true → u.tcu.state = .paused .load)) := by
  have hacted := ownersAct_acted (before := s.sst.active) (s := written x v s) (thresholds_or_rest hh hw)
  have htaken := takeSetting_taken x v s
  rw [← hu] at htaken
  generalize ownersAct s.sst.active (written x v s) = o at *
  have hsst : o.sst.active = writeSetting s.sst.active v x := congrArg Sst.active (hacted.kept.sst rfl)
  have htools : toolsChanged s.sst.active o = o := by
    refine toolsChanged_same ?_ ?_
    · rw [hsst]
      obtain rfl | rfl | rfl := hx <;> rfl
    · rw [hsst]
      obtain rfl | rfl | rfl := hx <;> rfl
  have htcu : u.tcu = o.tcu := htaken.tcu.trans (congrArg State.tcu htools)
  refine ⟨fun p => ?_, fun hex hr => ?_⟩
  · rw [htaken.blu, hacted.zone p]
    exact if_congr (thresholds_written hx hv _) rfl rfl
  · rw [htaken.blu] at hex
    obtain ⟨hdown, hpaused⟩ := hacted.lost hex hr
    rw [spindleRunning_congr (congrArg Tcu.spindle htcu), htcu]
    refine ⟨hdown, fun hlive => hpaused ?_ hlive⟩
    have hturning : turningInProgress s = true := by
      unfold turningInProgress
      rw [hlive]
      rfl
    simp only [workLaw, Bool.and_eq_true, hturning, Bool.and_true, Bool.not_eq_true'] at hw
    obtain ⟨⟨⟨-, hsweep⟩, -⟩, -⟩ := hw
    show s.pmu.phase = .idle
    simpa [sweepRunning] using hsweep

/-- A mode written is a change of one mode and nothing else. -/
theorem takeSetting_mode (m : MonitorId) (v : Int) (s : State) :
    takeSetting (.monitorMode m) v s = modeChanged (s.sst.active.monitorMode.get m) m (written (.monitorMode m) v s) := by
  have hmodes : modesChanged s.sst.active (written (.monitorMode m) v s) =
      modeChanged (s.sst.active.monitorMode.get m) m (written (.monitorMode m) v s) :=
    modesChanged_one fun n hn => PerMonitor.get_set_ne _ _ _ _ hn
  have hthresholds : thresholdsChanged s.sst.active (written (.monitorMode m) v s) = written (.monitorMode m) v s :=
    thresholdsChanged_same ⟨rfl, rfl, rfl⟩
  have hsst := modeChanged_sst (s.sst.active.monitorMode.get m) m (written (.monitorMode m) v s)
  have heq : takeSetting (.monitorMode m) v s = toolsChanged s.sst.active (feedsChanged s.sst.active
      (forSides (offsetChanged s.sst.active) (modesChanged s.sst.active (thresholdsChanged s.sst.active
        (written (.monitorMode m) v s))))) := rfl
  rw [heq, hthresholds, hmodes]
  generalize modeChanged (s.sst.active.monitorMode.get m) m (written (.monitorMode m) v s) = u at *
  have hoffset : ∀ side, offsetChanged s.sst.active side u = u := fun side => if_pos (by rw [hsst]; rfl)
  have hoffsets : forSides (offsetChanged s.sst.active) u = u := by
    unfold forSides
    rw [hoffset, hoffset]
  have hfeeds : feedsChanged s.sst.active u = u := if_pos (by rw [hsst]; exact ⟨rfl, rfl⟩)
  rw [hoffsets, hfeeds]
  exact toolsChanged_same (by rw [hsst]; rfl) (by rw [hsst]; rfl)

/-- A probe offset written (R85). -/
theorem taken_offset {side : Side} {v : Int} {s : State} :
    ((takeSetting (.probeOffset side) v s).pmu.head.get side).calibration =
      if v = readSetting s.sst.active (.probeOffset side) then (s.pmu.head.get side).calibration else .stale := by
  have hacted := ownersAct_acted (before := s.sst.active) (s := written (.probeOffset side) v s) (.inl ⟨rfl, rfl, rfl⟩)
  have hv : (written (.probeOffset side) v s).sst.active.probeOffset.get side = v := Sides.get_set_same ..
  rw [(takeSetting_taken (.probeOffset side) v s).pmu, hacted.calibration side, hv]
  exact if_congr eq_comm rfl rfl

/-- The plan at a setting taken (R118). -/
theorem taken_plan {x : Setting} {v : Int} {s : State} (hh : settingHeld s x = false) (hw : workLaw s = true)
    (hin : (isPlanInput s x && planInUse s) = false) {u : State} (hu : u = takeSetting x v s) :
    (isPlanInput s x = true →
      if s.tpe.plan.state = .ready ∨ s.tpe.work ≠ .idle then u.tpe.plan = .empty (some .settings) ∧ u.tpe.work = .idle
      else u.tpe = s.tpe) ∧
    (isPlanInput s x = false → s.pmu.phase = .idle → u.tpe = s.tpe) := by
  have hacted := ownersAct_acted (before := s.sst.active) (s := written x v s) (thresholds_or_rest hh hw)
  have htaken := takeSetting_taken x v s
  rw [← hu] at htaken
  generalize ownersAct s.sst.active (written x v s) = o at *
  refine ⟨fun hi => ?_, fun hi hp => (htaken.untouched hi).trans (hacted.idle (.inl hp)).1⟩
  have htpe : o.tpe = s.tpe := (hacted.idle (.inr (thresholds_of_input hi))).1
  have huse : planInUse o = false := by
    unfold planInUse
    rw [htpe]
    rw [hi] at hin
    exact hin
  have hd := htaken.discards hi huse
  rw [htpe] at hd
  exact hd

/-- A setting that is no load threshold and does not bound the feeds leaves the heads to the tools. -/
theorem taken_heads {x : Setting} {v : Int} {s : State}
    (hs : SameThresholds s.sst.active (writeSetting s.sst.active v x))
    (hf : s.sst.active.fMin = (writeSetting s.sst.active v x).fMin ∧ s.sst.active.fMax = (writeSetting s.sst.active v x).fMax) :
    ∃ o, o.tcu.head = s.tcu.head ∧ o.sst.active = writeSetting s.sst.active v x ∧
      (takeSetting x v s).tcu = (toolsChanged s.sst.active o).tcu := by
  have hacted := ownersAct_acted (before := s.sst.active) (s := written x v s) (.inl hs)
  exact ⟨_, hacted.heads hs hf, congrArg Sst.active (hacted.kept.sst rfl), (takeSetting_taken x v s).tcu⟩

theorem wearOut_tool (n : Nat) (h : Head) :
    (wearOut n h).tool = if h.tool = .usable ∧ h.position ≠ .inCut ∧ n ≤ h.edgeCount then .worn else h.tool := by
  unfold wearOut
  split <;> rfl

theorem exhaust_tool (n : Nat) (h : Head) : (exhaust n h).tool = if n ≤ h.edgesUsed then .exhausted else h.tool := by
  unfold exhaust
  split <;> rfl

/-- The edge life written (R137). -/
theorem taken_edgeLife {v : Int} (hv : 0 ≤ v) (s : State) (side : Side) :
    ((takeSetting .edgeLife v s).tcu.head.get side).tool =
      if v ≠ readSetting s.sst.active .edgeLife ∧ (s.tcu.head.get side).tool = .usable ∧
          (s.tcu.head.get side).position ≠ .inCut ∧ v ≤ (s.tcu.head.get side).edgeCount then .worn
      else (s.tcu.head.get side).tool := by
  obtain ⟨o, hhead, hsst, hu⟩ := taken_heads (x := .edgeLife) (v := v) (s := s) ⟨rfl, rfl, rfl⟩ ⟨rfl, rfl⟩
  have hlife : o.sst.active.edgeLife = v.toNat := congrArg Settings.edgeLife hsst
  have hedges : s.sst.active.edgesPerInsert = o.sst.active.edgesPerInsert := (congrArg Settings.edgesPerInsert hsst).symm
  have hold : s.sst.active.edgeLife = o.sst.active.edgeLife ↔ v = readSetting s.sst.active .edgeLife := by
    rw [hlife]
    exact (nat_written hv _).1
  rw [hu]
  by_cases hsame : s.sst.active.edgeLife = o.sst.active.edgeLife
  · rw [toolsChanged_same hsame hedges, hhead, if_neg fun h => h.1 (hold.1 hsame)]
  · unfold toolsChanged
    rw [edgeLifeChanged_moved hsame, edgesChanged_same (by exact hedges)]
    show ((o.tcu.head.map (wearOut o.sst.active.edgeLife)).get side).tool = _
    rw [Sides.get_map, hhead, wearOut_tool, hlife]
    refine if_congr ⟨fun h => ⟨fun hc => hsame (hold.2 hc), h.1, h.2.1, by omega⟩, fun h => ⟨h.2.1, h.2.2.1, by omega⟩⟩ rfl rfl

/-- The edges per insert written (R137). -/
theorem taken_edges {v : Int} (hv : 0 ≤ v) (s : State) (side : Side) :
    ((takeSetting .edgesPerInsert v s).tcu.head.get side).tool =
      if v ≠ readSetting s.sst.active .edgesPerInsert ∧ v ≤ (s.tcu.head.get side).edgesUsed then .exhausted
      else (s.tcu.head.get side).tool := by
  obtain ⟨o, hhead, hsst, hu⟩ := taken_heads (x := .edgesPerInsert) (v := v) (s := s) ⟨rfl, rfl, rfl⟩ ⟨rfl, rfl⟩
  have hedges : o.sst.active.edgesPerInsert = v.toNat := congrArg Settings.edgesPerInsert hsst
  have hlife : s.sst.active.edgeLife = o.sst.active.edgeLife := (congrArg Settings.edgeLife hsst).symm
  have hold : s.sst.active.edgesPerInsert = o.sst.active.edgesPerInsert ↔ v = readSetting s.sst.active .edgesPerInsert := by
    rw [hedges]
    exact (nat_written hv _).1
  rw [hu]
  by_cases hsame : s.sst.active.edgesPerInsert = o.sst.active.edgesPerInsert
  · rw [toolsChanged_same hlife hsame, hhead, if_neg fun h => h.1 (hold.1 hsame)]
  · unfold toolsChanged
    rw [edgeLifeChanged_same hlife, edgesChanged_moved hsame]
    show ((o.tcu.head.map (exhaust o.sst.active.edgesPerInsert)).get side).tool = _
    rw [Sides.get_map, hhead, exhaust_tool, hedges]
    exact if_congr ⟨fun h => ⟨fun hc => hsame (hold.2 hc), by omega⟩, fun h => by omega⟩ rfl rfl

/-- A bound of the feeds written (R141). -/
theorem taken_feeds {x : Setting} (hx : x = .fMin ∨ x = .fMax) {v : Int} (hv : 0 ≤ v) (s : State) (side : Side) :
    ((takeSetting x v s).tcu.head.get side).feed =
      if v = readSetting s.sst.active x then (s.tcu.head.get side).feed
      else (clampInt (writeSetting s.sst.active v x).fMin (writeSetting s.sst.active v x).fMax
        (s.tcu.head.get side).feed).toNat := by
  have hs : SameThresholds s.sst.active (writeSetting s.sst.active v x) := by
    obtain rfl | rfl := hx
    · exact ⟨rfl, rfl, rfl⟩
    · exact ⟨rfl, rfl, rfl⟩
  have hacted := ownersAct_acted (before := s.sst.active) (s := written x v s) (.inl hs)
  obtain ⟨-, hheads⟩ := hacted.idle (.inr hs)
  have hsst : (ownersAct s.sst.active (written x v s)).sst.active = writeSetting s.sst.active v x :=
    congrArg Sst.active (hacted.kept.sst rfl)
  have htools : toolsChanged s.sst.active (ownersAct s.sst.active (written x v s)) =
      ownersAct s.sst.active (written x v s) := by
    refine toolsChanged_same ?_ ?_
    · rw [hsst]
      obtain rfl | rfl := hx <;> rfl
    · rw [hsst]
      obtain rfl | rfl := hx <;> rfl
  have hsame : (s.sst.active.fMin = (writeSetting s.sst.active v x).fMin ∧
      s.sst.active.fMax = (writeSetting s.sst.active v x).fMax) ↔ v = readSetting s.sst.active x := by
    obtain rfl | rfl := hx
    · exact ⟨fun h => ((nat_written hv _).1).1 h.1, fun h => ⟨((nat_written hv _).1).2 h, rfl⟩⟩
    · exact ⟨fun h => ((nat_written hv _).1).1 h.2, fun h => ⟨rfl, ((nat_written hv _).1).2 h⟩⟩
  rw [(takeSetting_taken x v s).tcu, htools, (hheads side).1]
  exact if_congr hsame rfl rfl

/-- The silence timer at a setting taken (R176). -/
theorem taken_silence {x : Setting} {v : Int} {s : State} (hh : settingHeld s x = false) (hw : workLaw s = true)
    {u : State} (hu : u = takeSetting x v s) :
    (x = .silenceTimeout → 0 ≤ v → u.slp.silenceTimer = if v = 0 then none else some v.toNat) ∧
    (x ≠ .silenceTimeout → u.slp.silenceTimer = s.slp.silenceTimer) := by
  have hacted := ownersAct_acted (before := s.sst.active) (s := written x v s) (thresholds_or_rest hh hw)
  have htaken := takeSetting_taken x v s
  rw [← hu] at htaken
  generalize ownersAct s.sst.active (written x v s) = o at *
  refine ⟨fun hx hv => ?_, fun hx => ?_⟩
  · subst hx
    have htimeout : o.sst.active.silenceTimeout = v.toNat :=
      congrArg (fun t : Sst => t.active.silenceTimeout) (hacted.kept.sst rfl)
    rw [htaken.silence, if_pos rfl, htimeout]
    exact if_congr (by omega) rfl rfl
  · rw [htaken.silence, if_neg hx, hacted.kept.slp rfl]
    rfl

end Clauses

end Sys2Proof.Machine

namespace Sys2Proof.Machine

/-! ## SET_SETTING, answered (R181, R182) -/

section SetSetting

/-- The values of the settings whose owners take them as numbers are never negative (10.1). -/
theorem taken_nonneg {x : Setting} {v : Int} (hv : (settingRange x).1 ≤ v)
    (hx : x = .contact ∨ x = .bearing ∨ x = .overload ∨ x = .edgeLife ∨ x = .edgesPerInsert ∨ x = .fMin ∨ x = .fMax ∨
      x = .silenceTimeout) : 0 ≤ v := by
  obtain rfl | rfl | rfl | rfl | rfl | rfl | rfl | rfl := hx <;> exact le_trans (by decide) hv

/-- What a state `t` answers to the setting taken in `u`: the reply, the conditions handed, and all else as `u` has it. -/
structure SettingReplied (tag : Byte) (body : ReplyBody) (u t : State) : Prop where
  slot : t.slp.replySlot = some ⟨0xD0#8, tag, body⟩
  silence : t.slp.silenceTimer = u.slp.silenceTimer
  blu : t.blu = u.blu
  pmu : t.pmu = u.pmu
  tpe : t.tpe = u.tpe
  tcu : t.tcu = u.tcu
  sst : t.sst = u.sst
  ahs : t.ahs = u.ahs
  monitor : ∀ m, t.fmu.monitors.get m = reviewed u m

theorem close_settingReplied (tag : Byte) (body : ReplyBody) (s u : State) :
    SettingReplied tag body u (close s (replied 0xD0#8 tag body u)) where
  slot := by rw [close_slp]; rfl
  silence := by rw [close_slp]; rfl
  blu := close_blu ..
  pmu := close_pmu ..
  tpe := close_tpe ..
  tcu := close_tcu ..
  sst := close_sst ..
  ahs := close_ahs ..
  monitor m := by
    rw [close_fmu]
    exact PerMonitor.get_ofFn ..

/-- The refusals of SET_SETTING (R181). -/
theorem setSetting_refused {s : State} (hs : settled s = true) (hd : canDispatch s = true) (tag : Byte)
    {addr : SettingAddr} {x : Setting} (hx : settingOf addr = some x) (value : Int) :
    (badValue x value = true → exec (.setSetting tag addr value) s = .next (repliedCode 0xD0#8 tag .badParameter s)) ∧
    (badValue x value = false →
      (s.sst.store ≠ .idle ∨ (isPlanInput s x && planInUse s) = true →
        exec (.setSetting tag addr value) s = .next (repliedCode 0xD0#8 tag .busy s)) ∧
      (s.sst.store = .idle → (isPlanInput s x && planInUse s) = false → settingHeld s x = true →
        exec (.setSetting tag addr value) s = .next (repliedCode 0xD0#8 tag .notAvailable s))) := by
  refine ⟨fun hb => ?_, fun hb => ⟨fun hu => ?_, fun hi hu hh => ?_⟩⟩
  · refine exec_say_same 0x50#8 rfl rfl hs hd ?_
    simp only [setSettingRequest, hx, hb, if_true]
  · refine exec_say_same 0x50#8 rfl rfl hs hd ?_
    simp only [setSettingRequest, hx, hb, Bool.false_eq_true, if_false]
    exact if_pos hu
  · refine exec_say_same 0x50#8 rfl rfl hs hd ?_
    simp only [setSettingRequest, hx, hb, Bool.false_eq_true, if_false]
    rw [if_neg (by simp [hi, hu]), if_pos hh]

theorem setSetting_unknown {s : State} (hs : settled s = true) (hd : canDispatch s = true) (tag : Byte)
    {addr : SettingAddr} (hx : settingOf addr = none) (value : Int) :
    exec (.setSetting tag addr value) s = .next (repliedCode 0xD0#8 tag .badParameter s) := by
  refine exec_say_same 0x50#8 rfl rfl hs hd ?_
  simp only [setSettingRequest, hx]

/-- SET_SETTING where nothing holds the setting (R181, R182). -/
theorem setSetting_accepted {s : State} (hd : canDispatch s = true) (tag : Byte) {addr : SettingAddr} {x : Setting}
    (hx : settingOf addr = some x) {value : Int} (hb : badValue x value = false) (hi : s.sst.store = .idle)
    (hu : (isPlanInput s x && planInUse s) = false) (hh : settingHeld s x = false) {v : Int}
    (hv : v = takenValue s.sst.active x value) :
    ∃ t, exec (.setSetting tag addr value) s = .next t ∧
      SettingReplied tag (.fixed (if v = value then .ok else .clamped) (be 4 v)) (takeSetting x v s) t := by
  have hcode : okOr (decide (v ≠ value)) = if v = value then Code.ok else .clamped := by
    rw [okOr_decide]
    exact ite_not ..
  have hreq : setSettingRequest addr value s = (.fixed (okOr (decide (v ≠ value))) (be 4 v), takeSetting x v s) := by
    simp only [setSettingRequest, hx, hb, Bool.false_eq_true, if_false]
    rw [if_neg (by simp [hi, hu]), if_neg (by simp [hh]), hv]
  have heff : effectOf (.setSetting tag addr value) s =
      replied 0xD0#8 tag (.fixed (if v = value then .ok else .clamped) (be 4 v)) (takeSetting x v s) := by
    rw [show effectOf (.setSetting tag addr value) = answer 0x50#8 tag (setSettingRequest addr value) from rfl]
    unfold answer
    rw [if_pos hd, hreq, hcode]
    rfl
  refine ⟨_, exec_next .., ?_⟩
  rw [heff]
  exact close_settingReplied ..

/-- The settings and the slots with one setting taken. -/
theorem takeSetting_stored {x : Setting} {v : Int} {s : State} (hh : settingHeld s x = false) (hw : workLaw s = true) :
    (takeSetting x v s).sst = { s.sst with active := writeSetting s.sst.active v x } ∧
    (takeSetting x v s).ahs.slots = s.ahs.slots := by
  have hacted := ownersAct_acted (before := s.sst.active) (s := written x v s) (thresholds_or_rest hh hw)
  have htaken := takeSetting_taken x v s
  exact ⟨htaken.sst.trans (hacted.kept.sst rfl), htaken.slots.trans (hacted.kept.slots rfl)⟩

/-- Settles O52: the refusals one by one, then the value taken and each owner of a setting. -/
theorem settingIsSet : Obligations.SettingIsSet := by
  unfold Obligations.SettingIsSet
  refine ⟨fun tag addr value s hready => ?_, fun st addr x value ha hb hg => takenValue_good ha hb hg rfl⟩
  obtain ⟨hs, hd⟩ := ready_iff.1 hready
  refine ⟨fun hnone => setSetting_unknown hs hd tag hnone value, fun x hx => ?_⟩
  obtain ⟨hbad, hrest⟩ := setSetting_refused hs hd tag hx value
  refine ⟨hbad, fun hb => ⟨(hrest hb).1, fun hi hin => ⟨(hrest hb).2 hi hin, fun hh hg hw => ?_⟩⟩⟩
  obtain ⟨v, hv⟩ : ∃ v, v = takenValue s.sst.active x value := ⟨_, rfl⟩
  obtain ⟨-, hread, hlow, -, -⟩ := takenValue_good hx hb hg hv
  obtain ⟨hwhole, -, -⟩ := settingsGood_iff.1 hg
  have hother := fun y (hy : y ≠ x) => readSetting_write_other hwhole v (settingOf_named hx) hy
  obtain ⟨hsst, hslots⟩ := takeSetting_stored (v := v) hh hw
  obtain ⟨hplan, hnoplan⟩ := taken_plan hh hw hin (v := v) rfl
  obtain ⟨hsilent, hkept⟩ := taken_silence hh hw (v := v) rfl
  obtain ⟨t, hexec, ht⟩ := setSetting_accepted hd tag hx hb hi hin hh hv
  have hactive : t.sst.active = writeSetting s.sst.active v x := by rw [ht.sst, hsst]
  have hspindle : spindleRunning t = spindleRunning (takeSetting x v s) :=
    spindleRunning_congr (congrArg Tcu.spindle ht.tcu)
  refine ⟨t, v, hexec, hv, ht.slot, by rw [hactive, hread], fun y hy => by rw [hactive, hother y hy], ?_, ?_, ?_, ?_, ?_,
    ?_, ?_, fun side => ⟨?_, ?_, ?_⟩, ?_, ?_⟩
  · rw [ht.sst, hsst]
  · rw [ht.ahs, hslots]
  · intro hload
    have hnonneg := taken_nonneg hlow (by obtain rfl | rfl | rfl := hload <;> simp)
    rw [ht.blu, hactive, hspindle, ht.tcu]
    exact taken_thresholds hload hnonneg hh hw rfl
  · rintro m rfl
    have hmode : t.sst.active.monitorMode.get m = .ofCode v := by
      rw [hactive]
      exact written_mode m v s
    have hm := mode_written hs (takeSetting_mode m v s) hmode
    rw [← ht.monitor, ← ht.blu] at hm
    exact hm
  · rintro side rfl
    rw [ht.pmu]
    exact taken_offset
  · rw [ht.tpe]
    exact hplan
  · rw [ht.tpe]
    exact hnoplan
  · rintro rfl
    rw [ht.tcu]
    exact taken_edgeLife (taken_nonneg hlow (by simp)) s side
  · rintro rfl
    rw [ht.tcu]
    exact taken_edges (taken_nonneg hlow (by simp)) s side
  · intro hfeed
    rw [ht.tcu, hactive]
    exact taken_feeds hfeed (taken_nonneg hlow (by obtain rfl | rfl := hfeed <;> simp)) s side
  · rintro rfl
    rw [ht.silence]
    exact hsilent rfl (taken_nonneg hlow (by simp))
  · rw [ht.silence]
    exact hkept

end SetSetting

end Sys2Proof.Machine

end

section
namespace Sys2Proof.Machine

/-! ## Requests that read -/

section Reads

/-- A reading request, as a command: the reply slot alone takes its reply, whose fields wait for the sending (R172). -/
theorem exec_late {i : Instr} (kind : Byte) {k tag : Byte} {handler : State → Answer} {s : State} {read : LateRead}
    (he : effectOf i = answer kind tag handler) (hk : kind + 0x80#8 = k) (hready : ready s = true)
    (hh : handler s = (.late read, s)) : exec i s = .next (replied k tag (.late read) s) := by
  obtain ⟨hs, hd⟩ := ready_iff.1 hready
  have heffect : effectOf i s = replied k tag (.late read) s := by
    rw [he, ← hk]
    unfold answer
    rw [if_pos hd, hh]
    rfl
  rw [exec_next, heffect]
  exact congrArg _ (close_settled_same _ _ (settled_modSlp _ hs) rfl)

theorem readProfileRequest_side {code : Nat} {side : Side} (h : sideOf code = some side) (s : State) :
    readProfileRequest code s = (.late (.readProfile side), s) := by
  unfold readProfileRequest
  rw [h]

theorem loading_ready {s : State} (h : s.ahs.store = .ready) : loading s = false := by
  unfold loading
  rw [h]
  rfl

theorem listBogieRequest_ready (bogieId : BogieId) {s : State} (h : s.ahs.store = .ready) :
    listBogieRequest bogieId s = (.late (.listBogie bogieId), s) := by
  unfold listBogieRequest
  rw [loading_ready h]
  rfl

theorem readHistoryRequest_found {axleId : AxleId} {start : Nat} {r : Record} {s : State} (h : s.ahs.store = .ready)
    (hid : idValid 10 axleId = true) (hindex : (indexFind axleId s.ahs.index).isSome = true)
    (hr : readRecord axleId s = some r) (hstart : start ≤ r.entries.length) :
    readHistoryRequest axleId start s = (.late (.readHistory axleId start), s) := by
  obtain ⟨e, he⟩ := Option.isSome_iff_exists.1 hindex
  unfold readHistoryRequest
  rw [hid, loading_ready h, he, Option.bind_some, hr]
  exact if_neg hstart.not_gt

theorem getSettingRequest_active {addr : SettingAddr} (h : (settingOf addr).isSome = true) (s : State) :
    getSettingRequest 0 addr s = (.late (.getSetting false addr), s) := by
  obtain ⟨x, hx⟩ := Option.isSome_iff_exists.1 h
  unfold getSettingRequest
  rw [hx]
  rfl

theorem getSettingRequest_stored {addr : SettingAddr} {s : State} (h : (settingOf addr).isSome = true)
    (hw : s.sst.store ≠ .writing) (hi : s.sst.image.isSome = true) :
    getSettingRequest 1 addr s = (.late (.getSetting true addr), s) := by
  obtain ⟨x, hx⟩ := Option.isSome_iff_exists.1 h
  obtain ⟨image, himage⟩ := Option.isSome_iff_exists.1 hi
  unfold getSettingRequest
  rw [hx]
  simp [storedOf, hw, himage]

/-- Settles O47: each reading request has a handler that answers late and leaves the part. -/
theorem readsAreServed : Obligations.ReadsAreServed := by
  unfold Obligations.ReadsAreServed
  refine fun tag s h => ⟨exec_late 0x48#8 rfl rfl h rfl, exec_late 0x21#8 rfl rfl h rfl, exec_late 0x31#8 rfl rfl h rfl,
    fun code side hside => exec_late 0x2B#8 rfl rfl h (readProfileRequest_side hside s),
    fun hstore => ⟨fun bogieId => exec_late 0x41#8 rfl rfl h (listBogieRequest_ready bogieId hstore),
      fun axleId start r hid hindex hr hstart =>
        exec_late 0x40#8 rfl rfl h (readHistoryRequest_found hstore hid hindex hr hstart)⟩,
    fun addr haddr => ⟨exec_late 0x51#8 rfl rfl h (getSettingRequest_active haddr s),
      fun hw hi => exec_late 0x51#8 rfl rfl h (getSettingRequest_stored haddr hw hi)⟩⟩

end Reads

end Sys2Proof.Machine

end

section
namespace Sys2Proof.Machine

/-! ## Rim and force readings (R49, R97) -/

section Readings

/-- A rim sensor's record is no part of what settles, nor of the report. -/
theorem close_rim {side : Side} {f : Rim → Rim} {s : State} (h : settled s = true) :
    close s (modRim side f s) = modRim side f s := by
  refine close_settled_same _ _ ?_ rfl
  rw [settled_iff] at h ⊢
  show modRim side f (reviewAll s) = modRim side f s
  rw [h]

theorem saturate_eq (top n : Nat) : saturate top n = min n top := by
  unfold saturate
  split <;> omega

/-- What a command makes of the record of a rim sensor. -/
theorem exec_rim {i : Instr} {side : Side} {f : Rim → Rim} {r : Rim} {s : State} (he : effectOf i s = modRim side f s)
    (h : settled s = true) (hr : f (s.pmu.rim.get side) = r) :
    exec i s = .next { s with pmu := { s.pmu with rim := s.pmu.rim.set r side } } := by
  rw [exec_next, he, close_rim h, ← hr]
  rfl

theorem exec_rimReading {side : Side} {s : State} (h : settled s = true) (value : Int) :
    exec (.rimTemperatureReading side value) s = .next { s with pmu := { s.pmu with
      rim := s.pmu.rim.set ⟨max (-300) (min 600 value), .live, none⟩ side } } := by
  rw [← clampInt_eq (by decide)]
  exact exec_rim (f := fun _ => ⟨clampInt (-300) 600 value, .live, none⟩) rfl h rfl

theorem exec_rimFault {side : Side} {s : State} (h : settled s = true) (hlive : (s.pmu.rim.get side).state = .live) :
    exec (.rimSensorFault side) s = .next { s with pmu := { s.pmu with
      rim := s.pmu.rim.set ⟨(s.pmu.rim.get side).value, .held, some 10000⟩ side } } :=
  exec_rim rfl h (if_pos hlive)

theorem exec_rimHold {side : Side} {s : State} (h : settled s = true) (hheld : (s.pmu.rim.get side).state = .held)
    (ht : (s.pmu.rim.get side).holdTimer.isSome = true) :
    exec (.rimHoldTimerExpiry side) s =
      .next { s with pmu := { s.pmu with rim := s.pmu.rim.set ⟨200, .defaulted, none⟩ side } } :=
  exec_rim rfl h (if_pos ⟨hheld, ht⟩)

theorem exec_forceReading (side : Side) (value : Nat) (s : State) :
    exec (.forceReadingChange side value) s =
      .next (close s (modHead side (fun h => { h with force := min value 5000 }) s)) := by
  rw [← saturate_eq]
  exact exec_next _ s

end Readings

/-! ## The extraction (R94, R95) -/

section Extraction

/-- The search of R94 finds a radius where the samples reach from one side of the taping line to the other. -/
theorem tapingRadius_found {zTl : Int} : ∀ {list : List (Int × Int)}, Rises list → (∃ a ∈ list, a.1 ≤ zTl) →
    (∃ b ∈ list, zTl ≤ b.1) → ∃ r, tapingRadius zTl list = some r
  | [], _, ⟨a, ha, _⟩, _ => by cases ha
  | [(z, r)], _, ⟨a, ha, hlow⟩, ⟨b, hb, hhigh⟩ => by
    obtain rfl := List.mem_singleton.1 ha
    obtain rfl := List.mem_singleton.1 hb
    exact ⟨r, if_pos (le_antisymm hlow hhigh)⟩
  | (za, ra) :: (zb, rb) :: rest, hr, ⟨a, ha, hlow⟩, ⟨b, hb, hhigh⟩ => by
    have hfirst : ∀ x ∈ (zb, rb) :: rest, za < x.1 := fun x hx => List.rel_of_pairwise_cons hr hx
    have hza : za ≤ zTl := by
      obtain rfl | ha := List.mem_cons.1 ha
      · exact hlow
      · exact ((hfirst a ha).trans_le hlow).le
    unfold tapingRadius
    split
    · exact ⟨_, rfl⟩
    · next hne =>
      split
      · exact ⟨_, rfl⟩
      · next hapart =>
        have hzb : zb ≤ zTl := by
          by_contra hzb
          exact hapart ⟨lt_of_le_of_ne hza hne, not_le.1 hzb⟩
        refine tapingRadius_found hr.tail ⟨(zb, rb), by simp, hzb⟩ ⟨b, ?_, hhigh⟩
        obtain rfl | hb := List.mem_cons.1 hb
        · exact absurd (le_antisymm hza hhigh) hne
        · exact hb

theorem flangeTip_found {list : List (Int × Int)} (h : list ≠ []) : ∃ tip, flangeTip list = some tip := by
  cases list with
  | nil => exact absurd rfl h
  | cons x rest =>
    unfold flangeTip
    split
    · exact ⟨_, rfl⟩
    · split <;> exact ⟨_, rfl⟩

theorem flangeTip_iff {list : List (Int × Int)} (hr : Rises list) {tip : Int × Int} :
    flangeTip list = some tip ↔ IsFlangeTip list tip := by
  refine ⟨flangeTip_spec hr, fun h => ?_⟩
  obtain ⟨found, hfound⟩ := flangeTip_found (List.ne_nil_of_mem h.1)
  rw [hfound, (flangeTip_spec hr hfound).unique h]

/-- From the tip on, no sample lies before the tip. -/
theorem dropWhile_from {zTip : Int} : ∀ {list : List (Int × Int)}, Rises list →
    ∀ x ∈ list.dropWhile fun x => x.1 < zTip, zTip ≤ x.1
  | [], _, x, hx => by cases hx
  | a :: rest, hr, x, hx => by
    by_cases ha : a.1 < zTip
    · rw [List.dropWhile_cons_of_pos (by simpa using ha)] at hx
      exact dropWhile_from hr.tail x hx
    · rw [List.dropWhile_cons_of_neg (by simpa using ha)] at hx
      obtain rfl | hx := List.mem_cons.1 hx
      · exact not_lt.1 ha
      · exact (not_lt.1 ha).trans (List.rel_of_pairwise_cons hr hx).le

/-- The search from the tip on finds the crossing of R95. -/
theorem crossing_fromTip {level zTip zTl : Int} {list : List (Int × Int)} (hr : Rises list) (z : Int) :
    crossing level zTl (list.dropWhile fun x => x.1 < zTip) = some z ↔ IsCrossing level zTip zTl list z :=
  (crossing_iff (List.Pairwise.sublist (List.dropWhile_sublist _) hr) (dropWhile_from hr) z).trans (IsCrossing.dropWhile hr)

theorem crossing_none {level zTip zTl : Int} {list : List (Int × Int)} (hr : Rises list)
    (h : ∀ z, ¬ IsCrossing level zTip zTl list z) : crossing level zTl (list.dropWhile fun x => x.1 < zTip) = none :=
  Option.eq_none_iff_forall_ne_some.2 fun z hz => h z ((crossing_fromTip hr z).1 hz)

/-- The extraction after the two searches of R94 and R95 for the radius and the tip. -/
theorem extract_searched {zTl g qOff rTl : Int} {list : List (Int × Int)} {tip : Int × Int}
    (hradius : tapingRadius zTl list = some rTl) (htip : flangeTip list = some tip) :
    (zTl ≤ tip.1 → extract zTl g qOff list = .error .noFlange) ∧
    (tip.1 < zTl → extract zTl g qOff list =
      match crossing (rTl + g) zTl (list.dropWhile fun x => x.1 < tip.1) with
      | none => .error .noFlank
      | some zThk =>
        if tip.2 - qOff ≤ rTl + g then .error .noFlank
        else
          match crossing (tip.2 - qOff) zTl (list.dropWhile fun x => x.1 < tip.1) with
          | none => .error .noFlank
          | some zQ => .ok ⟨2 * rTl, tip.2 - rTl, zThk, zThk - zQ⟩) := by
  unfold extract
  rw [hradius, htip]
  exact ⟨fun h => if_pos h, fun h => if_neg h.not_ge⟩

/-- The extraction of a rising list by what its figures are (R94, R95). -/
theorem extract_spec {zTl g qOff rTl : Int} {list : List (Int × Int)} {tip : Int × Int} (hr : Rises list)
    (hradius : IsTapingRadius zTl list rTl) (htip : IsFlangeTip list tip) :
    let thick := IsCrossing (rTl + g) tip.1 zTl list
    let slope := IsCrossing (tip.2 - qOff) tip.1 zTl list
    (zTl ≤ tip.1 → extract zTl g qOff list = .error .noFlange) ∧
    (tip.1 < zTl →
      (∀ zThk zQ, thick zThk → rTl + g < tip.2 - qOff → slope zQ →
        extract zTl g qOff list = .ok ⟨2 * rTl, tip.2 - rTl, zThk, zThk - zQ⟩) ∧
      ((∀ z, ¬thick z) ∨ tip.2 - qOff ≤ rTl + g ∨ (∀ z, ¬slope z) →
        extract zTl g qOff list = .error .noFlank)) := by
  intro thick slope
  obtain ⟨hflange, hflank⟩ := extract_searched (g := g) (qOff := qOff) ((tapingRadius_iff hr rTl).2 hradius)
    ((flangeTip_iff hr).2 htip)
  refine ⟨hflange, fun hbefore => ⟨fun zThk zQ hthick hlevel hslope => ?_, fun hfails => ?_⟩⟩
  · rw [hflank hbefore, (crossing_fromTip hr zThk).2 hthick]
    dsimp only
    rw [if_neg hlevel.not_ge, (crossing_fromTip hr zQ).2 hslope]
  · rw [hflank hbefore]
    obtain hthick | hlevel | hslope := hfails
    · rw [crossing_none hr hthick]
    · split
      · rfl
      · exact if_pos hlevel
    · rw [crossing_none hr hslope]
      split
      · rfl
      · exact ite_self _

end Extraction

/-! ## The figures of a wheel (R96, R99) -/

section Figures

/-- A running choice of one of two radii ends at a radius of the list, or stays where it began. -/
theorem foldl_radius_mem (pick : Nat → Nat → Nat) (hpick : ∀ m n, pick m n = m ∨ pick m n = n) :
    ∀ (list : List Sample) (m : Nat), list.foldl (fun m x => pick m x.r) m = m ∨
      ∃ x ∈ list, list.foldl (fun m x => pick m x.r) m = x.r
  | [], m => .inl rfl
  | a :: rest, m => by
    obtain h | ⟨x, hx, h⟩ := foldl_radius_mem pick hpick rest (pick m a.r)
    · obtain hm | ha := hpick m a.r
      · exact .inl (h.trans hm)
      · exact .inr ⟨a, by simp, h.trans ha⟩
    · exact .inr ⟨x, List.mem_cons_of_mem _ hx, h⟩

theorem foldl_max_le : ∀ (list : List Sample) (m : Nat), m ≤ list.foldl (fun m x => max m x.r) m ∧
    ∀ x ∈ list, x.r ≤ list.foldl (fun m x => max m x.r) m
  | [], m => ⟨le_rfl, by simp⟩
  | a :: rest, m => by
    obtain ⟨hm, hrest⟩ := foldl_max_le rest (max m a.r)
    exact ⟨(le_max_left ..).trans hm, List.forall_mem_cons.2 ⟨(le_max_right ..).trans hm, hrest⟩⟩

theorem le_foldl_min : ∀ (list : List Sample) (m : Nat), list.foldl (fun m x => min m x.r) m ≤ m ∧
    ∀ x ∈ list, list.foldl (fun m x => min m x.r) m ≤ x.r
  | [], m => ⟨le_rfl, by simp⟩
  | a :: rest, m => by
    obtain ⟨hm, hrest⟩ := le_foldl_min rest (min m a.r)
    exact ⟨hm.trans (min_le_left ..), List.forall_mem_cons.2 ⟨hm.trans (min_le_right ..), hrest⟩⟩

/-- The chosen radius of a ring list is that of one of its samples. -/
theorem foldl_radius_of {pick : Nat → Nat → Nat} (hpick : ∀ m n, pick m n = m ∨ pick m n = n) (a : Sample)
    (rest : List Sample) : ∃ x ∈ a :: rest, rest.foldl (fun m x => pick m x.r) a.r = x.r := by
  obtain h | ⟨x, hx, h⟩ := foldl_radius_mem pick hpick rest a.r
  · exact ⟨a, by simp, h⟩
  · exact ⟨x, List.mem_cons_of_mem _ hx, h⟩

/-- The out-of-round depth is the largest radius less the smallest (R96). -/
theorem outOfRound_spec {ring : List Sample} (h : ring ≠ []) :
    ∃ a ∈ ring, ∃ b ∈ ring, outOfRound ring = (a.r : Int) - b.r ∧ ∀ x ∈ ring, b.r ≤ x.r ∧ x.r ≤ a.r := by
  cases ring with
  | nil => exact absurd rfl h
  | cons first rest =>
    obtain ⟨a, ha, hmax⟩ := foldl_radius_of (fun m n => (max_choice m n)) first rest
    obtain ⟨b, hb, hmin⟩ := foldl_radius_of (fun m n => (min_choice m n)) first rest
    obtain ⟨hfirstMax, hrestMax⟩ := foldl_max_le rest first.r
    obtain ⟨hfirstMin, hrestMin⟩ := le_foldl_min rest first.r
    rw [hmax] at hfirstMax hrestMax
    rw [hmin] at hfirstMin hrestMin
    refine ⟨a, ha, b, hb, ?_, List.forall_mem_cons.2 ⟨⟨hfirstMin, hfirstMax⟩, fun x hx => ⟨hrestMin x hx, hrestMax x hx⟩⟩⟩
    rw [← hmax, ← hmin]
    rfl

/-- D20 is the diameter less its rounded correction (R99). -/
theorem d20Of_rounds (d temp : Int) : RoundsHalfAway (d - d20Of d temp) (d * 115 * (temp - 200)) 100000000 := by
  rw [divHalfAway_iff (by decide)]
  unfold d20Of correction
  omega

/-- The verdict of R99, its limits met for SERVICEABLE. -/
theorem verdictOf_eq (w : WheelType) (d20 : Int) (x : Extract) (oor : Int) :
    verdictOf w d20 x oor =
      if w.dScrap = 0 then none
      else if d20 < w.dScrap then some .condemn
      else if x.h ≤ w.hMax ∧ w.tMin ≤ x.t ∧ x.t ≤ w.tMax ∧ w.qRMin ≤ x.qR ∧ oor ≤ w.oorMax then some .serviceable
      else some .turn := by
  have hlimits : ¬ ((w.hMax : Int) < x.h ∨ x.t < w.tMin ∨ (w.tMax : Int) < x.t ∨ x.qR < w.qRMin ∨ (w.oorMax : Int) < oor) ↔
      x.h ≤ w.hMax ∧ w.tMin ≤ x.t ∧ x.t ≤ w.tMax ∧ w.qRMin ≤ x.qR ∧ oor ≤ w.oorMax := by
    simp only [not_or, not_lt]
  unfold verdictOf
  split
  · rfl
  · split
    · rfl
    · simp only [← hlimits, ite_not]

/-- Settles O34: the readings clause by clause, and the extraction by the searches of R94 and R95. -/
theorem readingsAreTaken : Obligations.ReadingsAreTaken := by
  unfold Obligations.ReadingsAreTaken
  refine ⟨fun side s h => ⟨exec_rimReading h, exec_rimFault h, exec_rimHold h⟩, exec_forceReading, fun _ _ => rfl,
    fun zTl g qOff list hr => ⟨fun hlow hhigh => ?_, fun rTl tip hradius htip => extract_spec hr hradius htip⟩,
    fun ring => outOfRound_spec, d20Of_rounds, verdictOf_eq⟩
  obtain ⟨rTl, hradius⟩ := tapingRadius_found hr hlow hhigh
  obtain ⟨a, ha, -⟩ := hlow
  obtain ⟨tip, htip⟩ := flangeTip_found (List.ne_nil_of_mem ha)
  exact ⟨rTl, tip, (tapingRadius_iff hr rTl).1 hradius, (flangeTip_iff hr).1 htip⟩

end Figures

end Sys2Proof.Machine

end

section
namespace Sys2Proof.Machine

/-! ## An index event of one head (R126 to R129, R137) -/

section HeadEvent

theorem setPass_status {side : Side} {before : PassStatus} (status : PassStatus) {s : State}
    (h : passStatus side s = some before) : passStatus side (setPass side status s) = some status := by
  unfold passStatus at h ⊢
  rw [setPass_head]
  cases hi : (s.tcu.head.get side).passIndex with
  | none => rw [hi] at h; cases h
  | some i =>
    rw [hi] at h
    dsimp only at h ⊢
    rw [setPass_statuses hi, List.getElem?_set_self (List.getElem?_eq_some_iff.1 h).1]

theorem passTravel_of {s : State} {p : Progress} (h : s.tcu.progress = some p) : passTravel s = p.lProf := by
  unfold passTravel
  rw [h]

theorem setPass_travel (side : Side) (status : PassStatus) (s : State) :
    passTravel (setPass side status s) = passTravel s := by
  unfold setPass
  cases hi : (s.tcu.head.get side).passIndex with
  | none => rfl
  | some i =>
    unfold passTravel
    dsimp only [State.modTcu_tcu]
    cases s.tcu.progress <;> rfl

theorem setPass_sameOther (side : Side) (status : PassStatus) (s : State) :
    SameSide side.other s (setPass side status s) :=
  ⟨(passesOnly_setPass side status s).tpe, by rw [setPass_head], setPass_statuses_other side status s⟩

theorem modHead_get (side : Side) (f : Head → Head) (s : State) :
    (modHead side f s).tcu.head.get side = f (s.tcu.head.get side) := Sides.get_set_same ..

theorem modHead_sameOther (side : Side) (f : Head → Head) (s : State) : SameSide side.other s (modHead side f s) :=
  ⟨rfl, Sides.get_other_set .., rfl⟩

/-- The head after a further revolution in the cut (R127, R137). -/
abbrev revolved (side : Side) (s : State) : State := modHead side (Head.revolution s.sst.active.edgeLife) s

theorem revolutionsLeft_eq (lProf zDone feed : Nat) :
    revolutionsLeft lProf zDone feed = min 65535 (natDivCeil (lProf - zDone) feed) :=
  (saturate_eq ..).trans (min_comm ..)

/-- The pass whose travel is done is COMPLETE, and its head on the way to AT_WORK (R129). -/
theorem cutEvent_done {readings : List Nat} {side : Side} {s : State} {z : Nat}
    (hz : (s.tcu.head.get side).zDone = some z) (h : passTravel s ≤ z + (s.tcu.head.get side).feed) :
    cutEvent readings side s = modHead side (·.moveTo .atWork) (setPass side .complete (revolved side s)) := by
  unfold cutEvent
  dsimp only
  rw [modHead_get, if_pos]
  simpa [Head.revolution, hz] using h

/-- A pass whose travel is not done goes on, with the feed of R128. -/
theorem cutEvent_goes {readings : List Nat} {side : Side} {s : State} {z : Nat}
    (hz : (s.tcu.head.get side).zDone = some z) (h : z + (s.tcu.head.get side).feed < passTravel s) :
    cutEvent readings side s =
      modHead side (fun h =>
        let feed := newFeed s.sst.active (forceTarget side s) readings (s.tcu.head.get side)
        { h with
          zDone := some (z + (s.tcu.head.get side).feed)
          feed := feed
          remaining := some (min 65535 (natDivCeil (passTravel s - (z + (s.tcu.head.get side).feed)) feed)) })
        (revolved side s) := by
  unfold cutEvent
  dsimp only
  rw [modHead_get, if_neg]
  · simp only [revolutionsLeft_eq, Head.revolution, hz, Option.getD_some]
    rfl
  · simpa [Head.revolution, hz] using h

theorem cutEvent_passesOnly (readings : List Nat) (side : Side) (s : State) : PassesOnly s (cutEvent readings side s) := by
  unfold cutEvent
  dsimp only
  split
  · exact ((passesOnly_modHead side _ s).trans (passesOnly_setPass side _ _)).trans (passesOnly_modHead side _ _)
  · exact (passesOnly_modHead side _ s).trans (passesOnly_modHead side _ _)

theorem cutEvent_sameOther (readings : List Nat) (side : Side) (s : State) :
    SameSide side.other s (cutEvent readings side s) := by
  unfold cutEvent
  dsimp only
  split
  · exact ((modHead_sameOther side _ s).trans (setPass_sameOther side _ _)).trans (modHead_sameOther side _ _)
  · exact (modHead_sameOther side _ s).trans (modHead_sameOther side _ _)

theorem cutEvent_travel (readings : List Nat) (side : Side) (s : State) :
    passTravel (cutEvent readings side s) = passTravel s := by
  unfold cutEvent
  dsimp only
  split
  · exact setPass_travel side _ _
  · rfl

/-- A cut that begins where its force monitor waits for no stroke (R58, R126). -/
theorem beginCut_untripped {side : Side} {s : State} (h : (s.fmu.monitors.get (forceOf side)).state ≠ .tripped) :
    beginCut side s = modHead side (fun h =>
      let feed := (clampInt s.sst.active.fMin s.sst.active.fMax s.sst.active.fStart).toNat
      { h with
        position := .inCut
        dest := none
        feed := feed
        zDone := some 0
        remaining := some (min 65535 (natDivCeil (passTravel s) feed))
        blankLeft := s.sst.active.toolBlanking.get side }) s := by
  refine (strokeStart_untripped (s := modHead side _ s) h).trans ?_
  simp only [revolutionsLeft_eq]
  rfl

/-- A head that neither cuts nor waits for its cut stays (R127). -/
theorem headEvent_stays {readings : List Nat} {side : Side} {s : State}
    (hcut : (s.tcu.head.get side).position ≠ .inCut) (hwait : (s.tcu.head.get side).dest ≠ some .awaitIndex) :
    headEvent readings side s = s := by
  unfold headEvent
  dsimp only
  rw [if_neg hcut, if_neg fun h => hwait h.2]

/-- A property of what an index event may make of a head, its force monitor waiting for no stroke. -/
theorem headEvent_cases {P : State → Prop} {readings : List Nat} {side : Side} {s : State}
    (h : (s.fmu.monitors.get (forceOf side)).state ≠ .tripped) (hcut : P (cutEvent readings side s))
    (hbegin : ∀ f, P (modHead side f s)) (hstay : P s) : P (headEvent readings side s) := by
  unfold headEvent
  dsimp only
  split
  · exact hcut
  · split
    · rw [beginCut_untripped h]
      exact hbegin _
    · exact hstay

variable {readings : List Nat} {side : Side} {s : State}

theorem headEvent_passesOnly (h : (s.fmu.monitors.get (forceOf side)).state ≠ .tripped) :
    PassesOnly s (headEvent readings side s) :=
  headEvent_cases h (cutEvent_passesOnly readings side s) (fun f => passesOnly_modHead side f s) (.refl s)

theorem headEvent_sameOther (h : (s.fmu.monitors.get (forceOf side)).state ≠ .tripped) :
    SameSide side.other s (headEvent readings side s) :=
  headEvent_cases h (cutEvent_sameOther readings side s) (fun f => modHead_sameOther side f s) (.refl _ s)

theorem headEvent_travel (h : (s.fmu.monitors.get (forceOf side)).state ≠ .tripped) :
    passTravel (headEvent readings side s) = passTravel s :=
  headEvent_cases (P := fun t => passTravel t = passTravel s) h (cutEvent_travel readings side s) (fun _ => rfl) rfl

/-- What an index event does to the head of a side whose pass has the travel `lProf` (R126 to R129). -/
structure HeadIndexed (readings : List Nat) (lProf : Nat) (side : Side) (s t : State) : Prop where
  worn : (s.tcu.head.get side).position = .inCut →
    (t.tcu.head.get side).edgeCount = min 65535 ((s.tcu.head.get side).edgeCount + 1) ∧
    (t.tcu.head.get side).tool =
      if (s.tcu.head.get side).tool = .usable ∧
          s.sst.active.edgeLife ≤ min 65535 ((s.tcu.head.get side).edgeCount + 1) then .worn
      else (s.tcu.head.get side).tool
  done : ∀ z, (s.tcu.head.get side).position = .inCut → (s.tcu.head.get side).zDone = some z →
    lProf ≤ z + (s.tcu.head.get side).feed →
      (t.tcu.head.get side).position = .moving ∧ (t.tcu.head.get side).dest = some .atWork ∧
      (t.tcu.head.get side).zDone = none ∧ (t.tcu.head.get side).remaining = none ∧
      (t.tcu.head.get side).feed = (s.tcu.head.get side).feed ∧
      (passStatus side s = some .active → passStatus side t = some .complete)
  goes : ∀ z, (s.tcu.head.get side).position = .inCut → (s.tcu.head.get side).zDone = some z →
    z + (s.tcu.head.get side).feed < lProf →
      (t.tcu.head.get side).position = .inCut ∧
      (t.tcu.head.get side).zDone = some (z + (s.tcu.head.get side).feed) ∧
      (t.tcu.head.get side).feed = newFeed s.sst.active (forceTarget side s) readings (s.tcu.head.get side) ∧
      (t.tcu.head.get side).remaining =
        some (min 65535 (natDivCeil (lProf - (z + (s.tcu.head.get side).feed)) (t.tcu.head.get side).feed))
  begins : (s.tcu.head.get side).position = .moving → (s.tcu.head.get side).dest = some .awaitIndex →
    let feed := (clampInt s.sst.active.fMin s.sst.active.fMax s.sst.active.fStart).toNat
    t.tcu.head.get side = { s.tcu.head.get side with
      position := .inCut, dest := none, feed := feed, zDone := some 0
      remaining := some (min 65535 (natDivCeil lProf feed))
      blankLeft := s.sst.active.toolBlanking.get side }
  stays : (s.tcu.head.get side).position ≠ .inCut → (s.tcu.head.get side).dest ≠ some .awaitIndex →
    t.tcu.head.get side = s.tcu.head.get side

theorem SameSide.passStatus {s t : State} (h : SameSide side s t) : passStatus side t = passStatus side s :=
  passStatus_congr (by rw [h.head]) h.statuses

theorem SameSide.forceTarget {s t : State} (h : SameSide side s t) : forceTarget side t = forceTarget side s := by
  unfold Machine.forceTarget
  rw [h.tpe]

theorem HeadIndexed.congr {lProf : Nat} {s s' t t' : State} (h : HeadIndexed readings lProf side s t)
    (hs : SameSide side s' s) (hsst : s.sst = s'.sst) (ht : SameSide side t t') :
    HeadIndexed readings lProf side s' t' := by
  obtain ⟨h1, h2, h3, h4, h5⟩ := h
  rw [hs.head, hsst] at h1 h4
  rw [hs.head, hs.passStatus] at h2
  rw [hs.head, hsst, hs.forceTarget] at h3
  rw [hs.head] at h5
  refine ⟨?_, ?_, ?_, ?_, ?_⟩
  · rw [ht.head]; exact h1
  · rw [ht.head, ht.passStatus]; exact h2
  · rw [ht.head]; exact h3
  · rw [ht.head]; exact h4
  · rw [ht.head]; exact h5

theorem revolution_worn (edgeLife : Nat) (h : Head) :
    (h.revolution edgeLife).edgeCount = min 65535 (h.edgeCount + 1) ∧
    (h.revolution edgeLife).tool =
      if h.tool = .usable ∧ edgeLife ≤ min 65535 (h.edgeCount + 1) then .worn else h.tool := by
  unfold Head.revolution
  rw [saturate_eq, min_comm]
  exact ⟨rfl, rfl⟩

theorem cutEvent_worn (readings : List Nat) (side : Side) (s : State) :
    ((cutEvent readings side s).tcu.head.get side).edgeCount =
      ((s.tcu.head.get side).revolution s.sst.active.edgeLife).edgeCount ∧
    ((cutEvent readings side s).tcu.head.get side).tool =
      ((s.tcu.head.get side).revolution s.sst.active.edgeLife).tool := by
  unfold cutEvent
  dsimp only
  split
  · rw [modHead_get, setPass_head, modHead_get]
    exact ⟨rfl, rfl⟩
  · rw [modHead_get, modHead_get]
    exact ⟨rfl, rfl⟩

/-- What an index event does to a head, its force monitor waiting for no stroke. -/
theorem headEvent_indexed (h : (s.fmu.monitors.get (forceOf side)).state ≠ .tripped) :
    HeadIndexed readings (passTravel s) side s (headEvent readings side s) := by
  have hcutting : (s.tcu.head.get side).position = .inCut → headEvent readings side s = cutEvent readings side s :=
    fun hin => if_pos hin
  refine ⟨fun hin => ?_, fun z hin hz htravel => ?_, fun z hin hz htravel => ?_, fun hmoving hwait => ?_,
    fun hcut hwait => by rw [headEvent_stays hcut hwait]⟩
  · obtain ⟨hcount, htool⟩ := cutEvent_worn readings side s
    obtain ⟨hcount', htool'⟩ := revolution_worn s.sst.active.edgeLife (s.tcu.head.get side)
    rw [hcutting hin]
    exact ⟨hcount.trans hcount', htool.trans htool'⟩
  · rw [hcutting hin, cutEvent_done hz htravel, modHead_get, setPass_head, modHead_get]
    refine ⟨rfl, rfl, rfl, rfl, rfl, fun hactive => ?_⟩
    have hsame : passStatus side (revolved side s) = passStatus side s :=
      passStatus_congr (by rw [modHead_get]; rfl) rfl
    refine Eq.trans (passStatus_congr (s := setPass side .complete (revolved side s)) ?_ rfl)
      (setPass_status .complete (hsame.trans hactive))
    rw [modHead_get]
    rfl
  · rw [hcutting hin, cutEvent_goes hz htravel, modHead_get, modHead_get]
    exact ⟨hin, rfl, rfl, rfl⟩
  · have hbegin : headEvent readings side s = beginCut side s := by
      unfold headEvent
      dsimp only
      rw [if_neg (by rw [hmoving]; simp), if_pos ⟨hmoving, hwait⟩]
    rw [hbegin, beginCut_untripped h, modHead_get]

end HeadEvent

/-! ## The settling of the ring (R90) -/

section Settle

/-- A transaction of a head that has room in its quota stands at the back of the queue (R67). -/
theorem place_head {side : Side} {x : Txn} {s : State} (hx : x.requester = .pmu side)
    (hroom : heldBy (.pmu side) s < 2) (hheld : s.gbc.held.get side = []) :
    place x s = s.modGbc fun g => { g with queue := g.queue ++ [x] } := by
  unfold place
  rw [hx, if_pos ⟨hroom, hheld⟩]

/-- What begins the ring of a head (R83, R90). -/
def ringTxns (side : Side) : List Txn := [ringStartTxn side .sweep, stateReadTxn side .sweep]

/-- A swept head with nothing in the queue begins its ring. -/
theorem startRing_swept {side : Side} {s : State} (hswept : swept side s = true) (hfree : heldBy (.pmu side) s = 0)
    (hheld : s.gbc.held.get side = []) :
    startRing side s = s.modGbc fun g => { g with queue := g.queue ++ ringTxns side } := by
  have hone : heldBy (.pmu side) (s.modGbc fun g => { g with queue := g.queue ++ [ringStartTxn side .sweep] }) < 2 := by
    unfold heldBy at hfree ⊢
    rw [State.modGbc_gbc, List.filter_append, List.length_append, hfree, Nat.zero_add]
    exact Nat.lt_succ_of_le (List.length_filter_le ..)
  unfold startRing
  rw [if_pos hswept, place_head (side := side) rfl (by omega) hheld, place_head (side := side) rfl hone hheld]
  unfold State.modGbc ringTxns
  simp

theorem startRing_other {side : Side} {s : State} (h : swept side s = false) : startRing side s = s :=
  if_neg (by simp [h])

/-- Both swept heads begin the ring, L before R. -/
theorem startRings_gbc {w : Wheels} {s : State} (hw : s.pmu.selected = some w) (hq : s.gbc.queue = [])
    (hheld : s.gbc.held = .both []) :
    (forSides startRing s).gbc = { s.gbc with queue := ([Side.l, .r].filter w.has).flatMap ringTxns } := by
  have hswept : ∀ side u, u.pmu = s.pmu → swept side u = w.has side := fun side u hu => by
    unfold swept
    rw [hu, hw]
  have hempty : ∀ side, s.gbc.held.get side = [] := fun side => by rw [hheld, Sides.get_both]
  have hl : (startRing .l s).gbc = { s.gbc with queue := if w.has .l then ringTxns .l else [] } := by
    cases hh : w.has .l with
    | true =>
      rw [startRing_swept ((hswept .l s rfl).trans hh) (by simp [heldBy, hq]) (hempty .l)]
      simp [hq]
    | false =>
      rw [startRing_other ((hswept .l s rfl).trans hh), if_neg (by decide), ← hq]
  have hpmu : (startRing .l s).pmu = s.pmu := (kept_startRing (keep := { gbc := true }) .l rfl (.refl _ s)).pmu rfl
  show (startRing .r (startRing .l s)).gbc = _
  cases hh : w.has .r with
  | true =>
    rw [startRing_swept ((hswept .r _ hpmu).trans hh) ?_ (by rw [hl]; exact hempty .r), State.modGbc_gbc, hl]
    · cases hh' : w.has .l <;> simp [hh, hh']
    · unfold heldBy
      rw [hl]
      cases w.has .l <;> rfl
  | false =>
    rw [startRing_other ((hswept .r _ hpmu).trans hh), hl]
    cases hh' : w.has .l <;> simp [hh, hh']

/-- The conditions under which an index event counts toward the ring (R90). -/
def settles (s : State) : Bool := s.pmu.phase == .ringWait && atSpeed s && headsReady s

theorem settle_uncounted {s : State} (h : settles s = false) : settle s = s := by
  unfold settle
  refine if_neg fun hc => ?_
  obtain ⟨h1, h2, h3⟩ := hc
  simp [settles, h1, h2, h3] at h

theorem settle_counted {s : State} (h : settles s = true) :
    settle s = if s.pmu.settle + 1 < 2 then s.modPmu fun p => { p with settle := p.settle + 1 }
      else forSides startRing (s.modPmu fun p => { p with settle := 2, phase := .ringScan }) := by
  unfold settles at h
  rw [Bool.and_eq_true, Bool.and_eq_true, beq_iff_eq] at h
  obtain ⟨⟨h1, h2⟩, h3⟩ := h
  exact if_pos ⟨h1, h2, h3⟩

/-- The first event that counts. -/
theorem settle_first {s : State} (h : settles s = true) (hs : s.pmu.settle = 0) :
    settle s = s.modPmu fun p => { p with settle := 1 } := by
  rw [settle_counted h, if_pos (by omega)]
  unfold State.modPmu
  dsimp only
  rw [hs]

/-- The second event that counts begins the ring. -/
theorem settle_second {s : State} (h : settles s = true) (hs : s.pmu.settle = 1) :
    settle s = forSides startRing (s.modPmu fun p => { p with settle := 2, phase := .ringScan }) := by
  rw [settle_counted h, if_neg (by omega)]

theorem settle_kept (s : State) : Kept { pmu := true, gbc := true } s (settle s) := kept_settle rfl rfl (.refl _ s)

end Settle

/-! ## The index event (R90, R120, R121, R126 to R129) -/

section IndexEvent

theorem exec_indexEvent (interval : Nat) (forcesL forcesR : List Nat) (s : State) :
    exec (.indexEvent interval forcesL forcesR) s = .next (close s (indexTaken interval forcesL forcesR s)) :=
  exec_next _ s

theorem headInCut_iff {s : State} : headInCut s = false ↔ ∀ side, (s.tcu.head.get side).position ≠ .inCut := by
  unfold headInCut Sides.any
  simp only [Bool.or_eq_false_iff, beq_eq_false_iff_ne]
  exact ⟨fun ⟨hl, hr⟩ side => by cases side <;> assumption, fun h => ⟨h .l, h .r⟩⟩

/-- With no head in the cut an event is counted, and no revolution of the turning (R120, R121). -/
theorem countEvent_uncut (interval : Nat) {s : State} (h : headInCut s = false) :
    countEvent interval s = { s with tcu := { s.tcu with
      interval := interval
      runEvents := min 2 (s.tcu.runEvents + 1)
      stopTimer := if s.tcu.spindle = .rundown then some 2000 else s.tcu.stopTimer } } := by
  unfold countEvent
  rw [h]
  rfl

/-- An index event that finds no head in the cut or before it only settles the ring. -/
theorem indexTaken_calm (interval : Nat) (forcesL forcesR : List Nat) {s : State} (hcut : headInCut s = false)
    (hwait : ∀ side, (s.tcu.head.get side).dest ≠ some .awaitIndex) :
    indexTaken interval forcesL forcesR s = settle (countEvent interval s) := by
  rw [headInCut_iff] at hcut
  unfold indexTaken
  rw [headEvent_stays (s := countEvent interval s) (hcut .l) (hwait .l),
    headEvent_stays (s := countEvent interval s) (hcut .r) (hwait .r)]

theorem countEvent_sameSide (interval : Nat) (side : Side) (s : State) : SameSide side s (countEvent interval s) :=
  ⟨rfl, rfl, rfl⟩

/-- The part after both heads have taken an index event (R127). -/
def cutTaken (interval : Nat) (forces : Sides (List Nat)) (s : State) : State :=
  headEvent forces.r .r (headEvent forces.l .l (countEvent interval s))

theorem indexTaken_eq (interval : Nat) (forces : Sides (List Nat)) (s : State) :
    indexTaken interval forces.l forces.r s = settle (cutTaken interval forces s) := rfl

variable {interval : Nat} {forces : Sides (List Nat)} {s : State}

/-- Of the two heads each takes the event as it stood before it, and the rest of the part keeps what the event counted. -/
theorem cutTaken_spec (h : noneTripped [.m9, .m10] s = true) :
    PassesOnly (countEvent interval s) (cutTaken interval forces s) ∧
    ∀ side, HeadIndexed (forces.get side) (passTravel s) side s (cutTaken interval forces s) := by
  rw [noneTripped_iff] at h
  have hl : ((countEvent interval s).fmu.monitors.get (forceOf .l)).state ≠ .tripped := h .m9 (by simp)
  have honly := headEvent_passesOnly (readings := forces.l) hl
  have hother := headEvent_sameOther (readings := forces.l) hl
  have htravel := headEvent_travel (readings := forces.l) hl
  have hindexed := headEvent_indexed (readings := forces.l) hl
  unfold cutTaken
  generalize headEvent forces.l .l (countEvent interval s) = u at honly hother htravel hindexed ⊢
  have hkept : u.fmu = s.fmu ∧ u.sst = s.sst := by
    obtain ⟨_, _, rfl, -⟩ := honly
    exact ⟨rfl, rfl⟩
  have hr : (u.fmu.monitors.get (forceOf .r)).state ≠ .tripped := by
    rw [hkept.1]
    exact h .m10 (by simp)
  refine ⟨honly.trans (headEvent_passesOnly hr), fun side => ?_⟩
  cases side with
  | l => exact hindexed.congr (countEvent_sameSide interval .l s) rfl (headEvent_sameOther hr)
  | r =>
    have hmine := headEvent_indexed (readings := forces.r) hr
    rw [htravel] at hmine
    exact hmine.congr ((countEvent_sameSide interval .r s).trans hother) hkept.2 (.refl ..)

/-- What an index event in a turning leaves (R120, R121, R126 to R129). -/
theorem indexTaken_turning (h : noneTripped [.m9, .m10] s = true) {t : State}
    (ht : t = indexTaken interval forces.l forces.r s) :
    (∃ head progress, t.tcu = { (countEvent interval s).tcu with head := head, progress := progress }) ∧
    (∀ side, HeadIndexed (forces.get side) (passTravel s) side s t) ∧
    (s.pmu.phase ≠ .ringWait → t.pmu = s.pmu ∧ t.gbc = s.gbc) ∧
    t.tpe = s.tpe ∧ t.blu = s.blu ∧ t.ahs = s.ahs ∧ t.sst = s.sst := by
  obtain ⟨⟨head, progress, honly, -⟩, hindexed⟩ := cutTaken_spec (interval := interval) (forces := forces) h
  have hkept := settle_kept (cutTaken interval forces s)
  rw [indexTaken_eq] at ht
  subst ht
  have htcu := hkept.wholeTcu rfl rfl
  refine ⟨⟨head, progress, by rw [htcu, honly]⟩, fun side => (hindexed side).congr (.refl ..) rfl
    ⟨hkept.tpe rfl, by rw [htcu], passStatuses_congr (by rw [htcu])⟩, fun hphase => ?_, ?_, ?_, ?_, ?_⟩
  · have hstill : settle (cutTaken interval forces s) = cutTaken interval forces s := by
      refine settle_uncounted ?_
      have : (cutTaken interval forces s).pmu = s.pmu := by rw [honly]; rfl
      simp [settles, this, hphase]
    rw [hstill, honly]
    exact ⟨rfl, rfl⟩
  · rw [hkept.tpe rfl, honly]; rfl
  · rw [hkept.wholeBlu rfl rfl, honly]; rfl
  · rw [hkept.wholeAhs rfl rfl, honly]; rfl
  · rw [hkept.sst rfl, honly]; rfl

/-- The revolution counter counts an event at which a head was in the cut, once (R127). -/
theorem countEvent_revolutions (interval : Nat) (s : State) :
    (headInCut s = false → (countEvent interval s).tcu.revolutions = s.tcu.revolutions) ∧
    (headInCut s = true → s.tcu.revolutions < 4294967295 →
      (countEvent interval s).tcu.revolutions = s.tcu.revolutions + 1) := by
  refine ⟨fun h => ?_, fun h hlast => ?_⟩
  · exact if_neg (by simp [h])
  · exact (if_pos h).trans (if_pos hlast)

/-- What an index event does in RING_WAIT with no head in the cut or before it (R90). -/
theorem indexTaken_ring {w : Wheels} (interval : Nat) (forcesL forcesR : List Nat)
    (hw : s.pmu.selected = some w) (hcut : headInCut s = false)
    (hwait : ∀ side, (s.tcu.head.get side).dest ≠ some .awaitIndex) {t : State}
    (ht : t = indexTaken interval forcesL forcesR s) :
    t.tcu.head = s.tcu.head ∧
    (settles s = false → t.pmu = s.pmu ∧ t.gbc = s.gbc) ∧
    (settles s = true → s.pmu.settle = 0 → t.pmu = { s.pmu with settle := 1 } ∧ t.gbc = s.gbc) ∧
    (settles s = true → s.pmu.settle = 1 → t.pmu = { s.pmu with settle := 2, phase := .ringScan } ∧
      (s.gbc.queue = [] → s.gbc.held = .both [] →
        t.gbc = { s.gbc with queue := ([Side.l, .r].filter w.has).flatMap ringTxns })) := by
  rw [indexTaken_calm interval forcesL forcesR hcut hwait] at ht
  subst ht
  have hkept := settle_kept (countEvent interval s)
  refine ⟨(congrArg Tcu.head (hkept.wholeTcu rfl rfl)).trans rfl, fun h => ?_, fun h hs => ?_, fun h hs => ?_⟩
  · rw [settle_uncounted (s := countEvent interval s) h]
    exact ⟨rfl, rfl⟩
  · rw [settle_first (s := countEvent interval s) h hs]
    exact ⟨rfl, rfl⟩
  · rw [settle_second (s := countEvent interval s) h hs]
    have hrings := kept_forSides (keep := { gbc := true }) startRing (fun side _ => kept_startRing side rfl)
      (.refl _ ((countEvent interval s).modPmu fun p => { p with settle := 2, phase := .ringScan }))
    exact ⟨hrings.pmu rfl, fun hq hheld => startRings_gbc (w := w) hw hq hheld⟩

/-- The test of R90 in the words of its heads. -/
theorem settles_eq {w : Wheels} (hphase : s.pmu.phase = .ringWait) (hw : s.pmu.selected = some w) :
    settles s = (atSpeed s && [Side.l, .r].all fun side =>
      !w.has side || ((s.tcu.head.get side).position == .probing && (s.pmu.head.get side).modeOk)) := by
  simp [settles, hphase, headsReady, eachSwept, swept, hw]

/-- Settles O44: the calm event, the event in a turning head by head, and the event in RING_WAIT. -/
theorem indexEventIsTaken : Obligations.IndexEventIsTaken := by
  unfold Obligations.IndexEventIsTaken
  refine ⟨fun interval forcesL forcesR s hcut hphase hwait => ?_, fun interval forces p s hp h => ?_,
    fun interval forcesL forcesR w s hphase hw hcut hwait => ?_⟩
  · have hcalm : settles (countEvent interval s) = false := by simp [settles, countEvent, hphase]
    rw [exec_indexEvent, indexTaken_calm interval forcesL forcesR hcut hwait, settle_uncounted hcalm,
      countEvent_uncut interval hcut]
  · refine ⟨_, exec_indexEvent interval forces.l forces.r s, ?_⟩
    obtain ⟨⟨head, progress, htcu⟩, hindexed, hpmu, htpe, hblu, hahs, hsst⟩ :=
      indexTaken_turning (interval := interval) (forces := forces) h rfl
    obtain ⟨huncut, hincut⟩ := countEvent_revolutions interval s
    generalize indexTaken interval forces.l forces.r s = u at *
    simp only [close_tcu, close_pmu, close_gbc, close_tpe, close_blu, close_ahs, close_sst, passStatus_close]
    rw [passTravel_of hp] at hindexed
    have hrevolutions : u.tcu.revolutions = (countEvent interval s).tcu.revolutions := by rw [htcu]
    refine ⟨by rw [htcu]; rfl, by rw [htcu]; rfl, by rw [htcu]; rfl, fun hc => hrevolutions.trans (huncut hc),
      fun hc hlast => hrevolutions.trans (hincut hc hlast), fun side => ?_, hpmu, by rw [htcu]; rfl, by rw [htcu]; rfl,
      htpe, hblu, hahs, hsst⟩
    obtain ⟨hworn, hdone, hgoes, hbegins, hstays⟩ := hindexed side
    exact ⟨fun z hin hz => ⟨(hworn hin).1, (hworn hin).2, hdone z hin hz, hgoes z hin hz⟩, hbegins, hstays⟩
  · refine ⟨_, exec_indexEvent interval forcesL forcesR s, ?_⟩
    have hring := indexTaken_ring interval forcesL forcesR hw hcut hwait rfl
    simp only [close_tcu, close_pmu, close_gbc]
    rw [settles_eq hphase hw] at hring
    exact hring

end IndexEvent

end Sys2Proof.Machine

end

section
namespace Sys2Proof.Machine

/-! ## The record of a monitor that trips (R50, R51) -/

section Records

/-- The records of the monitors differ in the conditions handed alone. -/
def SameRecords (s t : State) : Prop :=
  ∀ m, ∃ c, t.fmu.monitors.get m = (s.fmu.monitors.get m).handed c

theorem SameRecords.of_fmu {s t : State} (h : t.fmu = s.fmu) : SameRecords s t := fun _ => ⟨_, by rw [h]; rfl⟩

theorem SameRecords.trans {s t u : State} (h : SameRecords s t) (k : SameRecords t u) : SameRecords s u := fun m => by
  obtain ⟨_, ht⟩ := h m
  obtain ⟨c, hu⟩ := k m
  exact ⟨c, by rw [hu, ht]; rfl⟩

theorem sameRecords_forSides {f : Side → State → State} (hf : ∀ side s, SameRecords s (f side s)) (s : State) :
    SameRecords s (forSides f s) := (hf .l s).trans (hf .r _)

theorem sameRecords_handCondition (m : MonitorId) (present : Bool) (s : State) :
    SameRecords s (handCondition m present s) := fun n => by
  unfold handCondition modMonitor
  dsimp only [State.modFmu_fmu]
  by_cases h : n = m
  · exact ⟨present, by rw [h, PerMonitor.get_set_same]; rfl⟩
  · exact ⟨_, by rw [PerMonitor.get_set_ne _ _ _ _ h]; rfl⟩

/-- What changes no record of the Fault Monitor Unit. -/
theorem SameRecords.kept {keep : Blocks} {s t u : State} (k : Kept keep t u) (hfmu : keep.fmu = false)
    (h : SameRecords s t) : SameRecords s u := h.trans (.of_fmu (k.fmu hfmu))

theorem sameRecords_stowHead (side : Side) (s : State) : SameRecords s (stowHead side s) := by
  unfold stowHead
  split
  · exact .of_fmu rfl
  · refine .kept (kept_place (keep := { gbc := true }) _ rfl (.refl _ _)) rfl ?_
    exact SameRecords.trans (t := modHead side _ s) (.of_fmu rfl) (sameRecords_handCondition _ false _)

theorem sameRecords_referenceFailed (reason : Reason) (side : Side) (s : State) :
    SameRecords s (referenceFailed reason side s) := by
  unfold referenceFailed endReference
  dsimp only
  split
  · refine .kept (kept_releaseHead (keep := { tcu := true }) side rfl (.refl _ _)) rfl ?_
    refine SameRecords.trans (t := modPmuHead side _ (abandon (.pmu side) s)) (.of_fmu ?_) (sameRecords_stowHead side _)
    exact (kept_abandon (keep := { gbc := true }) _ rfl (.refl _ s)).fmu rfl
  · exact .of_fmu rfl

/-- What a trip may touch besides the records of the monitors. -/
abbrev tripTouches : Blocks :=
  { bridge := true, lift := true, clamp := true, gbc := true, pmu := true, tpe := true, tcu := true, spindle := true, ahs := true }

theorem sameRecords_overtravelTrip (side : Side) (s : State) : SameRecords s (overtravelTrip side s) := by
  have hhalt := kept_ite (c := (s.tcu.head.get side).position = .moving ∨ (s.tcu.head.get side).position = .probing)
    (kept_modHead (keep := tripTouches) side Head.halt rfl (.refl _ s)) (.refl _ s)
  have hsweep := kept_ite (c := headInSweep side s = true) (kept_sweepFail .overtravel rfl rfl rfl rfl rfl rfl hhalt) hhalt
  unfold overtravelTrip
  refine .kept (keep := tripTouches) (kept_leaveEnding rfl rfl rfl (kept_releaseHead side rfl (.refl _ _))) rfl ?_
  exact SameRecords.trans (.of_fmu (hsweep.fmu rfl)) (sameRecords_referenceFailed .overtravel side _)

/-- The heads stopped where they stand, and the sweeps ended (R15, R57). -/
def worksStopped (reason : Reason) (s : State) : State :=
  forSides (referenceFailed reason) (sweepFail reason (forSides haltActiveHead s))

/-- The turning ended, where it could still be paused (R136). -/
def turningStopped (cause : TurnCause) (s : State) : State := if turningLive s then endAborted cause s else s

/-- The clamps and the spindle stopped, and what has ended left (R44, R120, R130). -/
def worksLeft (clamp : ClampOutcome) (s : State) : State :=
  leaveEnding (forSides releaseHead (finishRun (rundown (forSides (haltClamp clamp) s))))

theorem haltWorks_eq (cause : TurnCause) (reason : Reason) (clamp : ClampOutcome) (s : State) :
    haltWorks cause reason clamp s = worksLeft clamp (turningStopped cause (worksStopped reason s)) := rfl

theorem turningStopped_kept (cause : TurnCause) (s : State) :
    Kept { pmu := true, tpe := true, tcu := true, spindle := true, ahs := true } s (turningStopped cause s) :=
  kept_ite (kept_endAborted cause rfl rfl rfl rfl rfl (.refl _ s)) (.refl _ s)

theorem worksLeft_kept (clamp : ClampOutcome) (s : State) :
    Kept { clamp := true, pmu := true, tpe := true, tcu := true, spindle := true } s (worksLeft clamp s) :=
  kept_leaveEnding rfl rfl rfl (kept_forSides _ (fun side _ => kept_releaseHead side rfl)
    (kept_finishRun rfl rfl (kept_rundown rfl rfl (kept_forSides _ (fun side _ => kept_haltClamp clamp side rfl) (.refl _ s)))))

theorem sameRecords_haltWorks (cause : TurnCause) (reason : Reason) (clamp : ClampOutcome) (s : State) :
    SameRecords s (haltWorks cause reason clamp s) := by
  have hhalt := kept_sweepFail reason rfl rfl rfl rfl rfl rfl
    (kept_forSides (keep := tripTouches) haltActiveHead (fun side _ => kept_haltActiveHead side rfl) (.refl _ s))
  rw [haltWorks_eq]
  refine .kept (worksLeft_kept clamp _) rfl (.kept (turningStopped_kept cause _) rfl ?_)
  exact SameRecords.trans (.of_fmu (hhalt.fmu rfl)) (sameRecords_forSides (sameRecords_referenceFailed reason) _)

theorem kept_liftHalt (outcome : LiftOutcome) (s : State) : Kept tripTouches s (haltLift outcome s) :=
  kept_haltLift outcome rfl rfl rfl rfl rfl rfl rfl rfl (.refl _ s)

theorem sameRecords_presenceTrip (s : State) : SameRecords s (presenceTrip s) := by
  unfold presenceTrip
  exact .kept (kept_liftHalt .presenceLost _) rfl (sameRecords_haltWorks _ _ _ s)

/-- The action of a trip changes no record, but for a condition that it hands (3.4). -/
theorem sameRecords_tripAction (m : MonitorId) (s : State) : SameRecords s (tripAction m s) := by
  have hlift : SameRecords s (liftTrip s) :=
    .of_fmu ((kept_liftTrip (keep := tripTouches) rfl rfl rfl rfl rfl rfl rfl rfl (.refl _ s)).fmu rfl)
  have hclamp : ∀ side, SameRecords s (failClamp side s) := fun side =>
    .of_fmu ((kept_failClamp (keep := tripTouches) side rfl rfl rfl rfl rfl rfl rfl (.refl _ s)).fmu rfl)
  have hforce : ∀ side, SameRecords s (forceTrip side s) := fun side =>
    .of_fmu ((kept_forceTrip (keep := tripTouches) side rfl (.refl _ s)).fmu rfl)
  cases m with
  | m1 => exact hlift
  | m2 => exact hlift
  | m3 => exact hlift
  | m4 => exact hlift
  | m5 => exact hlift
  | m6 => exact hclamp .l
  | m7 => exact hclamp .r
  | m8 => exact .of_fmu ((kept_slipTrip (keep := tripTouches) rfl rfl rfl rfl rfl rfl (.refl _ s)).fmu rfl)
  | m9 => exact hforce .l
  | m10 => exact hforce .r
  | m11 => exact sameRecords_overtravelTrip .l s
  | m12 => exact sameRecords_overtravelTrip .r s
  | m13 => exact sameRecords_presenceTrip s

/-- The state a monitor has after a trip under a mode that takes notice. -/
def stateTripped : MonitorMode → MonitorState
  | .latched => .latched
  | .perStroke => .tripped
  | .warnOnly => .warned
  | .off => .quiet

/-- The record of a monitor that has tripped. -/
def recorded (m : MonitorId) (state : MonitorState) (s : State) : State := modMonitor m (·.tripped state) s

theorem recorded_get (m : MonitorId) (state : MonitorState) (s : State) :
    (recorded m state s).fmu.monitors.get m = (s.fmu.monitors.get m).tripped state := PerMonitor.get_set_same ..

/-- A trip under a mode that takes action (R50). -/
theorem trip_acts {m : MonitorId} {s : State}
    (h : s.sst.active.monitorMode.get m = .latched ∨ s.sst.active.monitorMode.get m = .perStroke) :
    trip m s = tripAction m (recorded m (stateTripped (s.sst.active.monitorMode.get m)) s) := by
  unfold trip
  rcases h with h | h
  · rw [h]
    rfl
  · rw [h]
    rfl

theorem trip_warns {m : MonitorId} {s : State} (h : s.sst.active.monitorMode.get m = .warnOnly) :
    trip m s = recorded m .warned s := by
  unfold trip
  rw [h]
  rfl

/-- The record of a monitor after its trip, the condition apart. -/
theorem trip_record {m : MonitorId} {s : State} (h : s.sst.active.monitorMode.get m ≠ .off) :
    ∃ c, (trip m s).fmu.monitors.get m =
      ((s.fmu.monitors.get m).tripped (stateTripped (s.sst.active.monitorMode.get m))).handed c := by
  by_cases hw : s.sst.active.monitorMode.get m = .warnOnly
  · rw [trip_warns hw, hw]
    exact ⟨_, recorded_get m .warned s⟩
  · have hacts : s.sst.active.monitorMode.get m = .latched ∨ s.sst.active.monitorMode.get m = .perStroke := by
      cases hmode : s.sst.active.monitorMode.get m <;> simp_all
    rw [trip_acts hacts, ← recorded_get]
    exact sameRecords_tripAction m _ m

theorem settleMonitor_count (time : Nat) (seen : Bool) (m : Monitor) : (settleMonitor time seen m).count = m.count := by
  obtain ⟨st, c, cond, tm, rec⟩ := m
  cases st <;> cases seen <;> cases rec <;> rfl

/-- A record that has tripped stays LATCHED or TRIPPED at the end of the step, with no timer (R51). -/
theorem settleMonitor_tripped {state : MonitorState} (h : state = .latched ∨ state = .tripped) (time : Nat) (seen c : Bool)
    (m : Monitor) :
    (settleMonitor time seen ((m.tripped state).handed c)).state = state ∧
    (settleMonitor time seen ((m.tripped state).handed c)).timer = none := by
  rcases h with rfl | rfl <;> cases seen <;> exact ⟨rfl, rfl⟩

/-- A warning stays while the condition is seen (R50). -/
theorem settleMonitor_warned (time : Nat) (c : Bool) (m : Monitor) :
    (settleMonitor time true ((m.tripped .warned).handed c)).state = .warned ∧
    (settleMonitor time true ((m.tripped .warned).handed c)).timer = none := ⟨rfl, rfl⟩

end Records

/-! ## The expiry of a deglitch timer (R50, R51) -/

section Expiry

variable {m : MonitorId} {s : State}

theorem tripDue_iff : tripDue m s = true ↔ (s.fmu.monitors.get m).timer.isSome = true ∧
    ((s.fmu.monitors.get m).state = .deglitch ∨
      ((s.fmu.monitors.get m).state = .latched ∨ (s.fmu.monitors.get m).state = .tripped) ∧
        (s.fmu.monitors.get m).recurrence = .timing) := by
  simp [tripDue]

theorem deglitchExpiry_due (h : tripDue m s = true) : deglitchExpiry m s = trip m s := by
  obtain ⟨htimer, hstate⟩ := tripDue_iff.1 h
  unfold deglitchExpiry
  dsimp only
  rw [htimer]
  refine if_pos ?_
  obtain hstate | ⟨-, hrec⟩ := hstate
  · simp [hstate]
  · simp [hrec]

theorem exec_deglitchExpiry (h : tripDue m s = true) : exec (.deglitchTimerExpiry m) s = .next (close s (trip m s)) := by
  rw [← deglitchExpiry_due h]
  exact exec_next _ s

theorem close_monitor (b s : State) (m : MonitorId) : (close b s).fmu.monitors.get m = reviewed s m := by
  rw [close_fmu]
  exact PerMonitor.get_ofFn ..

/-- A settled monitor whose deglitch timer runs sees its condition (R50, R51). -/
theorem settled_due (hs : settled s = true) (h : tripDue m s = true) : sees s m (ownerCondition s m) = true := by
  obtain ⟨-, hset⟩ := settled_monitor hs m
  obtain ⟨-, hstate⟩ := tripDue_iff.1 h
  by_contra hsees
  rw [Bool.not_eq_true] at hsees
  rw [hsees] at hset
  obtain hdeglitch | ⟨hlatched | htripped, hrec⟩ := hstate
  · have := congrArg Monitor.state hset
    simp [settleMonitor, hdeglitch] at this
  · have := congrArg Monitor.recurrence hset
    simp [settleMonitor, settleMonitor.recur, hlatched, hrec] at this
  · have := congrArg Monitor.recurrence hset
    simp [settleMonitor, settleMonitor.recur, htripped, hrec] at this

/-- A trip that is recorded hands no condition. -/
theorem recorded_sees (m : MonitorId) (state : MonitorState) (s : State) :
    sees (recorded m state s) m (ownerCondition (recorded m state s) m) = sees s m (ownerCondition s m) := by
  cases m <;> rfl

/-- The record at the end of the step (R50, R51). -/
theorem trip_reviewed (hm : s.sst.active.monitorMode.get m ≠ .off) :
    ∃ time c, reviewed (trip m s) m = settleMonitor time (sees (trip m s) m (ownerCondition (trip m s) m))
      (((s.fmu.monitors.get m).tripped (stateTripped (s.sst.active.monitorMode.get m))).handed c) := by
  obtain ⟨c, hc⟩ := trip_record hm
  exact ⟨_, _, by rw [reviewed_eq, hc]; rfl⟩

theorem trip_count (hm : s.sst.active.monitorMode.get m ≠ .off) :
    (reviewed (trip m s) m).count = min 255 ((s.fmu.monitors.get m).count + 1) := by
  obtain ⟨time, c, h⟩ := trip_reviewed hm
  rw [h, settleMonitor_count, min_comm]
  exact saturate_eq ..

/-- A monitor whose mode takes action is LATCHED or TRIPPED, its timer stopped. -/
theorem trip_state (hm : s.sst.active.monitorMode.get m = .latched ∨ s.sst.active.monitorMode.get m = .perStroke) :
    (reviewed (trip m s) m).state = stateTripped (s.sst.active.monitorMode.get m) ∧
    (reviewed (trip m s) m).timer = none := by
  have hon : s.sst.active.monitorMode.get m ≠ .off := by rcases hm with h | h <;> rw [h] <;> simp
  obtain ⟨time, c, h⟩ := trip_reviewed hon
  rw [h]
  refine settleMonitor_tripped ?_ ..
  rcases hm with h | h
  · rw [h]; exact .inl rfl
  · rw [h]; exact .inr rfl

/-- A monitor that only warns is WARNED, its timer stopped, and nothing else is touched (R50). -/
theorem trip_warned (hm : s.sst.active.monitorMode.get m = .warnOnly) (hs : settled s = true) (h : tripDue m s = true) :
    (reviewed (trip m s) m).state = .warned ∧ (reviewed (trip m s) m).timer = none := by
  have hseen : sees (trip m s) m (ownerCondition (trip m s) m) = true := by
    rw [trip_warns hm, recorded_sees]
    exact settled_due hs h
  obtain ⟨time, c, hr⟩ := trip_reviewed (m := m) (s := s) (by rw [hm]; simp)
  rw [hr, hseen, hm]
  exact settleMonitor_warned ..

theorem trip_kept (m : MonitorId) (s : State) : Kept { tripTouches with fmu := true } s (trip m s) :=
  kept_trip m rfl rfl rfl rfl rfl rfl rfl rfl rfl rfl (.refl _ s)

/-- What the expiry of a deglitch timer does to the monitor, under each mode (R50, R51). -/
theorem expiry_trips (h : tripDue m s = true) :
    ∃ t, exec (.deglitchTimerExpiry m) s = .next t ∧
      (s.sst.active.monitorMode.get m ≠ .off →
        (t.fmu.monitors.get m).count = min 255 ((s.fmu.monitors.get m).count + 1)) ∧
      (s.sst.active.monitorMode.get m = .latched →
        (t.fmu.monitors.get m).state = .latched ∧ (t.fmu.monitors.get m).timer = none) ∧
      (s.sst.active.monitorMode.get m = .perStroke →
        (t.fmu.monitors.get m).state = .tripped ∧ (t.fmu.monitors.get m).timer = none) ∧
      (s.sst.active.monitorMode.get m = .warnOnly →
        t.blu = s.blu ∧ t.tcu = s.tcu ∧ t.pmu = s.pmu ∧ t.pil.bridge = s.pil.bridge ∧ t.ahs = s.ahs ∧
        (settled s = true → (t.fmu.monitors.get m).state = .warned ∧ (t.fmu.monitors.get m).timer = none)) ∧
      t.sst = s.sst ∧ t.ahs.slots = s.ahs.slots := by
  refine ⟨_, exec_deglitchExpiry h, ?_⟩
  simp only [close_monitor, close_blu, close_tcu, close_pmu, close_ahs, close_sst, close_pil]
  refine ⟨trip_count, fun hm => ?_, fun hm => ?_, fun hm => ⟨?_, ?_, ?_, ?_, ?_, fun hs => trip_warned hm hs h⟩,
    (trip_kept m s).sst rfl, (trip_kept m s).slots rfl⟩
  · have := trip_state (.inl hm)
    rwa [hm] at this
  · have := trip_state (.inr hm)
    rwa [hm] at this
  all_goals rw [trip_warns hm]; rfl

end Expiry

end Sys2Proof.Machine

end

section
namespace Sys2Proof.Machine

/-! ## Heads that withdraw (R132) -/

section Withdrawn

/-- A head that approaches its pass or cuts. -/
abbrev Working (side : Side) (s : State) : Prop :=
  (s.tcu.head.get side).approaching = true ∨ (s.tcu.head.get side).position = .inCut

/-- A head that approaches its pass or cuts withdraws, its pass then INCOMPLETE; any other stays, and so does its pass. -/
def Withdrawn (side : Side) (s t : State) : Prop :=
  (Working side s → t.tcu.head.get side = (s.tcu.head.get side).moveTo .retracted ∧
    (passStatus side s = some .active → passStatus side t = some .incomplete)) ∧
  (¬ Working side s → SameHead side s t)

theorem working_iff {side : Side} {s : State} :
    ((s.tcu.head.get side).approaching || (s.tcu.head.get side).position == .inCut) = true ↔ Working side s := by
  simp

theorem HeadWithdraws.withdrawn {side : Side} {s t : State} (h : HeadWithdraws side s t)
    (hstays : ¬ Working side s → SameHead side s t) : Withdrawn side s t := by
  refine ⟨fun hw => ?_, hstays⟩
  unfold HeadWithdraws at h
  rwa [if_pos (working_iff.2 hw)] at h

theorem SameHead.trans {side : Side} {s t u : State} (h : SameHead side s t) (k : SameHead side t u) : SameHead side s u :=
  ⟨k.1.trans h.1, k.2.trans h.2⟩

theorem SameHead.working {side : Side} {s t : State} (h : SameHead side s t) : Working side t ↔ Working side s := by
  unfold Working
  rw [h.1]

theorem withdrawHead_idle {side : Side} {s : State} (h : ¬ Working side s) : withdrawHead side s = s :=
  if_neg fun hw => h (working_iff.1 hw)

theorem withdrawHead_withdrawn (side : Side) (s : State) : Withdrawn side s (withdrawHead side s) :=
  (withdrawHead_withdraws side s).withdrawn fun h => by rw [withdrawHead_idle h]; exact ⟨rfl, rfl⟩

theorem Withdrawn.congr {side : Side} {s s' t t' : State} (h : Withdrawn side s t) (hs : SameHead side s' s)
    (ht : SameHead side t t') : Withdrawn side s' t' := by
  obtain ⟨hworks, hrests⟩ := h
  refine ⟨fun hw => ?_, fun hw => (hs.trans (hrests fun hw' => hw (hs.working.1 hw'))).trans ht⟩
  obtain ⟨hhead, hstatus⟩ := hworks (hs.working.2 hw)
  exact ⟨by rw [ht.1, hhead, hs.1], fun ha => ht.2.trans (hstatus (hs.2.trans ha))⟩

/-- A head that has withdrawn works no more, so that a second withdrawal leaves it. -/
theorem Withdrawn.not_working {side : Side} {s t : State} (h : Withdrawn side s t) : ¬ Working side t := by
  by_cases hw : Working side s
  · unfold Working
    rw [(h.1 hw).1]
    simp [Head.approaching, Head.moveTo]
  · rwa [(h.2 hw).working]

theorem Withdrawn.trans {side : Side} {s t u : State} (h : Withdrawn side s t) (k : Withdrawn side t u) :
    Withdrawn side s u := h.congr ⟨rfl, rfl⟩ (k.2 h.not_working)

/-- What O24 says of a head that withdraws. -/
theorem Withdrawn.withdraws {side : Side} {s t : State} (h : Withdrawn side s t) (hw : Working side s) :
    (t.tcu.head.get side).position = .moving ∧ (t.tcu.head.get side).dest = some .retracted ∧
    (passStatus side s = some .active → passStatus side t = some .incomplete) := by
  obtain ⟨hhead, hstatus⟩ := h.1 hw
  rw [hhead]
  exact ⟨rfl, rfl, hstatus⟩

theorem pauseTurning_withdrawn {cause : PauseCause} {s : State} (h : turningLive s = true) (side : Side) :
    Withdrawn side s (pauseTurning cause s) := by
  refine (pauseTurning_withdraws h side).withdrawn fun hrests => ?_
  unfold pauseTurning
  rw [if_pos h]
  generalize hu : (s.modTcu fun t => { t with state := .paused cause }) = u
  have hsame : ∀ side, SameHead side s u := fun side => hu ▸ ⟨rfl, rfl⟩
  cases side with
  | l =>
    refine (hsame .l).trans (SameHead.trans ?_ (withdrawHead_other .r _))
    rw [withdrawHead_idle ((hsame .l).working.not.2 hrests)]
    exact ⟨rfl, rfl⟩
  | r =>
    have hl : SameHead .r u (withdrawHead .l u) := withdrawHead_other .l u
    refine ((hsame .r).trans hl).trans ?_
    show SameHead .r _ (withdrawHead .r (withdrawHead .l u))
    rw [withdrawHead_idle (((hsame .r).trans hl).working.not.2 hrests)]
    exact ⟨rfl, rfl⟩

end Withdrawn

/-! ## A pause that takes the spindle down (R52 to R54) -/

section PausedDown

/-- A turning paused with a cause, the spindle in RUNDOWN, a measuring run ended. -/
def pausedDown (cause : PauseCause) (s : State) : State := finishRun (rundown (pauseTurning cause s))

theorem pausedDown_kept (cause : PauseCause) (s : State) : Kept { tcu := true, spindle := true } s (pausedDown cause s) :=
  kept_finishRun rfl rfl (kept_rundown rfl rfl (kept_pauseTurning cause rfl (.refl _ s)))

theorem pausedDown_not_running (cause : PauseCause) (s : State) : spindleRunning (pausedDown cause s) = false :=
  calm_finishRun (rundown_not_running _)

/-- What a pause does to a turning that can be paused, no sweep in its way. -/
structure TurningPaused (cause : PauseCause) (s t : State) : Prop where
  state : t.tcu.state = .paused cause
  heads : s.pmu.phase = .idle → ∀ side, Withdrawn side s t

theorem pausedDown_pauses (cause : PauseCause) {s : State} (h : turningLive s = true) :
    (pausedDown cause s).tcu.state = .paused cause ∧ ∀ side, Withdrawn side s (pausedDown cause s) := by
  unfold pausedDown
  obtain ⟨hf, hhead⟩ := finishRun_finished (rundown (pauseTurning cause s))
  obtain ⟨hstate, -, hrhead, hprogress⟩ := rundown_rest (pauseTurning cause s)
  have hpaused : (rundown (pauseTurning cause s)).tcu.state = .paused cause := hstate.trans (pauseTurning_live h)
  refine ⟨(hf.state fun left => by rw [hpaused]; simp).trans hpaused, fun side => ?_⟩
  exact (pauseTurning_withdrawn h side).congr ⟨rfl, rfl⟩
    (sameHead_of_tcu (hhead.trans hrhead) (hf.progress.trans hprogress))

theorem spindleUnsupported_eq (cause : PauseCause) (s : State) :
    spindleUnsupported cause s = if spindleRunning s then pausedDown cause s else s := rfl

/-- What a loss of support may touch. -/
abbrev supportTouches : Blocks :=
  { gbc := true, pmu := true, tpe := true, tcu := true, spindle := true, ahs := true }

theorem sweepFail_kept (reason : Reason) (s : State) : Kept supportTouches s (sweepFail reason s) :=
  kept_sweepFail reason rfl rfl rfl rfl rfl rfl (.refl _ s)

/-- A turning is live or not before a measuring run ends as after. -/
theorem RunFinished.live {s t : State} (h : RunFinished s t) : turningLive t = turningLive s := by
  by_cases hrun : ∃ left, s.tcu.state = .measureRun left
  · obtain ⟨left, hleft⟩ := hrun
    unfold turningLive
    rw [hleft]
    obtain ht | ht := h.left left hleft
    · rw [ht]
    · rw [ht]
      cases left <;> rfl
  · exact turningLive_congr (h.state fun left hleft => hrun ⟨left, hleft⟩)

theorem sweepFail_live (reason : Reason) (s : State) : turningLive (sweepFail reason s) = turningLive s := by
  by_cases h : sweepRunning s = true
  · exact (sweepFail_finished h).live
  · rw [sweepFail_idle (by simpa using h)]

theorem sweepFail_phase (reason : Reason) (s : State) : (sweepFail reason s).pmu.phase = .idle := by
  by_contra h
  have hstill := sweepFail_not_running reason s
  rw [sweepRunning_iff.2 h] at hstill
  cases hstill

theorem supportLost_kept (s : State) : Kept supportTouches s (supportLost s) := sweepFail_kept .support s

theorem supportLost_live (s : State) : turningLive (supportLost s) = turningLive s := sweepFail_live .support s

/-- After a loss of support no sweep runs, and one that ran has FAILED(SUPPORT) (R92). -/
theorem supportLost_sweep (s : State) : (supportLost s).pmu.phase = .idle ∧
    (sweepRunning s = true → (supportLost s).pmu.lastSweep = .failed .support) :=
  ⟨sweepFail_phase .support s, fun h => sweepFail_lastSweep h⟩

end PausedDown

/-! ## A trip of M1 to M5 (R52) -/

section LiftTrip

theorem haltBridge_still (outcome : BridgeOutcome) (side : Side) (s : State) :
    ((haltBridge outcome side s).pil.bridge.get side).moving = false ∧
    (haltBridge outcome side s).pil.bridge.get side.other = s.pil.bridge.get side.other := by
  unfold haltBridge
  split
  · refine ⟨?_, Sides.get_other_set ..⟩
    show ((s.pil.bridge.set _ side).get side).moving = false
    rw [Sides.get_set_same]
    rfl
  · next h => exact ⟨by simpa using h, rfl⟩

theorem haltBridges_still (outcome : BridgeOutcome) (s : State) :
    bridgesMoving (forSides (haltBridge outcome) s) = false := by
  have hl : ((forSides (haltBridge outcome) s).pil.bridge.get .l).moving = false :=
    (congrArg Bridge.moving (haltBridge_still outcome .r _).2).trans (haltBridge_still outcome .l s).1
  have hr : ((forSides (haltBridge outcome) s).pil.bridge.get .r).moving = false := (haltBridge_still outcome .r _).1
  simp only [Sides.get] at hl hr
  simp [bridgesMoving, Sides.any, hl, hr]

theorem bridgesMoving_congr {s t : State} (h : t.pil.bridge = s.pil.bridge) : bridgesMoving t = bridgesMoving s := by
  unfold bridgesMoving
  rw [h]

/-- The lift HALTED and the bridges with it, before the support of the spindle and of a sweep is lost (R12, R34). -/
def liftStopped (outcome : LiftOutcome) (s : State) : State :=
  forSides (haltBridge .liftHalted) (s.modBlu fun b =>
    { b with
      lift := .halted
      kind := none
      posts := stopSteps b.posts
      lastLift := if liftMoving s then outcome else b.lastLift })

theorem haltLift_halted {outcome : LiftOutcome} {s : State} (h : s.blu.lift = .halted) : haltLift outcome s = s := if_pos h

theorem haltLift_stops {outcome : LiftOutcome} {s : State} (h : s.blu.lift ≠ .halted) :
    haltLift outcome s = spindleUnsupported .lift (supportLost (liftStopped outcome s)) := if_neg h

theorem liftStopped_kept (outcome : LiftOutcome) (s : State) :
    Kept { bridge := true } (s.modBlu fun b =>
      { b with
        lift := .halted
        kind := none
        posts := stopSteps b.posts
        lastLift := if liftMoving s then outcome else b.lastLift }) (liftStopped outcome s) :=
  kept_forSides _ (fun side _ => kept_haltBridge _ side rfl) (.refl _ _)

theorem liftStopped_tcu (outcome : LiftOutcome) (s : State) : (liftStopped outcome s).tcu = s.tcu :=
  (liftStopped_kept outcome s).wholeTcu rfl rfl

theorem liftStopped_pmu (outcome : LiftOutcome) (s : State) : (liftStopped outcome s).pmu = s.pmu :=
  (liftStopped_kept outcome s).pmu rfl

/-- What the halt of a lift leaves of the lift and of the bridges (R12, R34). -/
theorem haltLift_lift (outcome : LiftOutcome) (s : State) : (haltLift outcome s).blu.lift = .halted ∧
    (haltLift outcome s).blu.clamp = s.blu.clamp ∧
    (s.blu.lift ≠ .halted → bridgesMoving (haltLift outcome s) = false) ∧
    (liftMoving s = true → (haltLift outcome s).blu.lastLift = outcome) := by
  by_cases h : s.blu.lift = .halted
  · rw [haltLift_halted h]
    exact ⟨h, rfl, fun hn => absurd h hn, fun hm => by simp [liftMoving, h] at hm⟩
  · rw [haltLift_stops h]
    have hlost := kept_spindleUnsupported (keep := supportTouches) .lift rfl rfl 
      (supportLost_kept (liftStopped outcome s))
    have hblu := (hlost.wholeBlu rfl rfl).trans ((liftStopped_kept outcome s).wholeBlu rfl rfl)
    rw [hblu, bridgesMoving_congr (hlost.bridge rfl)]
    exact ⟨rfl, rfl, fun _ => haltBridges_still .., fun hm => if_pos hm⟩

/-- What the halt of a lift leaves of a sweep (R92). -/
theorem haltLift_sweep (outcome : LiftOutcome) {s : State} (h : s.blu.lift ≠ .halted) :
    (haltLift outcome s).pmu.phase = .idle ∧
    (sweepRunning s = true → (haltLift outcome s).pmu.lastSweep = .failed .support) := by
  rw [haltLift_stops h, spindleUnsupported_pmu]
  obtain ⟨hphase, hlast⟩ := supportLost_sweep (liftStopped outcome s)
  exact ⟨hphase, fun hs => hlast (by unfold sweepRunning; rw [liftStopped_pmu]; exact hs)⟩

/-- What the halt of a lift leaves of a turning: live as it was, its heads as they were or withdrawn. -/
theorem haltLift_turning (outcome : LiftOutcome) {s : State} (h : turningLive s = true) :
    turningLive (haltLift outcome s) = true ∧
    (s.pmu.phase = .idle → ∀ side, SameHead side s (haltLift outcome s) ∨ Withdrawn side s (haltLift outcome s)) := by
  by_cases hh : s.blu.lift = .halted
  · rw [haltLift_halted hh]
    exact ⟨h, fun _ _ => .inl ⟨rfl, rfl⟩⟩
  · have htcu := liftStopped_tcu outcome s
    rw [haltLift_stops hh, spindleUnsupported_eq]
    have hlive : turningLive (supportLost (liftStopped outcome s)) = true :=
      (supportLost_live _).trans ((turningLive_congr (congrArg Tcu.state htcu)).trans h)
    have hsame : s.pmu.phase = .idle → ∀ side, SameHead side s (supportLost (liftStopped outcome s)) := fun hp side => by
      rw [supportLost_idle (sweepRunning_idle (by rw [liftStopped_pmu]; exact hp))]
      exact sameHead_of_tcu (congrArg Tcu.head htcu) (congrArg Tcu.progress htcu)
    split
    · obtain ⟨hstate, hdrawn⟩ := pausedDown_pauses .lift hlive
      refine ⟨by unfold turningLive; rw [hstate], fun hp side => .inr ((hdrawn side).congr (hsame hp side) ⟨rfl, rfl⟩)⟩
    · exact ⟨hlive, fun hp side => .inl (hsame hp side)⟩

theorem liftTrip_eq (s : State) : liftTrip s = pausedDown .lift (supportLost (haltLift .tripped s)) := rfl

/-- What a trip of M1 to M5 leaves (R52). -/
structure LiftTripped (s t : State) : Prop where
  lift : t.blu.lift = .halted
  spindle : spindleRunning t = false
  bridges : s.blu.lift ≠ .halted → bridgesMoving t = false
  outcome : liftMoving s = true → t.blu.lastLift = .tripped
  turning : turningLive s = true → TurningPaused .lift s t
  sweep : sweepRunning s = true → t.pmu.phase = .idle ∧ t.pmu.lastSweep = .failed .support

theorem liftTrip_trips (s : State) : LiftTripped s (liftTrip s) := by
  rw [liftTrip_eq]
  obtain ⟨hlift, -, hbridges, hmoving⟩ := haltLift_lift .tripped s
  have hlost := supportLost_kept (haltLift .tripped s)
  have hdown := pausedDown_kept .lift (supportLost (haltLift .tripped s))
  have hblu : (pausedDown .lift (supportLost (haltLift .tripped s))).blu = (haltLift .tripped s).blu :=
    (hdown.wholeBlu rfl rfl).trans (hlost.wholeBlu rfl rfl)
  have hpmu := hdown.pmu rfl
  have hpil : (pausedDown .lift (supportLost (haltLift .tripped s))).pil.bridge = (haltLift .tripped s).pil.bridge :=
    (hdown.bridge rfl).trans (hlost.bridge rfl)
  refine ⟨by rw [hblu]; exact hlift, pausedDown_not_running .lift _,
    fun hn => (bridgesMoving_congr hpil).trans (hbridges hn), fun hm => by rw [hblu]; exact hmoving hm, fun hlive => ?_,
    fun hs => ?_⟩
  · obtain ⟨hstill, hheads⟩ := haltLift_turning .tripped hlive
    obtain ⟨hstate, hdrawn⟩ := pausedDown_pauses .lift ((supportLost_live _).trans hstill)
    refine ⟨hstate, fun hp side => ?_⟩
    have hphase : (haltLift .tripped s).pmu.phase = .idle := by
      by_cases hh : s.blu.lift = .halted
      · rw [haltLift_halted hh]
        exact hp
      · exact (haltLift_sweep .tripped hh).1
    have hidle : supportLost (haltLift .tripped s) = haltLift .tripped s := supportLost_idle (sweepRunning_idle hphase)
    have hsecond := hdrawn side
    rw [hidle] at hsecond ⊢
    obtain hsame | hfirst := hheads hp side
    · exact hsecond.congr hsame ⟨rfl, rfl⟩
    · exact hfirst.trans hsecond
  · rw [hpmu]
    by_cases hh : s.blu.lift = .halted
    · rw [haltLift_halted hh]
      exact ⟨(supportLost_sweep s).1, (supportLost_sweep s).2 hs⟩
    · obtain ⟨hphase, hlast⟩ := haltLift_sweep .tripped hh
      rw [supportLost_idle (sweepRunning_idle hphase)]
      exact ⟨hphase, hlast hs⟩

end LiftTrip

/-! ## A trip of M6 or M7 (R53) -/

section ClampTrip

/-- A clamp FAILED, before what it held is lost (R43). -/
def clampFailed (side : Side) (s : State) : State :=
  modClamp side (fun c => { c with state := .failed, moveTimer := none, timeout := false, lastOutcome := .failed }) s

theorem failClamp_fails {side : Side} {s : State} (hh : (s.blu.clamp.get side).state ≠ .halted)
    (hf : (s.blu.clamp.get side).state ≠ .failed) :
    failClamp side s = pausedDown .clamp
      (if (s.blu.clamp.get side).state = .closed then supportLost (clampFailed side s) else clampFailed side s) :=
  if_neg fun h => h.elim hh hf

theorem failClamp_failed {side : Side} {s : State} (hf : (s.blu.clamp.get side).state = .failed) : failClamp side s = s :=
  if_pos (.inr hf)

/-- What a trip of M6 or M7 leaves of a clamp that is not HALTED (R53). -/
structure ClampTripped (side : Side) (s t : State) : Prop where
  state : (t.blu.clamp.get side).state = .failed
  other : t.blu.clamp.get side.other = s.blu.clamp.get side.other
  spindle : (s.blu.clamp.get side).state ≠ .failed → spindleRunning t = false
  turning : (s.blu.clamp.get side).state ≠ .failed → turningLive s = true → TurningPaused .clamp s t
  sweep : (s.blu.clamp.get side).state = .closed → sweepRunning s = true →
    t.pmu.phase = .idle ∧ t.pmu.lastSweep = .failed .support

theorem failClamp_trips {side : Side} {s : State} (hh : (s.blu.clamp.get side).state ≠ .halted) :
    ClampTripped side s (failClamp side s) := by
  by_cases hf : (s.blu.clamp.get side).state = .failed
  · rw [failClamp_failed hf]
    exact ⟨hf, rfl, fun hn => absurd hf hn, fun hn => absurd hf hn, fun hc => by rw [hf] at hc; cases hc⟩
  · rw [failClamp_fails hh hf]
    generalize hu : (if (s.blu.clamp.get side).state = .closed then supportLost (clampFailed side s)
      else clampFailed side s) = u
    have hkept : Kept supportTouches (clampFailed side s) u :=
      hu ▸ kept_ite (supportLost_kept _) (.refl _ _)
    have hlive : turningLive u = turningLive s := by
      rw [← hu]
      split
      · exact supportLost_live _
      · rfl
    have hidle : s.pmu.phase = .idle → u = clampFailed side s := fun hp => by
      rw [← hu, supportLost_idle (sweepRunning_idle (s := clampFailed side s) hp), ite_self]
    have hdown := pausedDown_kept .clamp u
    have hclamp : (pausedDown .clamp u).blu.clamp = (clampFailed side s).blu.clamp :=
      (hdown.clamp rfl).trans (hkept.clamp rfl)
    refine ⟨?_, ?_, fun _ => pausedDown_not_running .clamp u, fun _ hl => ?_, fun hc hs => ?_⟩
    · rw [hclamp]
      show ((s.blu.clamp.set _ side).get side).state = .failed
      rw [Sides.get_set_same]
    · rw [hclamp]
      exact Sides.get_other_set ..
    · obtain ⟨hstate, hdrawn⟩ := pausedDown_pauses .clamp (hlive.trans hl)
      refine ⟨hstate, fun hp side' => (hdrawn side').congr ?_ ⟨rfl, rfl⟩⟩
      rw [hidle hp]
      exact ⟨rfl, rfl⟩
    · rw [hdown.pmu rfl, ← hu, if_pos hc]
      obtain ⟨hphase, hlast⟩ := supportLost_sweep (clampFailed side s)
      exact ⟨hphase, hlast hs⟩

end ClampTrip

/-! ## A trip of M8 (R54) -/

section SlipTrip

/-- A sweep on its measuring run ends FAILED(SLIP). -/
def slipEnds (s : State) : State := if s.tcu.measuring then sweepFail .slip s else s

theorem slipTrip_eq (s : State) : slipTrip s = finishRun (rundown (slipEnds (pauseTurning .slip s))) := rfl

theorem pauseTurning_pmu (cause : PauseCause) (s : State) : (pauseTurning cause s).pmu = s.pmu :=
  (kept_pauseTurning (keep := { tcu := true }) cause rfl (.refl _ s)).pmu rfl

theorem pauseTurning_measuring (cause : PauseCause) (s : State) : (pauseTurning cause s).tcu.measuring = s.tcu.measuring := by
  obtain ⟨_, _, he⟩ := pauseTurning_rest cause s
  rw [he]

/-- What a trip of M8 leaves (R54). -/
structure SlipTripped (s t : State) : Prop where
  spindle : spindleRunning t = false
  turning : turningLive s = true → TurningPaused .slip s t
  sweep : s.tcu.measuring = true → sweepRunning s = true → t.pmu.phase = .idle ∧ t.pmu.lastSweep = .failed .slip

theorem slipTrip_trips (s : State) : SlipTripped s (slipTrip s) := by
  rw [slipTrip_eq]
  have hdown : Kept { tcu := true, spindle := true } (slipEnds (pauseTurning .slip s))
      (finishRun (rundown (slipEnds (pauseTurning .slip s)))) := kept_finishRun rfl rfl (kept_rundown rfl rfl (.refl _ _))
  refine ⟨calm_finishRun (rundown_not_running _), fun hl => ?_, fun hm hs => ?_⟩
  · have hpaused := pauseTurning_live (cause := .slip) hl
    have hends : (slipEnds (pauseTurning .slip s)).tcu.state = .paused .slip := by
      unfold slipEnds
      split
      · exact (sweepFail_state fun left => by rw [hpaused]; simp).trans hpaused
      · exact hpaused
    obtain ⟨hf, hhead⟩ := finishRun_finished (rundown (slipEnds (pauseTurning .slip s)))
    obtain ⟨hstate, -, hrhead, hprogress⟩ := rundown_rest (slipEnds (pauseTurning .slip s))
    have hrun := hstate.trans hends
    refine ⟨(hf.state fun left => by rw [hrun]; simp).trans hrun, fun hp side => ?_⟩
    have hidle : slipEnds (pauseTurning .slip s) = pauseTurning .slip s := by
      unfold slipEnds
      rw [sweepFail_idle (sweepRunning_idle (by rw [pauseTurning_pmu]; exact hp)), ite_self]
    rw [hidle] at hf hhead hrhead hprogress ⊢
    exact (pauseTurning_withdrawn hl side).congr ⟨rfl, rfl⟩
      (sameHead_of_tcu (hhead.trans hrhead) (hf.progress.trans hprogress))
  · have hs' : sweepRunning (pauseTurning .slip s) = true := by unfold sweepRunning; rw [pauseTurning_pmu]; exact hs
    rw [hdown.pmu rfl]
    unfold slipEnds
    rw [if_pos ((pauseTurning_measuring .slip s).trans hm)]
    obtain ⟨hphase, hlast, -, -⟩ := sweepFail_pmu (reason := .slip) hs'
    exact ⟨hphase, hlast⟩

end SlipTrip

/-! ## A trip of M9 or M10 (R55) -/

section ForceTrip

/-- The heads that a trip of M9 or M10 withdraws, by its scope. -/
def forceWithdrawn (side : Side) (s : State) : State :=
  match s.sst.active.scope.get side with
  | .side => withdrawHead side s
  | .pit => withdrawHead side.other (withdrawHead side s)

/-- A turning that is CUTTING is PAUSED(FORCE). -/
def forcePaused (s : State) : State :=
  if s.tcu.state = .cutting then s.modTcu fun t => { t with state := .paused .force } else s

theorem forceTrip_eq (side : Side) (s : State) : forceTrip side s = forcePaused (forceWithdrawn side s) := by
  have hsst : (withdrawHead side s).sst = s.sst :=
    (kept_withdrawHead (keep := { tcu := true }) side rfl (.refl _ s)).sst rfl
  unfold forceTrip forceWithdrawn
  dsimp only
  rw [hsst]
  cases s.sst.active.scope.get side <;> rfl

theorem forcePaused_same (side : Side) (s : State) : SameHead side s (forcePaused s) := by
  unfold forcePaused
  split
  · exact ⟨rfl, rfl⟩
  · exact ⟨rfl, rfl⟩

theorem Side.other_other (side : Side) : side.other.other = side := by cases side <;> rfl

/-- What a trip of M9 or M10 leaves (R55). -/
structure ForceTripped (side : Side) (s t : State) : Prop where
  head : Withdrawn side s t
  spindle : t.tcu.spindle = s.tcu.spindle
  state : t.tcu.state = if s.tcu.state = .cutting then .paused .force else s.tcu.state
  alone : s.sst.active.scope.get side = .side → SameHead side.other s t
  both : s.sst.active.scope.get side = .pit → Withdrawn side.other s t

theorem forceTrip_trips (side : Side) (s : State) : ForceTripped side s (forceTrip side s) := by
  rw [forceTrip_eq]
  have hfirst := withdrawHead_withdrawn side s
  have hother := withdrawHead_other side s
  have hrest : ∃ head progress, (forceWithdrawn side s).tcu = { s.tcu with head := head, progress := progress } := by
    obtain ⟨_, _, h1⟩ := withdrawHead_rest side s
    obtain ⟨_, _, h2⟩ := withdrawHead_rest side.other (withdrawHead side s)
    unfold forceWithdrawn
    split
    · exact ⟨_, _, h1⟩
    · exact ⟨_, _, by rw [h2, h1]⟩
  obtain ⟨head, progress, htcu⟩ := hrest
  refine ⟨?_, ?_, ?_, fun hscope => ?_, fun hscope => ?_⟩
  · refine Withdrawn.congr ?_ ⟨rfl, rfl⟩ (forcePaused_same side _)
    unfold forceWithdrawn
    split
    · exact hfirst
    · have hback := withdrawHead_other side.other (withdrawHead side s)
      rw [Side.other_other] at hback
      exact hfirst.congr ⟨rfl, rfl⟩ hback
  · unfold forcePaused
    split
    · exact (congrArg Tcu.spindle htcu :)
    · rw [htcu]
  · unfold forcePaused
    rw [htcu]
    split
    · rfl
    · rw [htcu]
  · refine SameHead.trans ?_ (forcePaused_same _ _)
    unfold forceWithdrawn
    rw [hscope]
    exact hother
  · refine Withdrawn.congr ?_ ⟨rfl, rfl⟩ (forcePaused_same _ _)
    unfold forceWithdrawn
    rw [hscope]
    exact (withdrawHead_withdrawn side.other _).congr hother ⟨rfl, rfl⟩

theorem ForceTripped.not_inCut {side : Side} {s t : State} (h : ForceTripped side s t) :
    (t.tcu.head.get side).position ≠ .inCut := fun hin => h.head.not_working (.inr hin)

end ForceTrip

end Sys2Proof.Machine

end

section
namespace Sys2Proof.Machine

/-! ## Where the ends of works leave the heads (R15, R56, R57, R93) -/

section Positions

/-- The head of a side stands where it stood. -/
abbrev SamePosition (side : Side) (s t : State) : Prop :=
  (t.tcu.head.get side).position = (s.tcu.head.get side).position

/-- A head that is HALTED stays so, and one that does not travel, cut or probe begins nothing. -/
structure StaysStill (side : Side) (s t : State) : Prop where
  halted : (s.tcu.head.get side).position = .halted → (t.tcu.head.get side).position = .halted
  still : (s.tcu.head.get side).position.active = false → (t.tcu.head.get side).position.active = false

theorem SamePosition.staysStill {side : Side} {s t : State} (h : SamePosition side s t) : StaysStill side s t :=
  ⟨fun hh => h.trans hh, fun ha => (congrArg HeadPosition.active h).trans ha⟩

theorem StaysStill.trans {side : Side} {s t u : State} (h : StaysStill side s t) (k : StaysStill side t u) :
    StaysStill side s u := ⟨fun hh => k.halted (h.halted hh), fun ha => k.still (h.still ha)⟩

theorem SamePosition.of_tcu {side : Side} {s t : State} (h : t.tcu = s.tcu) : SamePosition side s t := by
  unfold SamePosition
  rw [h]

theorem modHead_position_other {side x : Side} (f : Head → Head) (s : State) (h : x ≠ side) :
    SamePosition x s (modHead side f s) :=
  congrArg Head.position (Sides.get_set_ne _ _ h)

theorem modHead_position {f : Head → Head} (hf : ∀ h, (f h).position = h.position) (side x : Side) (s : State) :
    SamePosition x s (modHead side f s) := by
  by_cases h : x = side
  · subst h
    unfold SamePosition
    rw [modHead_get]
    exact hf _
  · exact modHead_position_other f s h

theorem samePosition_forSides {x : Side} {f : Side → State → State} (hf : ∀ side s, SamePosition x s (f side s)) (s : State) :
    SamePosition x s (forSides f s) := (hf .r _).trans (hf .l s)

theorem staysStill_forSides {x : Side} {f : Side → State → State} (hf : ∀ side s, StaysStill x s (f side s)) (s : State) :
    StaysStill x s (forSides f s) := (hf .l s).trans (hf .r _)

theorem releaseHead_position (side x : Side) (s : State) : SamePosition x s (releaseHead side s) := by
  unfold releaseHead
  dsimp only
  split
  · refine modHead_position ?_ side x s
    exact fun _ => rfl
  · rfl

theorem finishRun_position (x : Side) (s : State) : SamePosition x s (finishRun s) := by
  unfold SamePosition
  rw [(finishRun_finished s).2]

theorem rundown_position (x : Side) (s : State) : SamePosition x s (rundown s) := by
  obtain ⟨-, -, hhead, -⟩ := rundown_rest s
  unfold SamePosition
  rw [hhead]

/-- A turning that has left ENDING (R130). -/
def endingLeft (ab : Bool) (s : State) : State :=
  let s := s.modTcu fun t =>
    { t with
      state := if ab then .aborted else .done
      head := t.head.map fun h => { h with owner := .none, passIndex := none } }
  let s := s.modPmu fun p => { p with turnedSince := true }
  if ab then s else s.modTpe fun t => { t with plan := { t.plan with state := .spent } }

/-- A turning that is not ENDING stays, and one that is may stay or leave (R130). -/
theorem leaveEnding_cases (s : State) :
    leaveEnding s = s ∨ ∃ ab, s.tcu.state = .ending ab ∧ leaveEnding s = endingLeft ab s := by
  unfold leaveEnding
  split
  · next ab hs =>
    split
    · exact .inr ⟨ab, hs, rfl⟩
    · exact .inl rfl
  · exact .inl rfl

theorem endingLeft_tcu (ab : Bool) (s : State) : (endingLeft ab s).tcu = { s.tcu with
    state := if ab then .aborted else .done
    head := s.tcu.head.map fun h => { h with owner := .none, passIndex := none } } := by
  cases ab <;> rfl

theorem endingLeft_pmu (ab : Bool) (s : State) : (endingLeft ab s).pmu = { s.pmu with turnedSince := true } := by
  cases ab <;> rfl

theorem leaveEnding_position (x : Side) (s : State) : SamePosition x s (leaveEnding s) := by
  obtain h | ⟨ab, -, h⟩ := leaveEnding_cases s
  · rw [h]
  · unfold SamePosition
    rw [h, endingLeft_tcu, Sides.get_map]

/-- What a turning that leaves ENDING leaves of the measurement unit. -/
theorem leaveEnding_pmu (s : State) : (leaveEnding s).pmu.phase = s.pmu.phase ∧
    (leaveEnding s).pmu.lastSweep = s.pmu.lastSweep ∧ (leaveEnding s).pmu.head = s.pmu.head := by
  obtain h | ⟨ab, -, h⟩ := leaveEnding_cases s
  · rw [h]
    exact ⟨rfl, rfl, rfl⟩
  · rw [h, endingLeft_pmu]
    exact ⟨rfl, rfl, rfl⟩

/-- Of the heads of a sweep that ends only those go home that are not HALTED (R93). -/
theorem parkSwept_position {wheels : Option Wheels} {x : Side} {s : State}
    (h : (s.tcu.head.get x).position = .halted ∨ (∀ w, wheels = some w → w.has x = false)) (side : Side) :
    SamePosition x s (parkSwept wheels side s) := by
  unfold parkSwept
  split
  · rfl
  · next w =>
    split
    · next hc =>
      have hx : x ≠ side := by
        rintro rfl
        obtain hh | hh := h
        · simp [hh] at hc
        · simp [hh w rfl] at hc
      unfold sendProbeHome
      exact Eq.trans (SamePosition.of_tcu (place_tcu ..)) (modHead_position_other _ s hx)
    · rfl

theorem closeSweep_position {outcome : SweepOutcome} {x : Side} {s : State}
    (h : (s.tcu.head.get x).position = .halted ∨ (∀ w, s.pmu.selected = some w → w.has x = false)) :
    SamePosition x s (closeSweep outcome s) := by
  unfold closeSweep
  dsimp only
  refine Eq.trans (samePosition_forSides (fun side u => releaseHead_position side x u) _) ?_
  generalize hu : finishRun (discardPlan .sweep ((forSides abandonSwept s).modPmu fun p =>
    { p with phase := .idle, selected := none, lastSweep := outcome, entrySkipped := false, taken := .both none })) = u
  have hsame : SamePosition x s u := by
    have hswept : (forSides abandonSwept s).tcu = s.tcu :=
      (kept_forSides (keep := { gbc := true }) abandonSwept (fun side _ => kept_abandonSwept side rfl) (.refl _ s)).wholeTcu
        rfl rfl
    rw [← hu]
    exact (finishRun_position x _).trans (SamePosition.of_tcu ((discardPlan_tcu ..).trans hswept))
  split
  · exact hsame
  · have h' : (u.tcu.head.get x).position = .halted ∨ (∀ w, s.pmu.selected = some w → w.has x = false) :=
      h.imp_left hsame.trans
    have hl := parkSwept_position h' .l
    exact ((parkSwept_position (h'.imp_left hl.trans) .r).trans hl).trans hsame

/-- The end of a sweep leaves a head that is HALTED, and one that it does not use. -/
theorem sweepFail_position {reason : Reason} {x : Side} {s : State}
    (h : (s.tcu.head.get x).position = .halted ∨ headInSweep x s = false) : SamePosition x s (sweepFail reason s) := by
  by_cases hr : sweepRunning s = true
  · unfold sweepFail
    rw [if_pos hr]
    have htcu := failRecord_tcu reason s
    have hselected : (forSides (failRecord reason) s).pmu.selected = s.pmu.selected := by
      have hone : ∀ side (u : State), (failRecord reason side u).pmu.selected = u.pmu.selected := fun side u => by
        rw [(failRecord_pmu reason side u).1]
      exact (hone .r _).trans (hone .l s)
    refine (closeSweep_position ?_).trans (SamePosition.of_tcu htcu)
    rw [htcu, hselected]
    refine h.imp_right fun hn w hw => ?_
    simpa [headInSweep, hr, hw] using hn
  · rw [sweepFail_idle (by simpa using hr)]

theorem stowHead_still (side x : Side) (s : State) : StaysStill x s (stowHead side s) := by
  unfold stowHead
  split
  · exact SamePosition.staysStill rfl
  · next hh =>
    refine StaysStill.trans (t := modHead side (fun h => { h with position := .parked, dest := some .stow }) s) ?_
      (SamePosition.staysStill (SamePosition.of_tcu (place_tcu ..)))
    by_cases hx : x = side
    · subst hx
      refine ⟨fun h => absurd h hh, fun _ => ?_⟩
      rw [modHead_get]
      rfl
    · exact (modHead_position_other _ s hx).staysStill

/-- The end of a reference sweep leaves a head that is HALTED, and begins no move (R101). -/
theorem referenceFailed_still (reason : Reason) (side x : Side) (s : State) :
    StaysStill x s (referenceFailed reason side s) := by
  unfold referenceFailed endReference
  dsimp only
  split
  · refine StaysStill.trans ?_ ((stowHead_still side x _).trans (releaseHead_position side x _).staysStill)
    exact SamePosition.staysStill (SamePosition.of_tcu (abandon_tcu ..))
  · exact SamePosition.staysStill rfl

theorem referenceFailed_idle {reason : Reason} {side : Side} {s : State} (h : referenceRunning side s = false) :
    referenceFailed reason side s = s := by
  unfold referenceFailed endReference
  rw [h]
  rfl

theorem referenceFailed_pmu (reason : Reason) (side : Side) (s : State) :
    (referenceFailed reason side s).pmu.phase = s.pmu.phase ∧
    (referenceFailed reason side s).pmu.lastSweep = s.pmu.lastSweep := by
  unfold referenceFailed
  rw [endReference_pmu]
  split
  · exact ⟨rfl, rfl⟩
  · exact ⟨rfl, rfl⟩

/-- A reference sweep that ran is over, FAILED with its reason (R101). -/
theorem referenceFailed_outcome {reason : Reason} {side : Side} {s : State} (h : referenceRunning side s = true) :
    ((referenceFailed reason side s).pmu.head.get side).reference = .idle ∧
    ((referenceFailed reason side s).pmu.head.get side).lastReference = .failed reason := by
  unfold referenceFailed
  rw [endReference_pmu, if_pos h, Sides.get_set_same]
  exact ⟨rfl, rfl⟩

end Positions

/-! ## A trip of M11 or M12 (R56) -/

section OvertravelTrip

/-- A head that travels or probes HALTED. -/
def travelHalted (side : Side) (s : State) : State :=
  if (s.tcu.head.get side).position = .moving ∨ (s.tcu.head.get side).position = .probing then modHead side Head.halt s else s

/-- The sweep that uses the head ended FAILED(OVERTRAVEL), as `claimed` says that one does. -/
def overtravelEnds (claimed : Bool) (s : State) : State := if claimed then sweepFail .overtravel s else s

theorem overtravelTrip_eq (side : Side) (s : State) : overtravelTrip side s =
    leaveEnding (releaseHead side (referenceFailed .overtravel side
      (overtravelEnds (headInSweep side s) (travelHalted side s)))) := rfl

theorem travelHalted_pmu (side : Side) (s : State) : (travelHalted side s).pmu = s.pmu := by
  unfold travelHalted
  split <;> rfl

theorem travelHalted_halts {side : Side} {s : State}
    (h : (s.tcu.head.get side).position = .moving ∨ (s.tcu.head.get side).position = .probing) :
    ((travelHalted side s).tcu.head.get side).position = .halted := by
  unfold travelHalted
  rw [if_pos h, modHead_get]
  rfl

theorem travelHalted_still (side : Side) (s : State) :
    ((travelHalted side s).tcu.head.get side).position ≠ .moving ∧
    ((travelHalted side s).tcu.head.get side).position ≠ .probing := by
  by_cases h : (s.tcu.head.get side).position = .moving ∨ (s.tcu.head.get side).position = .probing
  · rw [travelHalted_halts h]
    exact ⟨by simp, by simp⟩
  · unfold travelHalted
    rw [if_neg h]
    exact not_or.1 h

theorem headInSweep_running {side : Side} {s : State} (h : headInSweep side s = true) : sweepRunning s = true := by
  unfold headInSweep at h
  exact (Bool.and_eq_true _ _ ▸ h).1

/-- What a trip of M11 or M12 leaves (R56). -/
structure OvertravelTripped (side : Side) (s t : State) : Prop where
  still : s.pmu.phase = .idle → anyReference s = false →
    (t.tcu.head.get side).position ≠ .moving ∧ (t.tcu.head.get side).position ≠ .probing
  halted : (s.tcu.head.get side).position = .moving ∨ (s.tcu.head.get side).position = .probing →
    (t.tcu.head.get side).position = .halted
  sweep : headInSweep side s = true → t.pmu.phase = .idle ∧ t.pmu.lastSweep = .failed .overtravel
  others : headInSweep side s = false → t.pmu.phase = s.pmu.phase ∧ t.pmu.lastSweep = s.pmu.lastSweep
  reference : referenceRunning side s = true →
    (t.pmu.head.get side).reference = .idle ∧ (t.pmu.head.get side).lastReference = .failed .overtravel

theorem overtravelTrip_trips (side : Side) (s : State) : OvertravelTripped side s (overtravelTrip side s) := by
  rw [overtravelTrip_eq]
  generalize hu : overtravelEnds (headInSweep side s) (travelHalted side s) = u
  have hfree : headInSweep side s = false → u = travelHalted side s := fun h => by
    rw [← hu, h]
    rfl
  have hend : ∀ v : State, SamePosition side v (leaveEnding (releaseHead side v)) := fun v =>
    (leaveEnding_position side _).trans (releaseHead_position side side v)
  have hpmu : ∀ v : State, (leaveEnding (releaseHead side v)).pmu.phase = v.pmu.phase ∧
      (leaveEnding (releaseHead side v)).pmu.lastSweep = v.pmu.lastSweep ∧
      (leaveEnding (releaseHead side v)).pmu.head = v.pmu.head := fun v => by
    rw [← (kept_releaseHead (keep := { tcu := true }) side rfl (.refl _ v)).pmu rfl]
    exact leaveEnding_pmu _
  have hhead : u.pmu.head = s.pmu.head := by
    rw [← travelHalted_pmu side s, ← hu]
    unfold overtravelEnds
    split
    · exact sweepFail_pmuHead ..
    · rfl
  obtain ⟨hphase, hlast, hheads⟩ := hpmu (referenceFailed .overtravel side u)
  obtain ⟨hrphase, hrlast⟩ := referenceFailed_pmu .overtravel side u
  refine ⟨fun hp href => ?_, fun hmoves => ?_, fun hin => ?_, fun hout => ?_, fun href => ?_⟩
  · have hout : headInSweep side s = false := by simp [headInSweep, sweepRunning_idle hp]
    have hno : referenceRunning side u = false := by
      have hs : referenceRunning side s = false := by
        rw [anyReference, Bool.or_eq_false_iff] at href
        cases side
        · exact href.1
        · exact href.2
      unfold referenceRunning at hs ⊢
      rw [hhead]
      exact hs
    rw [hend, referenceFailed_idle hno, hfree hout]
    exact travelHalted_still side s
  · have hhalted := travelHalted_halts hmoves
    have hstill : (u.tcu.head.get side).position = .halted := by
      rw [← hu]
      unfold overtravelEnds
      split
      · exact (sweepFail_position (.inl hhalted)).trans hhalted
      · exact hhalted
    rw [hend]
    exact (referenceFailed_still .overtravel side side u).halted hstill
  · have hrun : sweepRunning (travelHalted side s) = true := by
      unfold sweepRunning
      rw [travelHalted_pmu]
      exact headInSweep_running hin
    obtain ⟨h1, h2, -, -⟩ := sweepFail_pmu (reason := .overtravel) hrun
    rw [hin] at hu
    rw [hphase, hlast, hrphase, hrlast, ← hu]
    exact ⟨h1, h2⟩
  · rw [hphase, hlast, hrphase, hrlast, hfree hout, travelHalted_pmu]
    exact ⟨rfl, rfl⟩
  · have hrun : referenceRunning side u = true := by
      unfold referenceRunning at href ⊢
      rw [hhead]
      exact href
    rw [hheads]
    exact referenceFailed_outcome hrun

end OvertravelTrip

/-! ## A trip of M13 (R57, R136) -/

section PresenceTrip

theorem haltActiveHead_halts (side : Side) (s : State) :
    ((s.tcu.head.get side).position.active = true → ((haltActiveHead side s).tcu.head.get side).position = .halted) ∧
    ((haltActiveHead side s).tcu.head.get side).position.active = false ∧
    (haltActiveHead side s).tcu.head.get side.other = s.tcu.head.get side.other := by
  unfold haltActiveHead
  split
  · next h =>
    rw [modHead_get]
    exact ⟨fun _ => rfl, rfl, Sides.get_other_set ..⟩
  · next h => exact ⟨fun ha => absurd ha h, by simpa using h, rfl⟩

/-- Both heads that were active are HALTED, and none is active (R15, R57). -/
theorem haltActiveHeads_halt (s : State) (side : Side) :
    ((s.tcu.head.get side).position.active = true →
      ((forSides haltActiveHead s).tcu.head.get side).position = .halted) ∧
    ((forSides haltActiveHead s).tcu.head.get side).position.active = false := by
  obtain ⟨hl, hlstill, hlother⟩ := haltActiveHead_halts .l s
  obtain ⟨hr, hrstill, hrother⟩ := haltActiveHead_halts .r (haltActiveHead .l s)
  cases side with
  | l =>
    show (_ → ((haltActiveHead .r (haltActiveHead .l s)).tcu.head.get .l).position = .halted) ∧
      ((haltActiveHead .r (haltActiveHead .l s)).tcu.head.get .l).position.active = false
    rw [show (haltActiveHead .r (haltActiveHead .l s)).tcu.head.get .l = _ from hrother]
    exact ⟨hl, hlstill⟩
  | r =>
    rw [show s.tcu.head.get .r = (haltActiveHead .l s).tcu.head.get .r from hlother.symm]
    exact ⟨hr, hrstill⟩

theorem haltActiveHeads_kept (s : State) : HeadsOnly s (forSides haltActiveHead s) ∧
    (forSides haltActiveHead s).pmu = s.pmu := by
  refine ⟨headsOnly_forSides (fun side u => ?_) s,
    (kept_forSides (keep := { tcu := true }) _ (fun side _ => kept_haltActiveHead side rfl) (.refl _ s)).pmu rfl⟩
  unfold haltActiveHead
  split <;> rfl

/-- What stopping the heads and ending the sweeps leaves (R57, R92, R101). -/
structure WorksStopped (s t : State) : Prop where
  sweep : t.pmu.phase = .idle
  reference : anyReference t = false
  live : turningLive t = turningLive s
  halted : ∀ side, (s.tcu.head.get side).position.active = true → (t.tcu.head.get side).position = .halted
  still : ∀ side, headInSweep side s = false → (t.tcu.head.get side).position.active = false

theorem worksStopped_stopped (reason : Reason) (s : State) : WorksStopped s (worksStopped reason s) := by
  have hhalts := haltActiveHeads_halt s
  obtain ⟨honly, hpmu⟩ := haltActiveHeads_kept s
  unfold worksStopped
  generalize forSides haltActiveHead s = u at hhalts honly hpmu ⊢
  have hstill : ∀ side, StaysStill side (sweepFail reason u) (forSides (referenceFailed reason) (sweepFail reason u)) :=
    fun side => staysStill_forSides (fun x v => referenceFailed_still reason x side v) _
  have hheads := headsOnly_forSides (headsOnly_referenceFailed reason) (sweepFail reason u)
  refine ⟨?_, referencesFailed .., ?_, fun side hactive => ?_, fun side hout => ?_⟩
  · exact (referencesFailed_sweep reason _).1.trans (sweepFail_phase reason u)
  · exact (turningLive_congr hheads.state).trans ((sweepFail_live reason u).trans (turningLive_congr honly.state))
  · have hh := (hhalts side).1 hactive
    exact (hstill side).halted ((sweepFail_position (.inl hh)).trans hh)
  · have hfree : headInSweep side u = false := by
      unfold headInSweep sweepRunning at hout ⊢
      rw [hpmu]
      exact hout
    exact (hstill side).still ((congrArg HeadPosition.active (sweepFail_position (.inr hfree))).trans (hhalts side).2)

/-- A turning that ends without its heads going home, before its spindle is looked at: its passes broken, its entry
handed, its plan BROKEN (R130, R136). -/
def abortedWith (cause : TurnCause) (s : State) : State :=
  let s := forSides breakPass s
  let s := handEntry (turnedEntry true s) s
  let s := s.modTcu fun t => { t with state := .ending true, lastTurn := .interrupted cause }
  s.modTpe fun t => { t with plan := { t.plan with state := .broken } }

theorem endAborted_halts (s : State) :
    endAborted .presenceLost s = leaveEnding (forSides haltTurningHead (rundown (abortedWith .presenceLost s))) := rfl

theorem breakPasses_tcu (s : State) : ∃ progress, (forSides breakPass s).tcu = { s.tcu with progress := progress } := by
  obtain ⟨_, hl⟩ := breakPass_rest .l s
  obtain ⟨progress, hr⟩ := breakPass_rest .r (breakPass .l s)
  exact ⟨progress, hr.trans (by rw [hl])⟩

theorem abortedWith_tcu (cause : TurnCause) (s : State) : ∃ progress, (abortedWith cause s).tcu =
    { s.tcu with progress := progress, state := .ending true, lastTurn := .interrupted cause } := by
  obtain ⟨progress, hp⟩ := breakPasses_tcu s
  refine ⟨progress, ?_⟩
  unfold abortedWith
  simp only [State.modTpe_tcu, State.modTcu_tcu, handEntry_tcu, hp]

theorem abortedWith_kept (cause : TurnCause) (s : State) :
    Kept { tpe := true, tcu := true, spindle := true, ahs := true } s (abortedWith cause s) := by
  unfold abortedWith
  dsimp only
  refine kept_modTpe _ rfl (kept_modTcu _ rfl rfl (kept_handEntry _ rfl ?_))
  exact kept_forSides _ (fun side _ => kept_breakPass side rfl) (.refl _ s)

theorem headsOnly_haltTurningHead (side : Side) (s : State) : HeadsOnly s (haltTurningHead side s) := by
  unfold haltTurningHead
  split <;> rfl

theorem haltTurningHead_still (side x : Side) (s : State) : StaysStill x s (haltTurningHead side s) := by
  unfold haltTurningHead
  split
  · exact SamePosition.staysStill rfl
  · by_cases hx : x = side
    · subst hx
      refine ⟨fun _ => ?_, fun _ => ?_⟩
      · rw [modHead_get]
        rfl
      · rw [modHead_get]
        rfl
    · exact (modHead_position_other _ s hx).staysStill

/-- A turning that has ended with its presence lost. -/
structure TurningLost (t : State) : Prop where
  state : t.tcu.state = .ending true ∨ t.tcu.state = .aborted
  outcome : t.tcu.lastTurn = .interrupted .presenceLost
  plan : t.tpe.plan.state = .broken

/-- A turning that ends aborted may leave ENDING, and stays lost. -/
theorem TurningLost.leaveEnding {s : State} (h : TurningLost s) : TurningLost (leaveEnding s) := by
  obtain ⟨hstate, houtcome, hplan⟩ := h
  obtain he | ⟨ab, hs, he⟩ := leaveEnding_cases s
  · rw [he]
    exact ⟨hstate, houtcome, hplan⟩
  · have hab : ab = true := by
      obtain h | h := hstate
      · exact TcuState.ending.inj (hs.symm.trans h)
      · rw [hs] at h
        cases h
    subst hab
    rw [he]
    exact ⟨.inr rfl, houtcome, hplan⟩

theorem TurningLost.congr {s t : State} (h : TurningLost s) (hstate : t.tcu.state = s.tcu.state)
    (hlast : t.tcu.lastTurn = s.tcu.lastTurn) (htpe : t.tpe = s.tpe) : TurningLost t :=
  ⟨by rw [hstate]; exact h.state, hlast.trans h.outcome, by rw [htpe]; exact h.plan⟩

theorem TurningLost.not_live {s : State} (h : TurningLost s) : turningLive s = false := by
  unfold turningLive
  obtain h | h := h.state <;> rw [h]

theorem rundown_lastTurn (s : State) : (rundown s).tcu.lastTurn = s.tcu.lastTurn := by
  unfold rundown
  split <;> rfl

theorem finishRun_lastTurn (s : State) : (finishRun s).tcu.lastTurn = s.tcu.lastTurn := by
  unfold finishRun
  split
  · obtain ⟨st, hst, -⟩ := leaveMeasureRun_rest (rundown (s.modTcu fun t => { t with measuring := false }))
    rw [hst]
    exact rundown_lastTurn _
  · rfl

/-- The turning ends where it was live, and the rest stands (R57, R136). -/
theorem turningStopped_stopped (s : State) :
    (turningLive s = true → TurningLost (turningStopped .presenceLost s)) ∧
    turningLive (turningStopped .presenceLost s) = false ∧
    (turningStopped .presenceLost s).pmu.phase = s.pmu.phase ∧
    (turningStopped .presenceLost s).pmu.head = s.pmu.head ∧
    ∀ side, StaysStill side s (turningStopped .presenceLost s) := by
  by_cases hl : turningLive s = true
  · have heq : turningStopped .presenceLost s = endAborted .presenceLost s := if_pos hl
    rw [heq, endAborted_halts]
    obtain ⟨progress, htcu⟩ := abortedWith_tcu .presenceLost s
    have hpmu : (forSides haltTurningHead (rundown (abortedWith .presenceLost s))).pmu = s.pmu :=
      (kept_forSides _ (fun side _ => kept_haltTurningHead side rfl)
        (kept_rundown rfl rfl (abortedWith_kept .presenceLost s))).pmu rfl
    have hheads := headsOnly_forSides headsOnly_haltTurningHead (rundown (abortedWith .presenceLost s))
    have htpe : (forSides haltTurningHead (rundown (abortedWith .presenceLost s))).tpe = (abortedWith .presenceLost s).tpe :=
      (kept_forSides (keep := { tcu := true, spindle := true }) _ (fun side _ => kept_haltTurningHead side rfl)
        (kept_rundown rfl rfl (.refl _ _))).tpe rfl
    have hstill : ∀ side, StaysStill side s (forSides haltTurningHead (rundown (abortedWith .presenceLost s))) := fun side =>
      StaysStill.trans ((SamePosition.staysStill (by rw [SamePosition, rundown_position, htcu])))
        (staysStill_forSides (fun x v => haltTurningHead_still x side v) _)
    have hlost : TurningLost (forSides haltTurningHead (rundown (abortedWith .presenceLost s))) := by
      refine TurningLost.congr (s := abortedWith .presenceLost s) ⟨.inl (by rw [htcu]), by rw [htcu], rfl⟩ ?_ ?_ htpe
      · exact hheads.state.trans (rundown_rest _).1
      · rw [hheads]
        exact rundown_lastTurn _
    obtain ⟨hphase, -, hhead⟩ := leaveEnding_pmu (forSides haltTurningHead (rundown (abortedWith .presenceLost s)))
    rw [hpmu] at hphase hhead
    exact ⟨fun _ => hlost.leaveEnding, hlost.leaveEnding.not_live, hphase, hhead,
      fun side => (hstill side).trans (leaveEnding_position side _).staysStill⟩
  · have heq : turningStopped .presenceLost s = s := if_neg hl
    rw [heq]
    exact ⟨fun h => absurd h hl, by simpa using hl, rfl, rfl, fun _ => SamePosition.staysStill rfl⟩

theorem haltClamp_still (outcome : ClampOutcome) (side : Side) (s : State) :
    ((haltClamp outcome side s).blu.clamp.get side).moving = false ∧
    (haltClamp outcome side s).blu.clamp.get side.other = s.blu.clamp.get side.other := by
  unfold haltClamp
  split
  · refine ⟨?_, Sides.get_other_set ..⟩
    show ((s.blu.clamp.set _ side).get side).moving = false
    rw [Sides.get_set_same]
    rfl
  · next h => exact ⟨by simpa using h, rfl⟩

theorem haltClamps_still (outcome : ClampOutcome) (s : State) : clampsMoving (forSides (haltClamp outcome) s) = false := by
  have hl : ((forSides (haltClamp outcome) s).blu.clamp.get .l).moving = false :=
    (congrArg Clamp.moving (haltClamp_still outcome .r _).2).trans (haltClamp_still outcome .l s).1
  have hr : ((forSides (haltClamp outcome) s).blu.clamp.get .r).moving = false := (haltClamp_still outcome .r _).1
  simp only [Sides.get] at hl hr
  simp [clampsMoving, Sides.any, hl, hr]

theorem clampsMoving_congr {s t : State} (h : t.blu.clamp = s.blu.clamp) : clampsMoving t = clampsMoving s := by
  unfold clampsMoving
  rw [h]

theorem leaveEnding_live {s : State} (h : turningLive s = false) : turningLive (leaveEnding s) = false := by
  obtain he | ⟨ab, -, he⟩ := leaveEnding_cases s
  · rw [he]
    exact h
  · rw [he]
    cases ab <;> rfl

/-- What is left of works that have stopped (R44, R57, R120). -/
structure WorksLeft (s t : State) : Prop where
  clamps : clampsMoving t = false
  spindle : spindleRunning t = false
  phase : t.pmu.phase = s.pmu.phase
  head : t.pmu.head = s.pmu.head
  live : turningLive s = false → turningLive t = false
  lost : TurningLost s → TurningLost t
  position : ∀ side, SamePosition side s t

theorem worksLeft_left (clamp : ClampOutcome) (s : State) : WorksLeft s (worksLeft clamp s) := by
  unfold worksLeft
  generalize hc : forSides (haltClamp clamp) s = c
  have hckept : Kept { clamp := true } s c :=
    hc ▸ kept_forSides _ (fun side _ => kept_haltClamp clamp side rfl) (.refl _ s)
  have hclamps : clampsMoving c = false := hc ▸ haltClamps_still clamp s
  generalize hf : forSides releaseHead (finishRun (rundown c)) = f
  have hfkept : Kept { tcu := true, spindle := true } c f :=
    hf ▸ kept_forSides _ (fun side _ => kept_releaseHead side rfl) (kept_finishRun rfl rfl (kept_rundown rfl rfl (.refl _ c)))
  have hheads : HeadsOnly (finishRun (rundown c)) f := hf ▸ headsOnly_forSides headsOnly_releaseHead _
  have hfinished := (finishRun_finished (rundown c)).1
  have htcu : c.tcu = s.tcu := hckept.wholeTcu rfl rfl
  have hstate := (rundown_rest c).1.trans (congrArg Tcu.state htcu)
  have hpmu : f.pmu = s.pmu := (hfkept.pmu rfl).trans (hckept.pmu rfl)
  have hlive : turningLive f = turningLive s :=
    (turningLive_congr hheads.state).trans (hfinished.live.trans (turningLive_congr hstate))
  have hlost : TurningLost s → TurningLost f := fun h => by
    refine h.congr ?_ ?_ ((hfkept.tpe rfl).trans (hckept.tpe rfl))
    · refine hheads.state.trans ((hfinished.state fun left => ?_).trans hstate)
      rw [hstate]
      obtain h | h := h.state <;> rw [h] <;> simp
    · rw [hheads]
      exact (finishRun_lastTurn _).trans ((rundown_lastTurn c).trans (congrArg Tcu.lastTurn htcu))
  have hposition : ∀ side, SamePosition side s f := fun side => by
    rw [← hf]
    exact (samePosition_forSides (fun x v => releaseHead_position x side v) _).trans
      ((finishRun_position side _).trans ((rundown_position side c).trans (SamePosition.of_tcu htcu)))
  obtain ⟨hphase, -, hhead⟩ := leaveEnding_pmu f
  rw [hpmu] at hphase hhead
  have hclamp : (leaveEnding f).blu.clamp = c.blu.clamp :=
    ((kept_leaveEnding (keep := { pmu := true, tpe := true, tcu := true }) rfl rfl rfl (.refl _ f)).clamp rfl).trans
      (hfkept.clamp rfl)
  refine ⟨(clampsMoving_congr hclamp).trans hclamps, ?_, hphase, hhead, fun h => leaveEnding_live (hlive.trans h),
    fun h => (hlost h).leaveEnding, fun side => (leaveEnding_position side f).trans (hposition side)⟩
  rw [spindleRunning_congr (leaveEnding_spindle f).1, spindleRunning_congr hheads.spindle]
  exact calm_finishRun (rundown_not_running c)

theorem Kept.liftState {m : Blocks} {s t : State} (h : Kept m s t) (hm : m.lift = false) : t.blu.lift = s.blu.lift := by
  rw [← h.lift hm]

/-- A halt of the lift with no sweep and the spindle not running touches the lift and the bridges alone. -/
theorem haltLift_calm (outcome : LiftOutcome) {s : State} (hphase : s.pmu.phase = .idle) (hrun : spindleRunning s = false) :
    Kept { bridge := true, lift := true } s (haltLift outcome s) := by
  by_cases h : s.blu.lift = .halted
  · rw [haltLift_halted h]
    exact .refl _ s
  · have htcu := liftStopped_tcu outcome s
    rw [haltLift_stops h, supportLost_idle (sweepRunning_idle (by rw [liftStopped_pmu]; exact hphase)),
      (spindleUnsupported_spindle .lift _).2 ((spindleRunning_congr (congrArg Tcu.spindle htcu)).trans hrun)]
    refine kept_forSides _ (fun side _ => kept_haltBridge _ side rfl) (kept_modBluRest _ ?_ rfl (.refl _ s))
    exact fun _ => rfl

/-- What a trip of M13 leaves (R57, R136). -/
structure PresenceTripped (s t : State) : Prop where
  lift : t.blu.lift = .halted
  clamps : clampsMoving t = false
  spindle : spindleRunning t = false
  sweep : sweepRunning t = false
  reference : anyReference t = false
  live : turningLive t = false
  bridges : s.blu.lift ≠ .halted → bridgesMoving t = false
  halted : ∀ side, (s.tcu.head.get side).position.active = true → (t.tcu.head.get side).position = .halted
  still : ∀ side, headInSweep side s = false → (t.tcu.head.get side).position.active = false
  turning : turningLive s = true → TurningLost t

theorem presenceTrip_trips (s : State) : PresenceTripped s (presenceTrip s) := by
  have hworks := worksStopped_stopped .support s
  obtain ⟨hlost, hended, hsphase, hshead, hsstill⟩ := turningStopped_stopped (worksStopped .support s)
  have hleft := worksLeft_left .presenceLost (turningStopped .presenceLost (worksStopped .support s))
  have hblu : (haltWorks .presenceLost .support .presenceLost s).blu.lift = s.blu.lift :=
    (kept_haltWorks (keep := { tripTouches with lift := false, bridge := false, fmu := true }) .presenceLost .support
      .presenceLost rfl rfl rfl rfl rfl rfl rfl rfl (.refl _ s)).liftState rfl
  unfold presenceTrip
  rw [haltWorks_eq] at hblu ⊢
  generalize worksLeft .presenceLost (turningStopped .presenceLost (worksStopped .support s)) = w at hleft hblu ⊢
  have hphase : w.pmu.phase = .idle := hleft.phase.trans (hsphase.trans hworks.sweep)
  have hcalm := haltLift_calm .presenceLost hphase hleft.spindle
  have htcu : (haltLift .presenceLost w).tcu = w.tcu := hcalm.wholeTcu rfl rfl
  have hpmu : (haltLift .presenceLost w).pmu = w.pmu := hcalm.pmu rfl
  obtain ⟨hlift, -, hbridges, -⟩ := haltLift_lift .presenceLost w
  refine ⟨hlift, (clampsMoving_congr (hcalm.clamp rfl)).trans hleft.clamps,
    (spindleRunning_congr (congrArg Tcu.spindle htcu)).trans hleft.spindle, ?_, ?_,
    (turningLive_congr (congrArg Tcu.state htcu)).trans (hleft.live hended), fun hn => hbridges (by rw [hblu]; exact hn),
    fun side ha => ?_, fun side hout => ?_, fun hl => ?_⟩
  · exact sweepRunning_idle (by rw [hpmu]; exact hphase)
  · have href := hworks.reference
    unfold anyReference referenceRunning at href ⊢
    rw [hpmu, hleft.head, hshead]
    exact href
  · rw [htcu, hleft.position side]
    exact (hsstill side).halted (hworks.halted side ha)
  · rw [htcu, hleft.position side]
    exact (hsstill side).still (hworks.still side hout)
  · exact (hleft.lost (hlost (hworks.live.trans hl))).congr (congrArg Tcu.state htcu) (congrArg Tcu.lastTurn htcu) (hcalm.tpe rfl)

end PresenceTrip

end Sys2Proof.Machine

end

section
namespace Sys2Proof.Machine

/-! ## The action of a trip (R52 to R57) -/

section MonitorsTrip

theorem tripAction_lift {m : MonitorId} (h : m ∈ [MonitorId.m1, .m2, .m3, .m4, .m5]) : tripAction m = liftTrip := by
  simp only [List.mem_cons, List.not_mem_nil, or_false] at h
  obtain rfl | rfl | rfl | rfl | rfl := h <;> rfl

theorem tripAction_clamp (side : Side) : tripAction (clampMonitor side) = failClamp side := by cases side <;> rfl

theorem tripAction_force (side : Side) : tripAction (forceOf side) = forceTrip side := by cases side <;> rfl

theorem tripAction_overtravel (side : Side) : tripAction (overtravelOf side) = overtravelTrip side := by cases side <;> rfl

/-- What O24 says of a turning that is paused. -/
theorem TurningPaused.pauses {cause : PauseCause} {s t : State} (h : TurningPaused cause s t) :
    t.tcu.state = .paused cause ∧ (s.pmu.phase = .idle → ∀ side, Working side s →
      (t.tcu.head.get side).position = .moving ∧ (t.tcu.head.get side).dest = some .retracted ∧
      (passStatus side s = some .active → passStatus side t = some .incomplete)) :=
  ⟨h.state, fun hp side => (h.heads hp side).withdraws⟩

/-- Settles O24: the record of the monitor that trips, and the action by the monitor, what each leaves said above. The
record and the end of the step change nothing that the action looks at, or that is said of it. -/
theorem monitorsTrip : Obligations.MonitorsTrip := by
  unfold Obligations.MonitorsTrip
  refine ⟨fun m s h => expiry_trips h, fun m s h hm => ⟨_, exec_deglitchExpiry h, ?_⟩⟩
  rw [trip_acts hm, close_eq]
  generalize stateTripped (s.sst.active.monitorMode.get m) = state
  refine ⟨fun hlift => ?_, fun side hclamp hh => ?_, fun hslip => ?_, fun side hforce => ?_, fun side htravel => ?_,
    fun hpresence => ?_⟩
  · rw [tripAction_lift hlift]
    obtain ⟨h1, h2, h3, h4, h5, h6⟩ := liftTrip_trips (recorded m state s)
    exact ⟨h1, h2, h3, h4, fun hl => (h5 hl).pauses, h6⟩
  · rw [hclamp, tripAction_clamp]
    obtain ⟨h1, h2, h3, h4, h5⟩ := failClamp_trips (s := recorded (clampMonitor side) state s) hh
    exact ⟨h1, h2, fun hf => ⟨h3 hf, fun hl => (h4 hf hl).pauses, h5⟩⟩
  · rw [hslip, show tripAction .m8 = slipTrip from rfl]
    obtain ⟨h1, h2, h3⟩ := slipTrip_trips (recorded .m8 state s)
    exact ⟨h1, fun hl => (h2 hl).pauses, h3⟩
  · rw [hforce, tripAction_force]
    have htripped := forceTrip_trips side (recorded (forceOf side) state s)
    have hcut := htripped.not_inCut
    obtain ⟨h1, h2, h3, h4, h5⟩ := htripped
    exact ⟨hcut, h2, h3, h1.withdraws, fun hs => (h4 hs).1, fun hs => (h5 hs).withdraws⟩
  · rw [htravel, tripAction_overtravel]
    obtain ⟨h1, h2, h3, h4, h5⟩ := overtravelTrip_trips side (recorded (overtravelOf side) state s)
    exact ⟨h1, h2, h3, h4, h5⟩
  · rw [hpresence, show tripAction .m13 = presenceTrip from rfl]
    have htripped := presenceTrip_trips (recorded .m13 state s)
    generalize presenceTrip (recorded .m13 state s) = u at htripped ⊢
    obtain ⟨h1, h2, h3, h4, h5, h6, h7, h8, h9, h10⟩ := htripped
    exact ⟨h1, h2, h3, h4, h5, h6, h7, fun side => ⟨h8 side, h9 side⟩,
      fun hl => ⟨(h10 hl).state, (h10 hl).outcome, (h10 hl).plan⟩⟩

end MonitorsTrip

end Sys2Proof.Machine

end

section

namespace Sys2Proof.Machine

/-! ## The queues of the part (R67, R170)

What lets a predicate on states last through the operations of the part, when it speaks of the gauge bus and of the receive
queue alone: each operation is followed once, down to the few that touch these. -/

/-- Every part of the state but the gauge bus and the link. -/
abbrev offQueues : Blocks where
  pil := true
  bridge := true
  lift := true
  clamp := true
  fmu := true
  pmu := true
  tpe := true
  tcu := true
  spindle := true
  ahs := true
  slots := true
  sst := true

/-- A predicate that placing, keeping back and abandoning transactions keep, with whatever leaves the gauge bus alone and
fills the receive queue within its places. -/
structure Steady (P : State → Prop) : Prop where
  kept : ∀ {s t : State}, Kept offQueues s t → P s → P t
  link : ∀ {s : State} (f : Slp → Slp), (f s.slp).queue.length ≤ max s.slp.queue.length Config.receivePlaces →
    P s → P (s.modSlp f)
  place : ∀ {s : State} (t : Txn), P s → P (place t s)
  placeKept : ∀ {s : State} (q : Requester), P s → P (placeKept q s)
  abandon : ∀ {s : State} (q : Requester), P s → P (abandon q s)

theorem Steady.ite {P : State → Prop} (_ : Steady P) {c : Prop} [Decidable c] {t u : State} (ht : P t) (hu : P u) :
    P (if c then t else u) := by
  split
  · exact ht
  · exact hu

theorem Steady.forSides {P : State → Prop} (_ : Steady P) {f : Side → State → State} (hf : ∀ side s, P s → P (f side s))
    {s : State} (hs : P s) : P (forSides f s) := hf _ _ (hf _ _ hs)

section

variable {P : State → Prop} (hP : Steady P) {s : State}

include hP

/-- An operation that leaves the gauge bus and the link alone. -/
theorem Steady.apart {t : State} (k : Kept offQueues s s → Kept offQueues s t) (hs : P s) : P t := hP.kept (k (.refl _ s)) hs

/-! ### Sweeps and reference sweeps -/

theorem Steady.sendProbeHome (side : Side) (hs : P s) : P (sendProbeHome side s) :=
  hP.place _ (hP.apart (kept_modHead _ _ rfl) hs)

theorem Steady.parkSwept (wheels : Option Wheels) (side : Side) (hs : P s) : P (parkSwept wheels side s) := by
  unfold Machine.parkSwept
  split
  · exact hs
  · exact hP.ite (hP.sendProbeHome side hs) hs

theorem Steady.abandonSwept (side : Side) (hs : P s) : P (abandonSwept side s) := by
  unfold Machine.abandonSwept
  exact hP.ite (hP.abandon _ hs) hs

theorem Steady.closeSweep (outcome : SweepOutcome) (hs : P s) : P (closeSweep outcome s) := by
  have hab := hP.forSides (fun side _ => hP.abandonSwept side) hs
  have hrun := hP.apart (fun k => kept_finishRun rfl rfl (kept_discardPlan .sweep rfl rfl (kept_modPmu (fun p => { p with
    phase := .idle, selected := none, lastSweep := outcome, entrySkipped := false, taken := .both none }) rfl k))) hab
  unfold Machine.closeSweep
  dsimp only
  exact hP.forSides (fun _ _ => hP.apart (kept_releaseHead _ rfl))
    (hP.ite hrun (hP.forSides (fun side _ => hP.parkSwept _ side) hrun))

theorem Steady.sweepFail (reason : Reason) (hs : P s) : P (sweepFail reason s) := by
  unfold Machine.sweepFail
  exact hP.ite (hP.closeSweep _ (hP.forSides (fun _ _ => hP.apart (kept_failRecord _ _ rfl)) hs)) hs

theorem Steady.stowHead (side : Side) (hs : P s) : P (stowHead side s) := by
  unfold Machine.stowHead
  exact hP.ite hs (hP.place _ (hP.apart (fun k => kept_handCondition _ _ rfl (kept_modHead _ _ rfl k)) hs))

theorem Steady.endReference (side : Side) (outcome : ReferenceOutcome) (hs : P s) : P (endReference side outcome s) := by
  unfold Machine.endReference
  exact hP.ite (hP.apart (kept_releaseHead _ rfl)
    (hP.stowHead side (hP.apart (kept_modPmuHead _ _ rfl) (hP.abandon _ hs)))) hs

theorem Steady.referenceFailed (reason : Reason) (side : Side) (hs : P s) : P (referenceFailed reason side s) :=
  hP.endReference side _ hs

theorem Steady.headNotice (side : Side) (hs : P s) : P (headNotice side s) :=
  hP.endReference side _ (hP.apart (kept_makeStale _ rfl) hs)

theorem Steady.handNotices (o : Observation) (hs : P s) : P (handNotices o s) :=
  hP.forSides (fun side _ h => hP.ite (hP.headNotice side h) h) hs

theorem Steady.sweepDone (f : Sides (Option ProfileFigures)) (hs : P s) : P (sweepDone f s) := by
  have hv : P (Machine.forSides (setValid f) s) := hP.forSides (fun _ _ => hP.apart (kept_setValid f _ rfl)) hs
  have hc := hP.closeSweep .done hv
  unfold Machine.sweepDone
  dsimp only
  split
  · exact hc
  · exact hP.apart (fun k => kept_handEntry _ rfl (kept_modPmu _ rfl k)) hc

theorem Steady.finishExtraction (hs : P s) : P (finishExtraction s) := by
  unfold Machine.finishExtraction
  split
  · exact hP.sweepFail _ hs
  · split
    · exact hP.sweepFail _ hs
    · exact hP.sweepDone _ hs

theorem Steady.completeReference (side : Side) (reach : Nat) (hs : P s) : P (completeReference side reach s) := by
  unfold Machine.completeReference referenceOutcome
  split
  · exact hP.endReference side _ hs
  · exact hP.ite (hP.endReference side _ (hP.apart (kept_makeStale _ rfl) hs))
      (hP.endReference side _ (hP.apart (fun k => kept_modPmuHead _ _ rfl (kept_modSst _ rfl k)) hs))

/-! ### The lift, the clamps and the bridges -/

theorem Steady.endVisit (hs : P s) : P (endVisit s) :=
  hP.apart (fun k => kept_turningForgotten rfl (kept_endSeating true rfl (kept_discardPlan _ rfl rfl
    (kept_clearProfiles rfl k)))) (hP.abandon _ (hP.apart (kept_modPil _ rfl rfl) hs))

theorem Steady.visitEndIfDue (hs : P s) : P (visitEndIfDue s) := by
  unfold Machine.visitEndIfDue
  exact hP.ite (hP.endVisit hs) hs

theorem Steady.restLift (outcome : LiftOutcome) (hs : P s) : P (restLift outcome s) :=
  hP.visitEndIfDue (hP.apart (fun k => kept_restAt rfl (kept_modBlu _ rfl rfl k)) hs)

theorem Steady.bearingLost (hs : P s) : P (bearingLost s) :=
  hP.apart (kept_spindleUnsupported _ rfl rfl) (hP.sweepFail _ hs)

theorem Steady.haltLift (outcome : LiftOutcome) (hs : P s) : P (haltLift outcome s) := by
  unfold Machine.haltLift
  exact hP.ite hs (hP.apart (kept_spindleUnsupported _ rfl rfl) (hP.sweepFail _
    (hP.apart (fun k => kept_forSides _ (fun _ _ => kept_haltBridge _ _ rfl) (kept_modBlu _ rfl rfl k)) hs)))

theorem Steady.takeZones (zones : Four Zone) (hs : P s) : P (takeZones zones s) := by
  have hz := hP.apart (kept_modBlu (fun b =>
    { b with posts := b.posts.zipWith (fun p z => { p with zone := z }) zones }) rfl rfl) hs
  have hloaded : ∀ {u : State}, P u →
      P (if u.blu.kind = some .load ∧ allBearing u = true then Machine.restLift .loaded u else u) :=
    fun hu => hP.ite (hP.restLift .loaded hu) hu
  unfold Machine.takeZones
  exact hloaded (hP.ite (hP.bearingLost hz) hz)

theorem Steady.takeLoads (loads : Four Nat) (hs : P s) : P (takeLoads loads s) :=
  hP.takeZones _ (hP.apart (kept_modBlu _ rfl rfl) hs)

theorem Steady.retest (hs : P s) : P (retest s) := by
  have hl := hP.apart (kept_modBlu (fun b => { b with lift := if allHome s then .lowered else .holding }) rfl rfl) hs
  unfold Machine.retest
  exact hP.visitEndIfDue (hP.ite (hP.sweepFail _ hl) hl)

theorem Steady.liftPeriod (hs : P s) : P (liftPeriod s) := by
  unfold Machine.liftPeriod
  split
  · exact hs
  · exact hP.retest hs
  · exact hP.retest hs
  · split
    · exact hP.restLift _ hs
    · exact hP.apart (kept_levelling rfl) hs

theorem Steady.failClamp (side : Side) (hs : P s) : P (failClamp side s) := by
  have hc : ∀ f, P (modClamp side f s) := fun f => hP.apart (kept_modClamp side f rfl) hs
  unfold Machine.failClamp
  exact hP.ite hs (hP.apart (fun k => kept_finishRun rfl rfl (kept_rundown rfl rfl (kept_pauseTurning _ rfl k)))
    (hP.ite (hP.sweepFail _ (hc _)) (hc _)))

theorem Steady.beginClamp (aim : ClampEnd) (side : Side) (hs : P s) : P (beginClamp aim side s) := by
  have hc : ∀ f, P (modClamp side f s) := fun f => hP.apart (kept_modClamp side f rfl) hs
  unfold Machine.beginClamp
  exact hP.ite hs (hP.ite (hP.sweepFail _ (hc _)) (hc _))

theorem Steady.bridgeLost (side : Side) (hs : P s) : P (bridgeLost side s) := by
  have hb : ∀ f, P (modBridge side f s) := fun f => hP.apart (kept_modBridge side f rfl) hs
  unfold Machine.bridgeLost
  exact hP.ite (hP.apart (kept_spindleUnsupported _ rfl rfl) (hP.sweepFail _ (hb _))) (hb _)

theorem Steady.beginBridge (aim : BridgeEnd) (side : Side) (hs : P s) : P (beginBridge aim side s) := by
  have hb : ∀ f, P (modBridge side f s) := fun f => hP.apart (kept_modBridge side f rfl) hs
  unfold Machine.beginBridge
  exact hP.ite hs (hP.ite (hP.sweepFail _ (hb _)) (hb _))

/-! ### The monitors and the strokes -/

theorem Steady.liftTrip (hs : P s) : P (liftTrip s) :=
  hP.apart (fun k => kept_finishRun rfl rfl (kept_rundown rfl rfl (kept_pauseTurning _ rfl k)))
    (hP.sweepFail _ (hP.haltLift .tripped hs))

theorem Steady.slipTrip (hs : P s) : P (slipTrip s) := by
  have hp := hP.apart (kept_pauseTurning .slip rfl) hs
  unfold Machine.slipTrip
  exact hP.apart (fun k => kept_finishRun rfl rfl (kept_rundown rfl rfl k)) (hP.ite (hP.sweepFail _ hp) hp)

theorem Steady.overtravelTrip (side : Side) (hs : P s) : P (overtravelTrip side s) := by
  have hswept : ∀ {c : Prop} [Decidable c] {u : State}, P u → P (if c then Machine.sweepFail .overtravel u else u) :=
    fun hu => hP.ite (hP.sweepFail _ hu) hu
  unfold Machine.overtravelTrip
  exact hP.apart (fun k => kept_leaveEnding rfl rfl rfl (kept_releaseHead _ rfl k)) (hP.referenceFailed _ side
    (hswept (hP.ite (hP.apart (kept_modHead side Head.halt rfl) hs) hs)))

theorem Steady.haltWorks (cause : TurnCause) (reason : Reason) (clamp : ClampOutcome) (hs : P s) :
    P (haltWorks cause reason clamp s) := by
  have hw : P (Machine.forSides (Machine.referenceFailed reason)
      (Machine.sweepFail reason (Machine.forSides haltActiveHead s))) :=
    hP.forSides (fun side _ => hP.referenceFailed reason side) (hP.sweepFail reason
      (hP.forSides (fun _ _ => hP.apart (kept_haltActiveHead _ rfl)) hs))
  unfold Machine.haltWorks
  dsimp only
  exact hP.apart (kept_leaveEnding rfl rfl rfl) (hP.forSides (fun _ _ => hP.apart (kept_releaseHead _ rfl))
    (hP.apart (fun k => kept_finishRun rfl rfl (kept_rundown rfl rfl k))
      (hP.forSides (fun _ _ => hP.apart (kept_haltClamp _ _ rfl))
        (hP.ite (hP.apart (kept_endAborted _ rfl rfl rfl rfl rfl) hw) hw))))

theorem Steady.presenceTrip (hs : P s) : P (presenceTrip s) := by
  unfold Machine.presenceTrip
  exact hP.haltLift _ (hP.haltWorks _ _ _ hs)

theorem Steady.tripAction (m : MonitorId) (hs : P s) : P (tripAction m s) := by
  have hforce : ∀ side, P (forceTrip side s) := fun side => hP.apart (kept_forceTrip side rfl) hs
  cases m with
  | m1 => exact hP.liftTrip hs
  | m2 => exact hP.liftTrip hs
  | m3 => exact hP.liftTrip hs
  | m4 => exact hP.liftTrip hs
  | m5 => exact hP.liftTrip hs
  | m6 => exact hP.failClamp .l hs
  | m7 => exact hP.failClamp .r hs
  | m8 => exact hP.slipTrip hs
  | m9 => exact hforce .l
  | m10 => exact hforce .r
  | m11 => exact hP.overtravelTrip .l hs
  | m12 => exact hP.overtravelTrip .r hs
  | m13 => exact hP.presenceTrip hs

theorem Steady.trip (m : MonitorId) (hs : P s) : P (trip m s) := by
  have hm : ∀ f, P (modMonitor m f s) := fun f => hP.apart (kept_modMonitor m f rfl) hs
  unfold Machine.trip
  split
  · exact hP.tripAction m (hm _)
  · exact hP.tripAction m (hm _)
  · exact hm _
  · exact hs

theorem Steady.strokeStart (m : MonitorId) (hs : P s) : P (strokeStart m s) := by
  unfold Machine.strokeStart
  exact hP.ite (hP.ite (hP.trip m (hP.apart (kept_handCondition _ _ rfl) hs))
    (hP.apart (fun k => kept_modMonitor _ _ rfl (kept_handCondition _ _ rfl k)) hs)) hs

theorem Steady.liftStroke (hs : P s) : P (liftStroke s) :=
  hP.strokeStart .m5 (hP.strokeStart .m4 (hP.strokeStart .m3 (hP.strokeStart .m2 (hP.strokeStart .m1 hs))))

theorem Steady.spindleUp (target : Nat) (hs : P s) : P (spindleUp target s) :=
  hP.strokeStart .m8 (hP.apart (fun k => kept_modFmu _ rfl (kept_modTcu _ rfl rfl k)) hs)

theorem Steady.runForMeasure (hs : P s) : P (runForMeasure s) := by
  unfold Machine.runForMeasure
  exact hP.ite (hP.ite (hP.spindleUp _ hs) hs) (hP.sweepFail _ hs)

theorem Steady.requestRun (hs : P s) : P (requestRun s) := by
  unfold Machine.requestRun
  exact hP.ite (hP.runForMeasure (hP.apart (kept_modTcu _ rfl rfl) hs)) (hP.sweepFail _ hs)

/-! ### The seat -/

theorem Steady.seatAs (i : Identity) (hs : P s) : P (seatAs i s) :=
  hP.strokeStart .m13 (hP.apart (fun k => kept_seatRecord _ rfl rfl (kept_modPil _ rfl rfl k)) hs)

theorem Steady.seatValid (i : Identity) (force : Bool) (hs : P s) : P (seatValid i force s).2 := by
  unfold Machine.seatValid
  split
  · exact hs
  · split_ifs
    · exact hs
    · exact hs
    · exact hP.seatAs i hs
  · split_ifs
    · exact hs
    · exact hs
    · exact hs
    · exact hP.apart (kept_replaceIdentity i rfl rfl rfl rfl) hs

theorem Steady.beginTagRead (hs : P s) : P (beginTagRead s) := by
  unfold Machine.beginTagRead
  exact hP.ite (hP.place _ (hP.apart (kept_modPil _ rfl rfl) hs)) hs

/-! ### Moves that a request or a press begins -/

theorem Steady.moveLift (lift : LiftState) (kind : MoveKind) (target : Nat) (hs : P s) : P (moveLift lift kind target s) := by
  have hb := hP.apart (kept_modBlu (fun b => { b with lift := lift, kind := some kind, target := target }) rfl rfl) hs
  unfold Machine.moveLift
  exact hP.ite hb (hP.liftStroke (hP.sweepFail _ hb))

theorem Steady.liftThere (height : Nat) (hs : P s) : P (liftThere height s) := by
  unfold Machine.liftThere
  exact hP.ite (hP.restLift _ hs) (hP.apart (kept_modBlu _ rfl rfl) hs)

theorem Steady.liftTo (height : Nat) (clamped : Bool) (hs : P s) : P (liftTo height clamped s).2 := by
  unfold Machine.liftTo
  split_ifs
  · exact hP.moveLift _ _ _ hs
  · exact hP.moveLift _ _ _ hs
  · exact hP.liftThere _ hs

theorem Steady.lowerHome (hs : P s) : P (lowerHome s).2 := by
  have hb : ∀ f, P (s.modBlu f) := fun f => hP.apart (kept_modBlu f rfl rfl) hs
  unfold Machine.lowerHome
  split
  · exact hb fun b => { b with target := 0 }
  · exact hP.moveLift _ _ _ hs

theorem Steady.clampStroke (before : Sides Clamp) (aim : ClampEnd) (side : Side) (hs : P s) :
    P (clampStroke before aim side s) := by
  unfold Machine.clampStroke
  exact hP.ite hs (hP.strokeStart _ hs)

theorem Steady.moveClamps (aim : ClampEnd) (hs : P s) : P (moveClamps aim s) := by
  unfold Machine.moveClamps
  exact hP.forSides (fun side _ => hP.clampStroke _ aim side) (hP.forSides (fun side _ => hP.beginClamp aim side) hs)

theorem Steady.bridgesTo (by' : Owner) (aim : BridgeEnd) (hs : P s) : P (bridgesTo by' aim s).2 := by
  unfold Machine.bridgesTo
  split_ifs
  · exact hs
  · exact hs
  · exact hs
  · exact hP.forSides (fun side _ => hP.beginBridge aim side) hs
  · exact hs

theorem Steady.clampsClose (by' : Owner) (hs : P s) : P (clampsClose by' s).2 := by
  unfold Machine.clampsClose
  split_ifs
  · exact hs
  · exact hs
  · exact hs
  · exact hP.moveClamps _ hs
  · exact hs

theorem Steady.clampsOpen (by' : Owner) (hs : P s) : P (clampsOpen by' s).2 := by
  unfold Machine.clampsOpen
  split_ifs
  · exact hs
  · exact hs
  · exact hs
  · exact hP.moveClamps _ (hP.ite (hP.restLift _ hs) hs)
  · exact hs

theorem Steady.jog (button : JogButton) (hs : P s) : P (jog button s).2 := by
  unfold Machine.jog
  split
  · exact hs
  · split
    · exact hs
    · cases button
      · exact hP.moveLift _ _ _ hs
      · exact hP.moveLift _ _ _ hs

end

end Sys2Proof.Machine

end

section

namespace Sys2Proof.Machine

/-! ### The requests -/

section

variable {P : State → Prop} (hP : Steady P) {s : State}

include hP

theorem Steady.sweepRequest (wheels : Nat) (hs : P s) : P (sweepRequest wheels s).2 := by
  have hclaim : ∀ w side u, P u → P (claimHead w side u) := fun w side u hu => by
    unfold claimHead
    exact hP.ite (hP.place _ (hP.apart (fun k => kept_modHead _ _ rfl (kept_modPmuHead _ _ rfl k)) hu)) hu
  have hstroke : ∀ w side u, P u → P (claimStroke w side u) := fun w side u hu => by
    unfold claimStroke
    exact hP.ite (hP.strokeStart _ hu) hu
  have hbegin : ∀ w, P (beginSweep w s) := fun w =>
    hP.forSides (hstroke w) (hP.forSides (hclaim w) (hP.apart (kept_modPmu _ rfl) hs))
  unfold Machine.sweepRequest
  split
  · exact hs
  · unfold sweepOf
    split_ifs
    · exact hs
    · exact hs
    · exact hs
    · exact hs
    · exact hs
    · exact hbegin _
    · exact hs

theorem Steady.haltSweepRequest (hs : P s) : P (haltSweepRequest s).2 :=
  hP.forSides (fun side _ => hP.referenceFailed _ side) (hP.sweepFail .halted hs)

theorem Steady.referenceRequest (head : Nat) (hs : P s) : P (referenceRequest head s).2 := by
  have hbegin : ∀ side, P (beginReference side s) := fun side =>
    hP.strokeStart _ (hP.place _ (hP.apart (fun k => kept_modHead _ _ rfl (kept_modPmuHead _ _ rfl k)) hs))
  unfold Machine.referenceRequest
  split
  · exact hs
  · unfold referenceOf
    split_ifs
    · exact hs
    · exact hs
    · exact hs
    · exact hs
    · exact hs
    · exact hbegin _

theorem Steady.seatAxleRequest (axle : AxleId) (w : Nat) (bogie : BogieId) (p : Nat) (force : Bool) (hs : P s) :
    P (seatAxleRequest axle w bogie p force s).2 := by
  unfold Machine.seatAxleRequest
  split
  · exact hP.seatValid _ force hs
  · exact hs

theorem Steady.releaseAxleRequest (hs : P s) : P (releaseAxleRequest s).2 := by
  unfold Machine.releaseAxleRequest
  split_ifs
  · exact hs
  · exact hs
  · exact hP.endVisit hs

theorem Steady.bridgesRequest (direction : Nat) (hs : P s) : P (bridgesRequest direction s).2 := by
  unfold Machine.bridgesRequest
  split
  · exact hs
  · exact hP.bridgesTo .link _ hs

theorem Steady.liftRequest (height : Nat) (hs : P s) : P (liftRequest height s).2 := by
  unfold Machine.liftRequest
  split
  · exact hs
  · exact hP.liftTo _ _ hs

theorem Steady.lowerRequest (height : Nat) (hs : P s) : P (lowerRequest height s).2 := by
  unfold Machine.lowerRequest
  split
  · exact hs
  · split_ifs
    · exact hP.lowerHome hs
    · exact hs
    · exact hP.liftTo _ _ hs

theorem Steady.takeLoadRequest (hs : P s) : P (takeLoadRequest s).2 := by
  unfold Machine.takeLoadRequest
  split
  · exact hs
  · split
    · exact hP.ite (hP.restLift .loaded hs) hs
    · exact hP.moveLift _ _ _ hs

theorem Steady.haltLiftRequest (hs : P s) : P (haltLiftRequest s).2 := by
  unfold Machine.haltLiftRequest
  split
  · exact hs
  · exact hP.ite (hP.restLift .haltRequest hs) hs

theorem Steady.clearFaultRequest (set : BitVec 16) (hs : P s) : P (clearFaultRequest set s).2 := by
  have hl : ∀ {u}, P u → P (leaveHalted u) := fun hu => by
    unfold leaveHalted
    exact hP.ite (hP.visitEndIfDue (hP.apart (kept_restAt rfl) hu)) hu
  unfold Machine.clearFaultRequest
  split_ifs
  · exact hs
  · exact hs
  · exact hl (hP.apart (kept_modFmu _ rfl) hs)

theorem Steady.turnRequest (hs : P s) : P (turnRequest s).2 := by
  have hbegin : P (beginTurning s) := hP.spindleUp _ (hP.apart (fun k => kept_modTcu _ rfl rfl
    (kept_modPmu _ rfl (kept_modTpe _ rfl k))) hs)
  unfold Machine.turnRequest
  split_ifs
  · exact hs
  · exact hs
  · exact hs
  · exact hs
  · exact hbegin
  · exact hs

theorem Steady.resumeRequest (hs : P s) : P (resumeRequest s).2 := by
  have hup := hP.apart (kept_modTcu (fun t => { t with state := .runup }) rfl rfl) hs
  have hresume : P (resumeTurning s) := by
    unfold resumeTurning
    split
    · exact hP.apart (kept_continueCutting rfl rfl rfl rfl rfl) hs
    · exact hup
    · exact hP.spindleUp _ hup
  unfold Machine.resumeRequest
  split_ifs
  · exact hs
  · exact hs
  · exact hs
  · exact hresume
  · exact hs

/-- The owners act on new settings; only the load zones reach the gauge bus. -/
theorem Steady.ownersAct (before : Settings) (hs : P s) : P (ownersAct before s) := by
  have hz : P (thresholdsChanged before s) := by
    unfold thresholdsChanged
    exact hP.ite hs (hP.takeZones _ hs)
  unfold Machine.ownersAct
  exact hP.apart (fun k => kept_feedsChanged _ rfl (kept_forSides _ (fun side _ => kept_offsetChanged _ side rfl)
    (kept_modesChanged _ rfl rfl k))) hz

theorem Steady.restartSilence (hs : P s) : P (restartSilence s) := by
  unfold Machine.restartSilence
  exact hP.link _ (le_max_left _ _) hs

theorem Steady.setSettingRequest (addr : SettingAddr) (value : Int) (hs : P s) : P (setSettingRequest addr value s).2 := by
  have hsilence : ∀ {c : Prop} [Decidable c] {u}, P u → P (if c then Machine.restartSilence u else u) :=
    fun hu => hP.ite (hP.restartSilence hu) hu
  have hinput : ∀ {c : Prop} [Decidable c] {u}, P u → P (if c then planInputChanged u else u) :=
    fun hu => hP.ite (hP.apart (kept_planInputChanged rfl rfl) hu) hu
  have htake : ∀ x v, P (takeSetting x v s) := fun x v => by
    unfold takeSetting
    exact hinput (hsilence (hP.apart (kept_toolsChanged _ rfl) (hP.ownersAct _ (hP.apart (kept_modSst _ rfl) hs))))
  unfold Machine.setSettingRequest
  split
  · exact hs
  · split_ifs
    · exact hs
    · exact hs
    · exact hs
    · exact htake _ _

theorem Steady.replaceSettings (st : Settings) (outcome : SettingsOutcome) (hs : P s) :
    P (replaceSettings st outcome s) := by
  have ho := hP.ownersAct s.sst.active
    (hP.apart (kept_modSst (fun t => { t with active := st, lastOutcome := outcome }) rfl) hs)
  unfold Machine.replaceSettings
  exact hP.apart (kept_planInputChanged rfl rfl) (hP.ite ho (hP.restartSilence ho))

theorem Steady.loadSettingsRequest (hs : P s) : P (loadSettingsRequest s).2 := by
  unfold Machine.loadSettingsRequest
  split
  · exact hs
  · exact hs
  · exact hP.replaceSettings _ _ hs

theorem Steady.defaultSettingsRequest (hs : P s) : P (defaultSettingsRequest s).2 := by
  unfold Machine.defaultSettingsRequest
  split
  · exact hs
  · exact hP.replaceSettings _ _ hs

theorem Steady.resetRequest (hs : P s) : P (resetRequest s).2 := by
  have hq := hP.apart (kept_queueDirty rfl) (hP.link (fun p => { p with resetPending := true }) (le_max_left _ _) hs)
  have ht : P (takeReset s) := by
    unfold takeReset
    exact hP.apart (kept_drainMarks rfl rfl rfl) (hP.ite (hP.apart (kept_handEntry _ rfl) hq) hq)
  unfold Machine.resetRequest
  split
  · exact hs
  · exact ht

/-- Every request keeps it, whoever asks for it. -/
theorem Steady.serve (i : Instr) (hs : P s) : P (serve i s).2 := by
  cases i with
  | seatAxle => exact hP.seatAxleRequest _ _ _ _ _ hs
  | releaseAxle => exact hP.releaseAxleRequest hs
  | bridges => exact hP.bridgesRequest _ hs
  | source => exact hP.apart (kept_sourceRequest _ _ rfl) hs
  | setStamp => exact hP.apart (kept_setStampRequest _ rfl) hs
  | lift => exact hP.liftRequest _ hs
  | lower => exact hP.lowerRequest _ hs
  | takeLoad => exact hP.takeLoadRequest hs
  | haltLift => exact hP.haltLiftRequest hs
  | clampClose => exact hP.clampsClose .link hs
  | clampOpen => exact hP.clampsOpen .link hs
  | clearFault => exact hP.clearFaultRequest _ hs
  | sweep => exact hP.sweepRequest _ hs
  | haltSweep => exact hP.haltSweepRequest hs
  | referenceSweep => exact hP.referenceRequest _ hs
  | readProfile => exact hP.apart (kept_readProfileRequest _) hs
  | plan => exact hP.apart (kept_planRequest rfl) hs
  | turn => exact hP.turnRequest hs
  | pause => exact hP.apart (kept_pauseRequest rfl) hs
  | resume => exact hP.resumeRequest hs
  | abort => exact hP.apart (kept_abortRequest rfl rfl rfl rfl rfl) hs
  | home => exact hP.apart (kept_homeRequest _ rfl) hs
  | indexEdge => exact hP.apart (kept_indexEdgeRequest _ rfl) hs
  | toolChanged => exact hP.apart (kept_toolChangedRequest _ rfl) hs
  | readHistory => exact hP.apart (kept_readHistoryRequest _ _) hs
  | listBogie => exact hP.apart (kept_listBogieRequest _) hs
  | retireAxle => exact hP.apart (kept_retireAxleRequest _ rfl rfl) hs
  | correctHistory => exact hP.apart (kept_correctHistoryRequest _ _ _ rfl) hs
  | commit => exact hP.apart (kept_commitRequest rfl) hs
  | resumeLink => exact hP.link (fun p => { p with silenceHold := false }) (le_max_left _ _) hs
  | reset => exact hP.resetRequest hs
  | setSetting => exact hP.setSettingRequest _ _ hs
  | getSetting => exact hP.apart (kept_getSettingRequest _ _) hs
  | storeSettings => exact hP.apart (kept_storeSettingsRequest _ rfl) hs
  | loadSettings => exact hP.loadSettingsRequest hs
  | defaultSettings => exact hP.defaultSettingsRequest hs
  | _ => exact hs

theorem Steady.answer (kind tag : Byte) {handler : State → Answer} (hh : P (handler s).2) (hs : P s) :
    P (answer kind tag handler s) := by
  unfold Machine.answer
  exact hP.ite (hP.link _ (le_max_left _ _) hh) hs

theorem Steady.press {handler : State → Answer} (hh : P (handler s).2) (hs : P s) : P (press handler s) := by
  unfold Machine.press
  exact hP.ite hs hh

/-! ### The link -/

theorem Steady.dispatchFront (hs : P s) : P (dispatchFront s) := by
  unfold Machine.dispatchFront
  split
  · split
    · exact hs
    · next f rest hq =>
      have hrest := hP.link (fun p => { p with queue := rest }) (by simp [hq]) hs
      refine hP.link _ (le_max_left _ _) ?_
      unfold judge
      split
      · exact hrest
      · exact hP.serve _ hrest
  · exact hs

/-- A good frame takes a place of the receive queue while one is free (R170). -/
theorem Steady.acceptFrame (f : Frame) (hs : P s) : P (acceptFrame f s) := by
  refine hP.restartSilence (hP.link _ ?_ hs)
  dsimp only
  split
  · simp only [List.length_append, List.length_singleton]
    omega
  · exact le_max_left _ _

theorem Steady.byteArrived (value : Byte) (hs : P s) : P (byteArrived value s) := by
  have hh : P (hunt s) := hP.link _ (le_max_left _ _) hs
  have hin : ∀ bytes, P (inFrame bytes s) := fun _ => hP.link _ (le_max_left _ _) hs
  unfold Machine.byteArrived
  split
  · exact hP.ite (hin _) hs
  · unfold frameByte
    refine hP.ite hh (hP.ite (hin _) ?_)
    split
    · exact hP.acceptFrame _ hh
    · exact hh

theorem Steady.discardPartial (hs : P s) : P (discardPartial s) := by
  unfold Machine.discardPartial
  split
  · exact hs
  · exact hP.link _ (le_max_left _ _) hs

theorem Steady.sendReply (hs : P s) : P (sendReply s) := by
  unfold Machine.sendReply
  split
  · exact hs
  · exact hP.link _ (le_max_left _ _) hs

theorem Steady.sendReport (hs : P s) : P (sendReport s) := by
  unfold Machine.sendReport
  exact hP.ite (hP.link _ (le_max_left _ _) hs) hs

theorem Steady.frameEnded (hs : P s) : P (frameEnded s) := by
  have hidle : ∀ last, P (s.modSlp fun p => { p with transmitter := .idle, lastFrame := last }) :=
    fun _ => hP.link _ (le_max_left _ _) hs
  unfold Machine.frameEnded
  split
  · exact hs
  · exact hP.ite (hP.sendReport (hidle _)) (hP.sendReply (hidle _))
  · exact hP.ite (hP.sendReply (hidle _)) (hP.sendReport (hidle _))

theorem Steady.silenceExpiry (hs : P s) : P (silenceExpiry s) := by
  have hflag := hP.link (fun p => { p with silenceTimer := none, silenceFlag := true }) (le_max_left _ _) hs
  have hhold : ∀ {u}, P u → P (holdForSilence u) := fun hu => by
    have hpause : ∀ {c : Prop} [Decidable c] {u}, P u → P (if c then rundown (pauseTurning .silence u) else u) :=
      fun hu => hP.ite (hP.apart (fun k => kept_rundown rfl rfl (kept_pauseTurning _ rfl k)) hu) hu
    have hset := hP.link (fun p => { p with silenceHold := true }) (le_max_left _ _) hu
    unfold holdForSilence
    exact hpause (hP.forSides (fun side _ => hP.referenceFailed _ side)
      (hP.sweepFail _ (hP.ite (hP.restLift .silence hset) hset)))
  unfold Machine.silenceExpiry
  split
  · dsimp only
    split
    · exact hflag
    · exact hhold hflag
  · exact hs

/-! ### The sensors, the scans and the turning -/

theorem Steady.presenceOn (hs : P s) : P (presenceOn s) := by
  have hp := hP.apart (kept_modPil (fun p => { p with presence := true }) rfl rfl) hs
  unfold Machine.presenceOn
  exact hP.ite (hP.beginTagRead (hP.apart (kept_modPil _ rfl rfl) hp)) hp

theorem Steady.presenceOff (hs : P s) : P (presenceOff s) := by
  have hp := hP.apart (kept_modPil (fun p => { p with presence := false }) rfl rfl) hs
  unfold Machine.presenceOff
  exact hP.ite (hP.abandon .pilTag (hP.apart (kept_modPil _ rfl rfl) hp)) (hP.visitEndIfDue hp)

theorem Steady.bridgeSwitchMade (side : Side) (at' : BridgeEnd) (hs : P s) : P (bridgeSwitchMade side at' s) := by
  have hw := hP.apart (kept_setBridgeSwitch side at' true rfl) hs
  unfold Machine.bridgeSwitchMade
  exact hP.ite (hP.visitEndIfDue (hP.apart (kept_modBridge _ _ rfl) hw)) (hP.ite (hP.bridgeLost side hw) hw)

theorem Steady.bridgeSwitchDropped (side : Side) (at' : BridgeEnd) (hs : P s) : P (bridgeSwitchDropped side at' s) := by
  have hw := hP.apart (kept_setBridgeSwitch side at' false rfl) hs
  unfold Machine.bridgeSwitchDropped
  exact hP.ite (hP.bridgeLost side hw) hw

theorem Steady.pitStopAsserted (hs : P s) : P (pitStopAsserted s) := by
  have hlift : ∀ {c : Prop} [Decidable c] {u}, P u → P (if c then Machine.haltLift .pitStop u else u) :=
    fun hu => hP.ite (hP.haltLift _ hu) hu
  have hw := hP.haltWorks .pitStop .pitStop .pitStop
    (hP.apart (kept_modPil (fun p => { p with pitStop := true }) rfl rfl) hs)
  unfold Machine.pitStopAsserted
  exact hP.ite hs (hlift (hP.forSides (fun _ _ => hP.apart (kept_haltBridge _ _ rfl)) hw))

theorem Steady.jogRelease (button : JogButton) (hs : P s) : P (jogRelease button s) := by
  unfold Machine.jogRelease
  exact hP.ite (hP.restLift .jogEnded hs) hs

theorem Steady.controlPeriod (positions loads : Four Nat) (hs : P s) : P (controlPeriod positions loads s) := by
  unfold Machine.controlPeriod
  exact hP.apart (kept_handCondition _ _ rfl) (hP.liftPeriod (hP.takeLoads loads
    (hP.apart (fun k => kept_guardClearance rfl (kept_takePositions _ rfl k)) hs)))

theorem Steady.loadChanged (post : Post) (load : Nat) (positions : Four Nat) (hs : P s) :
    P (loadChanged post load positions s) :=
  hP.takeLoads _ (hP.apart (fun k => kept_guardClearance rfl (kept_takePositions _ rfl k)) hs)

theorem Steady.deglitchExpiry (m : MonitorId) (hs : P s) : P (deglitchExpiry m s) := by
  unfold Machine.deglitchExpiry
  exact hP.ite (hP.trip m hs) hs

theorem Steady.profileScanBegin (hs : P s) : P (profileScanBegin s) := by
  have hstart : ∀ side u, P u → P (startScan side u) := fun side u hu => by
    unfold startScan
    exact hP.ite (hP.place _ (hP.place _ hu)) hu
  unfold Machine.profileScanBegin
  exact hP.ite (hP.forSides hstart (hP.apart (kept_modPmu _ rfl) hs)) hs

theorem Steady.settle (hs : P s) : P (settle s) := by
  have hstart : ∀ side u, P u → P (startRing side u) := fun side u hu => by
    unfold startRing
    exact hP.ite (hP.place _ (hP.place _ hu)) hu
  unfold Machine.settle
  exact hP.ite (hP.ite (hP.apart (kept_modPmu _ rfl) hs) (hP.forSides hstart (hP.apart (kept_modPmu _ rfl) hs))) hs

theorem Steady.extractionDone (hs : P s) : P (extractionDone s) := by
  unfold Machine.extractionDone
  exact hP.ite (hP.finishExtraction hs) hs

theorem Steady.indexTaken (interval : Nat) (forcesL forcesR : List Nat) (hs : P s) :
    P (indexTaken interval forcesL forcesR s) := by
  have hhead : ∀ readings side u, P u → P (headEvent readings side u) := fun readings side u hu => by
    unfold headEvent
    exact hP.ite (hP.apart (kept_cutEvent _ _ rfl) hu) (hP.ite (hP.strokeStart _ (hP.apart (kept_modHead _ _ rfl) hu)) hu)
  exact hP.settle (hhead _ _ _ (hhead _ _ _ (hP.apart (kept_countEvent _ rfl) hs)))

theorem Steady.stopExpiry (hs : P s) : P (stopExpiry s) := by
  have hstop := hP.apart (kept_modTcu (fun t => { t with spindle := .stopped, stopTimer := none }) rfl rfl) hs
  unfold Machine.stopExpiry
  exact hP.ite (hP.apart (fun k => kept_leaveEnding rfl rfl rfl (kept_leaveMeasureRun rfl k))
    (hP.ite (hP.runForMeasure hstop) hstop)) hs

/-! ### The results of transactions -/

theorem Steady.tagResult (result : TxnResult) (data : List Byte) (hs : P s) : P (tagResult result data s) := by
  have hfailed : P (tagAttemptFailed s) := by
    unfold tagAttemptFailed
    exact hP.ite (hP.place _ (hP.apart (kept_modPil _ rfl rfl) hs)) (hP.apart (kept_modPil _ rfl rfl) hs)
  unfold Machine.tagResult
  split
  · split
    · exact hP.seatAs _ (hP.apart (kept_modPil _ rfl rfl) hs)
    · exact hfailed
  · exact hs

theorem Steady.scanEnd (hs : P s) : P (scanEnd s) := by
  have hline : ∀ side u, P u → P (toTapingLine side u) := fun side u hu => by
    unfold toTapingLine
    exact hP.ite (hP.place _ (hP.apart (fun k => kept_modHead _ _ rfl (kept_modPmuHead _ _ rfl k)) hu)) hu
  have hring : P (enterRingWait s) := hP.requestRun (hP.forSides hline (hP.apart (kept_modPmu _ rfl) hs))
  have hhome : ∀ side u, P u → P (sweptHome side u) := fun side u hu => by
    unfold sweptHome
    exact hP.ite (hP.sendProbeHome side hu) hu
  have hcomputing : P (enterComputing s) := by
    unfold enterComputing
    exact hP.forSides (fun _ _ => hP.apart (kept_takeRim _ rfl)) (hP.forSides hhome
      (hP.apart (fun k => kept_finishRun rfl rfl (kept_modPmu _ rfl k)) hs))
  unfold Machine.scanEnd
  split
  · split
    · split
      · exact hP.sweepFail _ hs
      · exact hring
    · split
      · exact hP.sweepFail _ hs
      · exact hcomputing
    · exact hs
  · exact hs

theorem Steady.workFailed (w : Work) (reason : Reason) (side : Side) (hs : P s) : P (workFailed w reason side s) := by
  cases w
  · exact hP.sweepFail reason hs
  · exact hP.referenceFailed reason side hs

theorem Steady.listComplete (w : Work) (reach : Nat) (side : Side) (hs : P s) : P (listComplete w reach side s) := by
  cases w
  · exact hP.scanEnd (hP.apart (kept_modPmuHead _ _ rfl) hs)
  · exact hP.completeReference side reach hs

theorem Steady.stateRead (w : Work) (side : Side) (available flags : Byte) (hs : P s) :
    P (stateRead w side available flags s) := by
  have hread := hP.apart (fun k => kept_handCondition (overtravelOf side) (decide (flags.toNat % 4 = 3)) rfl
    (kept_modPmuHead side (fun h => { h with lastReach := some (flags.toNat % 4) }) rfl k)) hs
  unfold Machine.stateRead
  exact hP.ite (hP.workFailed w _ side hread) (hP.ite (hP.place _ hread)
    (hP.ite (hP.listComplete w _ side hread) (hP.place _ hread)))

theorem Steady.pmuResult (side : Side) (purpose : Purpose) (result : TxnResult) (data : List Byte) (hs : P s) :
    P (pmuResult side purpose result data s) := by
  have hmode : ∀ w, P (modeDone w side s) := fun w => by
    cases w
    · exact hP.apart (kept_modPmuHead side (fun h => { h with modeOk := true }) rfl) hs
    · exact hP.place _ (hP.place _ hs)
  have hblock : ∀ w, P (blockRead w side data s) := fun w => by
    have hread := hP.apart (kept_modPmuHead side
      (appendSamples (takesProfile w s) (samplesOf (!takesProfile w s) data)) rfl) hs
    unfold blockRead
    exact hP.ite (hP.workFailed w _ side hread) (hP.place _ hread)
  unfold Machine.pmuResult
  split
  · exact hmode _
  · exact hP.workFailed _ _ side hs
  · exact hs
  · exact hP.workFailed _ _ side hs
  · exact hP.stateRead _ side _ _ hs
  · exact hP.workFailed _ _ side hs
  · exact hblock _
  · exact hP.workFailed _ _ side hs
  · exact hs

theorem Steady.handResult (t : Txn) (result : TxnResult) (data : List Byte) (hs : P s) :
    P (handResult t result data s) := by
  unfold Machine.handResult
  refine hP.placeKept _ ?_
  split
  · exact hP.ite (hP.tagResult result data hs) hs
  · exact hP.pmuResult _ _ result data hs

end

end Sys2Proof.Machine

end

section

namespace Sys2Proof.Machine

/-! ### The gauge bus and the resets -/

/-- A steady predicate that also lasts where the gauge bus changes without a requester's gaining a transaction, in the queue
or kept back, and holds where nothing is queued at all. -/
structure Lasting (P : State → Prop) : Prop extends Steady P where
  bus : ∀ {s : State} (f : Gbc → Gbc), ((f s.gbc).queue.map Txn.requester).Sublist (s.gbc.queue.map Txn.requester) →
    (f s.gbc).held = s.gbc.held → P s → P (s.modGbc f)
  pending : ∀ {s : State} (q : List Instr), P s → P (s.withPending q)
  empty : ∀ {s : State}, s.gbc.queue = [] → s.gbc.held = .both [] → s.slp.queue = [] → P s

section

variable {P : State → Prop} (hP : Lasting P) {s : State}

include hP

/-- A change of the gauge bus that leaves its queue. -/
theorem Lasting.line (f : Gbc → Gbc) (hf : (f s.gbc).queue = s.gbc.queue) (hk : (f s.gbc).held = s.gbc.held) (hs : P s) :
    P (s.modGbc f) := hP.bus f (by rw [hf]) hk hs

theorem Lasting.beginOldest (hs : P s) : P (beginOldest s) := by
  unfold Machine.beginOldest
  exact hP.ite (hP.line _ rfl rfl hs) hs

theorem Lasting.observe (o : Observation) (hs : P s) : P (observe o s) := hP.line _ rfl rfl hs

theorem Lasting.dropFront (hs : P s) : P (dropFront s) := by
  refine hP.bus _ ?_ rfl hs
  rw [List.map_drop]
  exact List.drop_sublist _ _

theorem Lasting.endTransaction (result : TxnResult) (data : List Byte) (hs : P s) :
    P (endTransaction result data s) := by
  unfold Machine.endTransaction
  split
  · exact hs
  · exact hP.beginOldest (hP.handResult _ result data (hP.line _ rfl rfl (hP.dropFront hs)))

theorem Lasting.busByte (value : Byte) (ack : Bool) (hs : P s) : P (busByte value ack s) := by
  unfold Machine.busByte
  split
  · split
    · exact hP.ite hs (hP.line _ rfl rfl hs)
    · exact hs
  · exact hP.line _ rfl rfl hs
  · exact hs

theorem Lasting.transactionEnd (hs : P s) : P (transactionEnd s) := by
  unfold Machine.transactionEnd
  split
  · exact hs
  · split
    · split
      · exact hP.endTransaction _ _ hs
      · exact hs
    · exact hP.endTransaction _ _ (hP.line _ rfl rfl hs)
    · exact hs

theorem Lasting.clockHold (hs : P s) : P (clockHold s) := by
  unfold Machine.clockHold
  exact hP.ite (hP.line _ rfl rfl hs) hs

theorem Lasting.clockRelease (hs : P s) : P (clockRelease s) := by
  have hr : ∀ {c : Prop} [Decidable c], P (if c then sendRecovery recoveryPulses s else s) :=
    hP.ite (hP.line _ rfl rfl hs) hs
  unfold Machine.clockRelease
  dsimp only
  exact hP.line _ rfl rfl hr

theorem Lasting.waitExpiry (hs : P s) : P (waitExpiry s) := by
  unfold Machine.waitExpiry
  exact hP.ite (hP.line _ rfl rfl hs) hs

/-- A retry is another try of the same requester's. -/
theorem Lasting.retryFront (hs : P s) : P (retryFront s) := by
  unfold Machine.retryFront
  split
  · exact hs
  · next t rest hq => exact hP.ite (hP.bus _ (by simp [hq]) rfl hs) (hP.handResult _ _ _ (hP.dropFront hs))

theorem Lasting.arbitrationLoss (hs : P s) : P (arbitrationLoss s) := by
  unfold Machine.arbitrationLoss
  split
  · split
    · exact hP.retryFront (hP.observe _ (hP.line _ rfl rfl hs))
    · exact hs
  · exact hs

theorem Lasting.endObservation (o : Observation) (hs : P s) : P (endObservation o s) :=
  hP.beginOldest (hP.handNotices o (hP.line _ rfl rfl hs))

theorem Lasting.foreignStopTaken (hs : P s) : P (foreignStopTaken s) := by
  unfold Machine.foreignStopTaken
  split
  · exact hP.ite (hP.endObservation _ hs) hs
  · exact hs

theorem Lasting.unexpectedCondition (condition : BusCondition) (hs : P s) : P (unexpectedCondition condition s) := by
  unfold Machine.unexpectedCondition
  split
  · have hr := fun o => hP.retryFront (hP.observe o (hP.line (fun g => { g with clockHeld := false }) rfl rfl hs))
    cases condition
    · exact hr _
    · exact hP.foreignStopTaken (hr _)
  · cases condition
    · exact hP.handResult _ _ _ (hP.observe _ (hP.line _ rfl rfl (hP.dropFront hs)))
    · exact hP.endTransaction _ _ hs
  · exact hs

theorem Lasting.foreignStart (hs : P s) : P (foreignStart s) := by
  unfold Machine.foreignStart
  split
  · exact hP.observe _ hs
  · exact hP.line _ rfl rfl hs
  · exact hP.unexpectedCondition .start hs

theorem Lasting.foreignStop (hs : P s) : P (foreignStop s) := by
  unfold Machine.foreignStop
  split
  · exact hs
  · exact hP.foreignStopTaken hs
  · exact hP.unexpectedCondition .stop hs

theorem Lasting.quietExpiry (hs : P s) : P (quietExpiry s) := by
  unfold Machine.quietExpiry
  exact hP.ite (hP.line _ rfl rfl hs) hs

theorem Lasting.resetObservationTimeout (hs : P s) : P (resetObservationTimeout s) := by
  unfold Machine.resetObservationTimeout
  split
  · exact hP.ite (hP.endObservation _ (hP.line _ rfl rfl hs)) hs
  · exact hs

/-- A reset leaves nothing queued (R80, R170). -/
theorem Lasting.rebuilt (x : FieldLines) (sst : Sst) (tools : Sides ToolCounters) (calibration : Sides Calibration)
    (ahs : Ahs) (rate : Rate) (pending : List Instr) : P (rebuilt x sst tools calibration ahs rate pending) :=
  hP.empty rfl rfl rfl

theorem Lasting.linkResetEffect (x : FieldLines) (hs : P s) : P (linkResetEffect x s) := by
  unfold Machine.linkResetEffect
  exact hP.ite (hP.rebuilt x _ _ _ _ _ _) hs

/-! ### Every step -/

theorem Lasting.effectOf (i : Instr) (hs : P s) : P (effectOf i s) := by
  have hrequest : ∀ kind tag, P (answer kind tag (serve i) s) := fun kind tag => hP.answer kind tag (hP.serve i hs) hs
  cases i with
  | powerOnReset x => exact hP.rebuilt x _ _ _ _ _ _
  | pinReset x => exact hP.rebuilt x _ _ _ _ _ _
  | linkResetEffect x => exact hP.linkResetEffect x hs
  | goodFrame f => exact hP.acceptFrame f hs
  | lineError => exact hP.discardPartial hs
  | gapTimerExpiry => exact hP.ite (hP.discardPartial hs) hs
  | dispatch => exact hP.dispatchFront hs
  | sendingReply => exact hP.ite (hP.sendReply hs) hs
  | sendingReport => exact hP.ite (hP.sendReport hs) hs
  | frameSent => exact hP.frameEnded hs
  | silenceTimerExpiry => exact hP.silenceExpiry hs
  | presenceOn => exact hP.presenceOn hs
  | presenceOff => exact hP.presenceOff hs
  | tagReadBegin => exact hP.beginTagRead hs
  | bridgeSwitchMade side at' => exact hP.bridgeSwitchMade side at' hs
  | bridgeSwitchDropped side at' => exact hP.bridgeSwitchDropped side at' hs
  | bridgeTravelTimerExpiry side => exact hP.apart (kept_bridgeTimeout side rfl) hs
  | pitStopAsserted => exact hP.pitStopAsserted hs
  | pitStopReleased => exact hP.apart (kept_modPil (fun p => { p with pitStop := false }) rfl rfl) hs
  | pendantJogUp => exact hP.press (hP.jog .up hs) hs
  | pendantJogDown => exact hP.press (hP.jog .down hs) hs
  | pendantJogRelease button => exact hP.jogRelease button hs
  | pendantClampsClose => exact hP.press (hP.clampsClose .pendant hs) hs
  | pendantClampsOpen => exact hP.press (hP.clampsOpen .pendant hs) hs
  | pendantBridgesIn => exact hP.press (hP.bridgesTo .pendant .inLine hs) hs
  | pendantBridgesOut => exact hP.press (hP.bridgesTo .pendant .out hs) hs
  | pendantHeadsHome => exact hP.press (hP.apart (kept_headsHome rfl) hs) hs
  | liftControlPeriodExpiry positions loads => exact hP.controlPeriod positions loads hs
  | loadChange post load positions => exact hP.loadChanged post load positions hs
  | clampSwitchMade side at' => exact hP.apart (kept_clampSwitchMade side at' rfl) hs
  | clampSwitchDropped side at' => exact hP.apart (kept_setClampSwitch side at' false rfl) hs
  | clampMoveTimerExpiry side => exact hP.apart (kept_clampTimeout side rfl) hs
  | deglitchTimerExpiry m => exact hP.deglitchExpiry m hs
  | gaugeTransactionBegin => exact hP.beginOldest hs
  | gaugeTransactionEnd => exact hP.transactionEnd hs
  | clockHold => exact hP.clockHold hs
  | clockRelease => exact hP.clockRelease hs
  | waitTimerExpiry => exact hP.waitExpiry hs
  | arbitrationLoss => exact hP.arbitrationLoss hs
  | unexpectedStartStop condition => exact hP.unexpectedCondition condition hs
  | foreignStart => exact hP.foreignStart hs
  | foreignStop => exact hP.foreignStop hs
  | quietTimerExpiry => exact hP.quietExpiry hs
  | resetObservationTimeout => exact hP.resetObservationTimeout hs
  | profileScanBegin => exact hP.profileScanBegin hs
  | sweepExtractionDone => exact hP.extractionDone hs
  | rimTemperatureReading side value => exact hP.apart (kept_rimReading side value rfl) hs
  | rimSensorFault side => exact hP.apart (kept_rimFault side rfl) hs
  | rimHoldTimerExpiry side => exact hP.apart (kept_rimHoldExpiry side rfl) hs
  | indexEvent interval forcesL forcesR => exact hP.indexTaken interval forcesL forcesR hs
  | rollerSpeedChange pairL pairR => exact hP.apart (kept_rollersChanged pairL pairR rfl rfl rfl rfl rfl rfl) hs
  | forceReadingChange side value =>
    exact hP.apart (kept_modHead side (fun h => { h with force := saturate Config.forceMax value }) rfl) hs
  | stopTimerExpiry => exact hP.stopExpiry hs
  | headMoveEnd side parkSwitch => exact hP.apart (kept_moveEnded side parkSwitch rfl rfl rfl rfl rfl rfl) hs
  | planComputationEnd => exact hP.apart (kept_computationEnd rfl rfl rfl) hs
  | recordOpenComplete => exact hP.apart (kept_recordOpened rfl rfl rfl) hs
  | commitBegin => exact hP.apart (kept_commitBegin rfl rfl rfl rfl) hs
  | slotWriteDone => exact hP.apart (kept_slotWritten rfl) hs
  | commitVerifyDone agrees => exact hP.apart (kept_verifyDone agrees rfl rfl rfl rfl) hs
  | startupScanEnd bads => exact hP.apart (kept_scanEnded bads rfl rfl) hs
  | settingsProgrammingBegin => exact hP.apart (kept_programmingBegin rfl) hs
  | settingsReadbackDone agrees => exact hP.apart (kept_readbackDone agrees rfl) hs
  | byteReceived value => exact hP.byteArrived value hs
  | gaugeBusByte value ack => exact hP.busByte value ack hs
  | _ => exact hrequest _ _

theorem Lasting.close (before : State) (hs : P s) : P (close before s) := by
  have hk : Kept offQueues s (reviewAll s) :=
    kept_modPil (fun p => { p with clearToMove := clearInputs s }) rfl rfl
      (kept_modFmu (fun u => { u with monitors := .ofFn (reviewed s) }) rfl (.refl _ s))
  rw [close_eq]
  exact hP.link _ (le_max_left _ _) (hP.kept hk hs)

theorem Lasting.step {t : State} (h : step s = .next t) (hs : P s) : P t := by
  unfold Machine.step at h
  split at h
  · cases h
    exact hs
  · next i rest _ =>
    rw [exec_next, Host.Outcome.next.injEq] at h
    exact h ▸ hP.close _ (hP.effectOf i (hP.pending rest hs))

end

/-! ### The quotas and the places (R67, R170) -/

theorem quotaLaw_iff (s : State) : quotaLaw s = true ↔ ∀ q, heldBy q s ≤ quota q := by
  simp only [quotaLaw, Bool.and_eq_true, decide_eq_true_eq]
  refine ⟨fun ⟨⟨hl, hr⟩, ht⟩ q => ?_, fun h => ⟨⟨h _, h _⟩, h _⟩⟩
  match q with
  | .pmu .l => exact hl
  | .pmu .r => exact hr
  | .pilTag => exact ht

/-- The transactions of the queue are those of the three requesters. -/
theorem queue_length (s : State) :
    s.gbc.queue.length = heldBy (.pmu .l) s + heldBy (.pmu .r) s + heldBy .pilTag s := by
  unfold heldBy
  induction s.gbc.queue with
  | nil => rfl
  | cons t rest ih =>
    simp only [List.filter_cons, List.length_cons, ih]
    obtain h | h | h : t.requester = .pmu .l ∨ t.requester = .pmu .r ∨ t.requester = .pilTag := by
      rcases t.requester with (_ | _) | _ <;> simp
    all_goals
      rw [h]
      simp
      omega

/-- What a requester holds is counted by requester alone. -/
theorem heldBy_count (q : Requester) (s : State) : heldBy q s = (s.gbc.queue.map Txn.requester).count q := by
  unfold heldBy
  rw [List.count, List.countP_map, List.countP_eq_length_filter]
  rfl

theorem heldBy_append (q : Requester) (t : Txn) (s : State) (held : Sides (List Txn)) :
    heldBy q (s.modGbc fun g => { g with queue := g.queue ++ [t], held := held }) =
      heldBy q s + if t.requester = q then 1 else 0 := by
  simp only [heldBy_count, State.modGbc_gbc, List.map_append, List.count_append, List.map_cons, List.map_nil]
  split <;> simp_all

/-- The quotas hold, and every head keeps back only transactions of its own: what every step keeps of R67. -/
structure QuotasKept (s : State) : Prop where
  quota : ∀ q, heldBy q s ≤ quota q
  own : ∀ side, ∀ t ∈ s.gbc.held.get side, t.requester = .pmu side

theorem QuotasKept.gbc {s t : State} (h : QuotasKept s)
    (hq : (t.gbc.queue.map Txn.requester).Sublist (s.gbc.queue.map Txn.requester))
    (hh : ∀ side, t.gbc.held.get side ⊆ s.gbc.held.get side) : QuotasKept t where
  quota q := by
    have := h.quota q
    rw [heldBy_count] at this ⊢
    exact (hq.count_le q).trans this
  own side x hx := h.own side x (hh side hx)

theorem QuotasKept.placed {s : State} (h : QuotasKept s) {t : Txn} {held : Sides (List Txn)}
    (hq : heldBy t.requester s < Machine.quota t.requester) (hh : ∀ side, held.get side ⊆ s.gbc.held.get side) :
    QuotasKept (s.modGbc fun g => { g with queue := g.queue ++ [t], held := held }) where
  quota q := by
    rw [heldBy_append]
    split
    · next e => rw [← e]; exact hq
    · exact h.quota q
  own side x hx := h.own side x (hh side hx)

theorem QuotasKept.place {s : State} (h : QuotasKept s) (t : Txn) : QuotasKept (place t s) := by
  unfold Machine.place
  split
  · next hq => exact h.placed hq.1 fun _ => List.Subset.refl _
  · split
    · next side ht =>
      refine ⟨h.quota, fun x u hu => ?_⟩
      by_cases hx : x = side
      · subst hx
        simp only [State.modGbc_gbc, Sides.get_set_same, List.mem_append, List.mem_singleton] at hu
        obtain hu | rfl := hu
        · exact h.own _ u hu
        · exact ht
      · rw [State.modGbc_gbc, Sides.get_set_ne _ _ hx] at hu
        exact h.own x u hu
    · exact h

theorem QuotasKept.placeKept {s : State} (h : QuotasKept s) (q : Requester) : QuotasKept (placeKept q s) := by
  unfold Machine.placeKept
  split
  · exact h
  · next side =>
    split
    · exact h
    · next t rest hk =>
      split
      · next hq =>
        have ht : t.requester = .pmu side := h.own side t (by simp [hk])
        refine h.placed (ht ▸ hq) fun x => ?_
        by_cases hx : x = side
        · subst hx
          rw [Sides.get_set_same, hk]
          exact List.subset_cons_self _ _
        · rw [Sides.get_set_ne _ _ hx]
          exact List.Subset.refl _
      · exact h

theorem abandon_requesters (q : Requester) (s : State) :
    (abandon q s).gbc.queue.map Txn.requester = s.gbc.queue.map Txn.requester := by
  have hq : (abandon q s).gbc.queue =
      s.gbc.queue.map fun t => if t.requester == q then { t with purpose := .discarded } else t := by
    cases q <;> rfl
  rw [hq, List.map_map]
  refine List.map_congr_left fun t _ => ?_
  dsimp only [Function.comp_apply]
  split <;> rfl

theorem QuotasKept.abandon {s : State} (h : QuotasKept s) (q : Requester) : QuotasKept (abandon q s) := by
  refine h.gbc ?_ fun side => ?_
  · rw [abandon_requesters]
  · cases q with
    | pilTag => exact List.Subset.refl _
    | pmu x =>
      by_cases hx : side = x
      · subst hx
        simp [Machine.abandon]
      · simp [Machine.abandon, Sides.get_set_ne _ _ hx]

theorem lasting_quotas : Lasting QuotasKept where
  kept hk h := h.gbc (by rw [hk.gbc rfl]) fun side => by rw [hk.gbc rfl]; exact List.Subset.refl _
  link _ _ h := h.gbc (.refl _) fun _ => List.Subset.refl _
  place t h := h.place t
  placeKept q h := h.placeKept q
  abandon q h := h.abandon q
  bus _ hq hk h := h.gbc hq fun side => by rw [State.modGbc_gbc, hk]; exact List.Subset.refl _
  pending _ h := h.gbc (.refl _) fun _ => List.Subset.refl _
  empty hq hh _ := ⟨fun q => by simp [heldBy, hq], fun side => by simp [hh]⟩

theorem lasting_receive : Lasting fun s => s.slp.queue.length ≤ Config.receivePlaces where
  kept hk h := by rw [hk.slp rfl]; exact h
  link _ hf h := hf.trans (max_le h (le_refl _))
  place t h := by
    unfold place
    split
    · exact h
    · split <;> exact h
  placeKept q h := by
    unfold placeKept
    split
    · exact h
    · split
      · exact h
      · split <;> exact h
  abandon q h := by cases q <;> exact h
  bus _ _ _ h := h
  pending _ h := h
  empty _ _ hq := by rw [hq]; exact Nat.zero_le _

/-- Every step keeps the quotas of R67 where every head keeps back only its own transactions, as at reset. -/
theorem step_keeps_quotas {s t : State} (h : step s = .next t) (hs : QuotasKept s) : QuotasKept t := lasting_quotas.step h hs

theorem reset_quotasKept : QuotasKept State.reset := lasting_quotas.empty rfl rfl rfl

theorem step_keeps_receiveLaw {s t : State} (hs : receiveLaw s = true) (h : step s = .next t) : receiveLaw t = true := by
  unfold receiveLaw at hs ⊢
  rw [decide_eq_true_eq] at hs ⊢
  exact lasting_receive.step h hs

/-- Within the quotas the gauge queue holds no more than 5 of its 8 transactions (R67). -/
theorem queue_within_quotas {s : State} (h : quotaLaw s = true) : s.gbc.queue.length ≤ 5 := by
  have hq := (quotaLaw_iff s).1 h
  rw [queue_length]
  have hl := hq (.pmu .l)
  have hr := hq (.pmu .r)
  have ht := hq .pilTag
  simp only [quota] at hl hr ht
  omega

/-- Head L keeps back a transaction of the PIL, which no operation of the part does; its own transaction is about to end,
and the PIL is at its quota. -/
def strayKeptBack : State :=
  { State.reset with
    gbc := { State.reset.gbc with
      queue := [modeTxn .l .park .discarded, tagTxn]
      held := ⟨[tagTxn], []⟩
      bus := .running
      run := some ⟨.closing, 2, [], some .ok, []⟩ }
    pending := [.gaugeTransactionEnd] }

theorem quotaLaw_close (before s : State) : quotaLaw (close before s) = quotaLaw s := by
  unfold quotaLaw heldBy
  rw [close_gbc]

/-- Refutes O7: `quotaLaw` counts the queue alone, and head L, below its quota again, places what it keeps back whatever
requester that names; from `strayKeptBack` the PIL then holds two transactions. What holds of the quotas is
`step_keeps_quotas`, and of the receive queue `step_keeps_receiveLaw`. -/
theorem not_stepKeepsQuotas : ¬ Obligations.StepKeepsQuotas := by
  unfold Obligations.StepKeepsQuotas
  rintro ⟨hquota, -, -⟩
  have hstep : step strayKeptBack = .next (close _ (transactionEnd (strayKeptBack.withPending []))) :=
    exec_next .gaugeTransactionEnd _
  have hkept := hquota _ _ (by decide) hstep
  rw [quotaLaw_close] at hkept
  exact absurd hkept (by decide)

end Sys2Proof.Machine

end

section

namespace Sys2Proof.Machine

/-! ## The gauge bus of a settled part

No monitor and no state of the clear-to-move line looks at the gauge bus, and the report shows of it only the foreign flag. -/

theorem settled_gbc {s : State} (h : settled s = true) (g : Gbc) : settled { s with gbc := g } = true := by
  rw [settled_iff] at h ⊢
  show { reviewAll s with gbc := g } = { s with gbc := g }
  rw [h]

/-- A command that changes the gauge bus alone. -/
theorem exec_gbc {i : Instr} {s : State} {g : Gbc} (h : settled s = true) (he : effectOf i s = { s with gbc := g }) :
    exec i s = .next (noted s { s with gbc := g }) := by
  rw [exec_next, he, close_noted (settled_gbc h g)]

/-- It leaves the foreign flag, and with it the report. -/
theorem exec_gbc_unflagged {i : Instr} {s : State} {g : Gbc} (h : settled s = true) (he : effectOf i s = { s with gbc := g })
    (hf : g.foreignFlag = s.gbc.foreignFlag) : exec i s = .next { s with gbc := g } := by
  have hpil : pilReport { s with gbc := g } = pilReport s := by
    unfold pilReport
    rw [← hf]
    rfl
  rw [exec_next, he, close_settled_same _ _ (settled_gbc h g)]
  unfold reportBody
  rw [hpil]
  rfl

/-- A command that changes nothing. -/
theorem exec_same {i : Instr} {s : State} (h : settled s = true) (he : effectOf i s = s) : exec i s = .next s := by
  rw [exec_next, he, close_self h]

/-! ## The bytes of a transaction (R66, R69 to R71) -/

section Bytes

variable {t : Txn} {r : Run} (value : Byte) {ack : Bool}

theorem firstAddressByte_eq (t : Txn) :
    firstAddressByte t = byte (2 * t.address + if t.direction = .read ∧ t.writeBytes = [] then 1 else 0) := by
  obtain ⟨_, _, direction, bytes, _, _, _⟩ := t
  cases direction <;> cases bytes <;> rfl

/-- The first address byte, not acknowledged and acknowledged (R69). -/
theorem Run.step_address (h : r.phase = .address) :
    r.step t value false =
        { r.put [.sent (firstAddressByte t) false, .stop] with phase := .closing, result := some .absent } ∧
      r.step t value true = { r.put [.sent (firstAddressByte t) true] with
        phase := if t.direction = .read ∧ t.writeBytes = [] then .read else .write } := by
  obtain ⟨_, _, direction, bytes, _, _, _⟩ := t
  constructor
  · simp [Run.step, Run.onLine, Run.sends, Run.close, Run.put, h]
  · cases direction <;> cases bytes <;> simp [Run.step, Run.onLine, Run.sends, Run.put, Run.addressed, h]

/-- A write byte that is not acknowledged (R70). -/
theorem Run.step_rejected {b : Byte} (h : r.phase = .write) (hb : t.writeBytes[r.sent]? = some b) :
    r.step t value false = { r.put [.sent b false, .stop] with phase := .closing, result := some .rejected } := by
  simp [Run.step, Run.onLine, Run.sends, Run.close, Run.put, h, hb]

/-- A write byte that is acknowledged, with the STOP or the repeated START behind the last (R70). -/
theorem Run.step_wrote {b : Byte} (h : r.phase = .write) (hb : t.writeBytes[r.sent]? = some b) :
    (r.sent + 1 < t.writeBytes.length → r.step t value true = { r.put [.sent b true] with sent := r.sent + 1 }) ∧
    (r.sent + 1 = t.writeBytes.length →
      (t.direction = .write → r.step t value true =
        { r.put [.sent b true, .stop] with sent := r.sent + 1, phase := .closing, result := some .ok }) ∧
      (t.direction = .read → r.step t value true =
        { r.put [.sent b true, .start] with sent := r.sent + 1, phase := .turn })) := by
  refine ⟨fun hl => ?_, fun hl => ?_⟩
  · simp [Run.step, Run.onLine, Run.sends, Run.put, Run.wrote, h, hb, hl]
  · have hn : ¬ r.sent + 1 < t.writeBytes.length := by omega
    constructor <;> intro hd <;> simp [Run.step, Run.onLine, Run.sends, Run.put, Run.wrote, Run.close, h, hb, hn, hd]

/-- The second address byte (R69). -/
theorem Run.step_turn (h : r.phase = .turn) :
    r.step t value false =
        { r.put [.sent (byte (2 * t.address + 1)) false, .stop] with phase := .closing, result := some .absent } ∧
      r.step t value true = { r.put [.sent (byte (2 * t.address + 1)) true] with phase := .read } := by
  constructor <;> simp [Run.step, Run.onLine, Run.sends, Run.close, Run.put, h, addressByte]

/-- A read byte, acknowledged but for the last (R71). -/
theorem Run.step_read (h : r.phase = .read) :
    (r.received.length + 1 < t.readLength →
      r.step t value ack = { r.put [.received value true] with received := r.received ++ [value] }) ∧
    (t.readLength ≤ r.received.length + 1 →
      r.step t value ack = { r.put [.received value false, .stop] with
        received := r.received ++ [value], phase := .closing, result := some .ok }) := by
  constructor <;> intro hl
  · simp [Run.step, Run.onLine, Run.acknowledges, Run.readByte, Run.put, h, hl]
  · have hn : ¬ r.received.length + 1 < t.readLength := by omega
    simp [Run.step, Run.onLine, Run.acknowledges, Run.readByte, Run.close, Run.put, h, hn]

theorem Run.step_closing (h : r.phase = .closing) : r.step t value ack = r := by
  obtain ⟨phase, sent, received, result, line⟩ := r
  subst h
  simp [Run.step, Run.onLine, Run.sends, Run.put]

end Bytes

/-- A byte of the part's own transaction moves its run on, and nothing else (R69 to R71). -/
theorem exec_busByte {value : Byte} {ack : Bool} {t : Txn} {rest : List Txn} {r : Run} {s : State} (h : settled s = true)
    (hbus : s.gbc.bus = .running) (hq : s.gbc.queue = t :: rest) (hr : s.gbc.run = some r) (hc : s.gbc.clockHeld = false) :
    exec (.gaugeBusByte value ack) s = .next { s with gbc := { s.gbc with run := some (r.step t value ack) } } := by
  refine exec_gbc_unflagged h ?_ rfl
  simp [effectOf, busByte, hbus, hq, hr, hc, State.modGbc]

/-- The bytes read, each acknowledged but for the last (R71). -/
theorem readLine_zipIdx (data : List Byte) :
    readLine data = data.zipIdx.map fun x => LineEvent.received x.1 (decide (x.2 + 1 < data.length)) := by
  induction data using List.reverseRecOn with
  | nil => rfl
  | append_singleton data b _ =>
    rw [readLine_append, List.zipIdx_append, List.map_append, List.length_append]
    have hbefore : (data.zipIdx.map fun x => LineEvent.received x.1 (decide (x.2 + 1 < data.length + 1))) =
        data.map fun x => LineEvent.received x true := by
      conv_rhs => rw [← List.zipIdx_map_fst 0 data, List.map_map]
      refine List.map_congr_left fun x hx => ?_
      have := List.snd_lt_of_mem_zipIdx hx
      simp only [Function.comp_apply, LineEvent.received.injEq, decide_eq_true_eq, true_and]
      omega
    simpa using hbefore.symm

/-- A transaction that closes OK has put its bytes on the lines as R66 has them. -/
theorem line_of_ok {t : Txn} {r : Run} (h : runLaw t r = true) (hp : r.phase = .closing) (hr : r.result = some .ok) :
    r.received.length = t.readLength ∧ r.line = t.onBus r.received := by
  simp only [runLaw, hp, hr, Bool.and_eq_true, beq_iff_eq] at h
  exact ⟨h.2, h.1⟩

/-- Settles O26: a byte is a step of the run, by its phase; `runLaw_step` keeps its order, and `line_of_ok` reads the order
off at the end. -/
theorem byteMovesRun : Obligations.ByteMovesRun := by
  unfold Obligations.ByteMovesRun
  refine ⟨fun value ack t rest r s h hbus hq hr hc => ?_, runLaw_begin, fun t r h hp hr => ?_⟩
  · refine ⟨_, exec_busByte h hbus hq hr hc, fun hp => ?_, fun b hp hb => ?_, fun hp => ?_, fun hp => ?_, fun hp => ?_,
      runLaw_step value ack⟩
    · obtain ⟨hno, hyes⟩ := Run.step_address (t := t) value hp
      rw [firstAddressByte_eq] at hno hyes
      exact ⟨fun ha => ha ▸ hno, fun ha => ha ▸ hyes⟩
    · obtain ⟨hmore, hlast⟩ := Run.step_wrote (t := t) value hp hb
      exact ⟨fun ha => ha ▸ Run.step_rejected value hp hb, fun ha hl => ha ▸ hmore hl,
        fun ha hl hd => ha ▸ (hlast hl).1 hd, fun ha hl hd => ha ▸ (hlast hl).2 hd⟩
    · obtain ⟨hno, hyes⟩ := Run.step_turn (t := t) value hp
      exact ⟨fun ha => ha ▸ hno, fun ha => ha ▸ hyes⟩
    · exact Run.step_read value hp
    · exact Run.step_closing value hp
  · obtain ⟨hlength, hline⟩ := line_of_ok h hp hr
    refine ⟨hlength, ?_⟩
    rw [hline, Txn.onBus, readLine_zipIdx]
    rfl

end Sys2Proof.Machine

end

section

namespace Sys2Proof.Machine

/-! ## What the gauge queue leaves of its block -/

/-- Of the gauge bus at most the queue and the transactions kept back are other than in `b`. -/
def QueuesOnly (b s : State) : Prop := s.gbc = { b.gbc with queue := s.gbc.queue, held := s.gbc.held }

theorem QueuesOnly.refl (s : State) : QueuesOnly s s := rfl

theorem QueuesOnly.queues {b s : State} (h : QueuesOnly b s) (f : Gbc → Gbc) {queue : List Txn} {held : Sides (List Txn)}
    (hf : f s.gbc = { s.gbc with queue := queue, held := held }) : QueuesOnly b (s.modGbc f) := by
  unfold QueuesOnly at *
  rw [State.modGbc_gbc, hf, h]

theorem steady_queuesOnly (b : State) : Steady (QueuesOnly b) where
  kept := by
    intro s t k h
    unfold QueuesOnly at *
    rw [k.gbc rfl]
    exact h
  link := fun _ _ h => h
  place := by
    intro s t h
    unfold place
    split
    · exact h.queues _ rfl
    · split
      · exact h.queues _ rfl
      · exact h
  placeKept := by
    intro s q h
    unfold placeKept
    split
    · exact h
    · split
      · exact h
      · split
        · exact h.queues _ rfl
        · exact h
  abandon := by
    intro s q h
    unfold abandon
    split
    · exact h.queues _ rfl
    · exact (h.queues _ rfl).queues _ rfl

/-! ## The oldest transaction begins (R68) -/

/-- The run of a transaction that has just begun. -/
def newRun : Run := ⟨.address, 0, [], none, [.start]⟩

/-- The gauge bus, IDLE, with its oldest transaction begun, where there is one. -/
def begun (g : Gbc) : Gbc := { busWith g.queue g with run := if g.queue.isEmpty then g.run else some newRun }

theorem beginOldest_idle {s : State} (h : s.gbc.bus = .idle) : beginOldest s = { s with gbc := begun s.gbc } := by
  obtain ⟨pil, blu, fmu, gbc, pmu, tpe, tcu, ahs, sst, slp, pending⟩ := s
  obtain ⟨queue, _, _, _, _, _, _, _, _, _⟩ := gbc
  subst h
  cases queue <;> rfl

/-! ## A head notice (R79, R85, R101) -/

/-- A head of the PMU that gets its notice. -/
def noticedHead (side : Side) (s : State) : PmuHead :=
  let h := s.pmu.head.get side
  let stale := { h with
    calibration := .stale
    staleDuring := h.staleDuring || (headInSweep side s && h.calibration == .verified) }
  if referenceRunning side s then { stale with reference := .idle, lastReference := .failed .stale } else stale

theorem makeStale_reference (side x : Side) (s : State) :
    referenceRunning x (makeStale side s) = referenceRunning x s := by
  unfold referenceRunning makeStale modPmuHead
  cases side <;> cases x <;> rfl

theorem headNotice_pmu (side : Side) (s : State) :
    (headNotice side s).pmu = { s.pmu with head := s.pmu.head.set (noticedHead side s) side } := by
  unfold headNotice referenceFailed noticedHead
  rw [endReference_pmu, makeStale_reference]
  split
  · cases side <;> rfl
  · rfl

theorem headNotice_idle {side : Side} {s : State} (h : referenceRunning side s = false) :
    headNotice side s = makeStale side s :=
  referenceFailed_idle (by rw [makeStale_reference, h])

/-- A head that is STALE already and runs no reference sweep stays as it is. -/
theorem noticedHead_stale {side : Side} {s : State} (hs : (s.pmu.head.get side).calibration = .stale)
    (hr : referenceRunning side s = false) : noticedHead side s = s.pmu.head.get side := by
  unfold noticedHead
  rw [hr]
  generalize s.pmu.head.get side = h at hs
  obtain ⟨_, _, _, _, _, _, _, _, _, _⟩ := h
  subst hs
  simp

/-- The head notice of an observation, where it is due. -/
def noticeOf (o : Observation) (side : Side) (s : State) : State :=
  if !o.seen || o.addressed.get side then headNotice side s else s

theorem handNotices_eq (o : Observation) (s : State) : handNotices o s = noticeOf o .r (noticeOf o .l s) := rfl

theorem noticeOf_pmu (o : Observation) (side : Side) (s : State) :
    (noticeOf o side s).pmu =
      if !o.seen || o.addressed.get side then { s.pmu with head := s.pmu.head.set (noticedHead side s) side } else s.pmu := by
  unfold noticeOf
  split
  · exact headNotice_pmu side s
  · rfl

/-- The notices leave of the PMU all but the heads. -/
theorem handNotices_pmu (o : Observation) (s : State) :
    (handNotices o s).pmu = { s.pmu with head := (handNotices o s).pmu.head } := by
  have hone : ∀ side (u : State), (noticeOf o side u).pmu = { u.pmu with head := (noticeOf o side u).pmu.head } := fun side u => by
    rw [noticeOf_pmu]
    split <;> rfl
  rw [handNotices_eq, hone .r, hone .l s]

theorem handNotices_head (o : Observation) (side : Side) (s : State) :
    (handNotices o s).pmu.head.get side =
      if !o.seen || o.addressed.get side then noticedHead side s else s.pmu.head.get side := by
  have hl : (noticeOf o .l s).pmu = { s.pmu with head := (noticeOf o .l s).pmu.head } := by
    rw [noticeOf_pmu]
    split <;> rfl
  have hr : (noticeOf o .l s).pmu.head.get .r = s.pmu.head.get .r := by
    rw [noticeOf_pmu]
    split <;> rfl
  have hseen : noticedHead .r (noticeOf o .l s) = noticedHead .r s := by
    unfold noticedHead referenceRunning headInSweep sweepRunning
    rw [hr, hl]
  rw [handNotices_eq, noticeOf_pmu]
  cases side with
  | l =>
    calc _ = (noticeOf o .l s).pmu.head.get .l := by split <;> rfl
      _ = _ := by
        rw [noticeOf_pmu]
        split <;> rfl
  | r =>
    rw [hseen]
    split
    · rfl
    · exact hr

/-- With no reference sweep running the notices change the PMU alone. -/
theorem kept_handNotices_idle {keep : Blocks} {base : State} (o : Observation) (hpmu : keep.pmu = true) {s : State}
    (h : anyReference s = false) (k : Kept keep base s) : Kept keep base (handNotices o s) := by
  obtain ⟨hl, hr⟩ := Bool.or_eq_false_iff.1 h
  have hone : ∀ side (u : State), Kept keep base u → referenceRunning side u = false →
      Kept keep base (noticeOf o side u) := fun side u k hu => by
    unfold noticeOf
    split
    · rw [headNotice_idle hu]
      exact kept_makeStale side hpmu k
    · exact k
  refine hone .r _ (hone .l s k hl) ?_
  show referenceRunning .r (if _ then _ else _) = false
  split
  · rw [headNotice_idle hl, makeStale_reference, hr]
  · exact hr

end Sys2Proof.Machine

end

section

namespace Sys2Proof.Machine

/-! ## Foreign transactions (R65, R77 to R80) -/

theorem noteAddress_addressed (address : Nat) (o : Observation) :
    noteAddress address o =
      { o with addressed := ⟨o.addressed.l || address == 0x31, o.addressed.r || address == 0x32⟩ } := by
  obtain ⟨_, ⟨l, r⟩, _⟩ := o
  unfold noteAddress
  split
  · next h => simp [h]
  · split
    · next h => simp [h]
    · next h1 h2 => simp [h1, h2]

theorem foreignStart_idle {s : State} (h : s.gbc.bus = .idle) :
    foreignStart s = observe ⟨true, .both false, true⟩ s := by
  unfold foreignStart
  rw [h]

theorem foreignStart_observing {s : State} (h : s.gbc.bus = .observing) :
    foreignStart s =
      s.modGbc fun g => { g with observation := g.observation.map fun o => { o with addressNext := true } } := by
  unfold foreignStart
  rw [h]

/-- A START and a STOP of another master on a bus with a transaction of the part (R76). -/
theorem foreign_unexpected {s : State} (h : s.gbc.bus = .running ∨ s.gbc.bus = .recovering) :
    foreignStart s = unexpectedCondition .start s ∧ foreignStop s = unexpectedCondition .stop s := by
  unfold foreignStart foreignStop
  rcases h with h | h <;> rw [h] <;> exact ⟨rfl, rfl⟩

theorem foreignStop_idle {s : State} (h : s.gbc.bus = .idle) : foreignStop s = s := by
  unfold foreignStop
  rw [h]

theorem foreignStop_observing {o : Observation} {s : State} (h : s.gbc.bus = .observing) (ho : s.gbc.observation = some o) :
    foreignStop s = endObservation o s := by
  unfold foreignStop foreignStopTaken
  rw [h, ho]
  rfl

theorem resetObservationTimeout_other {s : State}
    (h : s.gbc.bus ≠ .observing ∨ ∃ o, s.gbc.observation = some o ∧ o.seen = true) :
    resetObservationTimeout s = s := by
  unfold resetObservationTimeout
  split
  · next o ho =>
    refine if_neg fun hc => h.elim (absurd hc.1) fun ⟨o', ho', hs⟩ => ?_
    rw [ho', Option.some.injEq] at ho
    rw [← ho, hs] at hc
    exact Bool.noConfusion hc.2
  · rfl

theorem resetObservationTimeout_unseen {o : Observation} {s : State} (h : s.gbc.bus = .observing)
    (ho : s.gbc.observation = some o) (hs : o.seen = false) :
    resetObservationTimeout s = endObservation o (s.modGbc fun g => { g with recovery := recoveryPulses ++ [.stop] }) := by
  unfold resetObservationTimeout
  rw [ho]
  exact if_pos ⟨h, hs⟩

theorem quietExpiry_running {s : State} (h : s.gbc.quietTimer.isSome = true) :
    quietExpiry s = s.modGbc fun g => { g with foreignFlag := false, quietTimer := none } := if_pos h

theorem quietExpiry_none {s : State} (h : s.gbc.quietTimer = none) : quietExpiry s = s := by
  unfold quietExpiry
  rw [h]
  rfl

theorem busByte_observing (value : Byte) (ack : Bool) {o : Observation} {s : State} (h : s.gbc.bus = .observing)
    (ho : s.gbc.observation = some o) (hn : o.addressNext = true) :
    busByte value ack s = s.modGbc fun g => { g with observation := some { o with
      addressed := ⟨o.addressed.l || value.toNat / 2 == 0x31, o.addressed.r || value.toNat / 2 == 0x32⟩
      addressNext := false } } := by
  have hm : busByte value ack s =
      s.modGbc fun g => { g with observation := s.gbc.observation.map fun o => o.byte value } := by
    unfold busByte
    rw [h]
    rfl
  rw [hm, ho, Option.map_some, Observation.byte, if_pos hn, noteAddress_addressed]

/-! ### The end of an observation -/

/-- The state in which the notices of an observation that ends are handed: the bus IDLE, the quiet timer started. -/
def observed (s : State) : State :=
  s.modGbc fun g => { g with bus := .idle, observation := none, quietTimer := some Config.quietTime }

/-- The end of an observation is the notices, and then the begin of the oldest transaction (R77 to R79). -/
theorem endObservation_eq (o : Observation) (s : State) :
    endObservation o s = { handNotices o (observed s) with gbc := begun (handNotices o (observed s)).gbc } := by
  have hq : QueuesOnly (observed s) (handNotices o (observed s)) := (steady_queuesOnly _).handNotices o (.refl _)
  have hidle : (handNotices o (observed s)).gbc.bus = .idle := by rw [hq]; rfl
  exact beginOldest_idle hidle

/-- The end of an observation leaves of the bus what no notice touches: the rest of its block but the queue. -/
theorem endObservation_gbc (o : Observation) (s : State) :
    (endObservation o s).gbc.observation = none ∧ (endObservation o s).gbc.quietTimer = some 1000 ∧
    (endObservation o s).gbc.foreignFlag = s.gbc.foreignFlag ∧ (endObservation o s).gbc.recovery = s.gbc.recovery := by
  have hq : QueuesOnly (observed s) (handNotices o (observed s)) := (steady_queuesOnly _).handNotices o (.refl _)
  rw [endObservation_eq, hq]
  exact ⟨rfl, rfl, rfl, rfl⟩

/-- With no reference sweep running, the end of an observation touches the PMU and the bus alone, and leaves the queue. -/
theorem endObservation_idle (o : Observation) {s : State} (h : anyReference s = false) :
    Kept { gbc := true, pmu := true } s (endObservation o s) ∧ (endObservation o s).gbc = begun (observed s).gbc := by
  refine ⟨kept_beginOldest rfl (kept_handNotices_idle o rfl h (kept_modGbc _ rfl (.refl _ s))), ?_⟩
  rw [endObservation_eq]
  exact congrArg begun ((kept_handNotices_idle (keep := { pmu := true }) o rfl (s := observed s) h (.refl _ _)).gbc rfl)

theorem endObservation_pmu (o : Observation) (s : State) :
    (endObservation o s).pmu = { s.pmu with head := (endObservation o s).pmu.head } ∧
    ∀ side, (endObservation o s).pmu.head.get side =
      if !o.seen || o.addressed.get side then noticedHead side s else s.pmu.head.get side := by
  rw [endObservation_eq]
  exact ⟨handNotices_pmu o (observed s), fun side => handNotices_head o side (observed s)⟩

/-- The end of an observation touches the PMU, the heads and the bus alone. -/
theorem endObservation_kept (o : Observation) (s : State) :
    Kept { fmu := true, gbc := true, pmu := true, tcu := true } s (endObservation o s) :=
  kept_beginOldest rfl (kept_handNotices o rfl rfl rfl rfl (kept_modGbc _ rfl (.refl _ s)))

/-- What the lines of the recovery carry when the end of an observation is handed (R80). -/
def sentAtEnd (i : Instr) (s : State) : List LineEvent :=
  if i = .resetObservationTimeout then List.replicate 9 .pulse ++ [.stop] else s.gbc.recovery

/-- The STOP and the timeout that end an observation differ in what the part sends. -/
theorem effectOf_observationEnd {o : Observation} {i : Instr} {s : State} (h : s.gbc.bus = .observing)
    (ho : s.gbc.observation = some o) (hi : i = .foreignStop ∨ i = .resetObservationTimeout ∧ o.seen = false) :
    effectOf i s = endObservation o (s.modGbc fun g => { g with recovery := sentAtEnd i s }) := by
  rcases hi with rfl | ⟨rfl, hs⟩
  · exact foreignStop_observing h ho
  · exact resetObservationTimeout_unseen h ho hs

/-- Two commands with one effect have one outcome. -/
theorem exec_congr {i j : Instr} {s : State} (h : effectOf i s = effectOf j s) : exec i s = exec j s := by
  rw [exec_next, exec_next, h]

/-- Settles O29: the commands of a foreign transaction one by one, and then the end of an observation, which is
`handNotices` followed by the begin of the oldest transaction. -/
theorem foreignIsObserved : Obligations.ForeignIsObserved := by
  unfold Obligations.ForeignIsObserved
  refine ⟨fun s h => ⟨fun hb => ⟨exec_gbc h (foreignStart_idle hb), exec_same h (foreignStop_idle hb)⟩, fun hb => ?_,
    fun o hb ho => ⟨?_, fun hs => exec_same h (resetObservationTimeout_other (.inr ⟨o, ho, hs⟩)), fun value ack hn =>
      exec_gbc_unflagged h (busByte_observing value ack hb ho hn) rfl⟩,
    fun hb => exec_same h (resetObservationTimeout_other (.inl hb)), fun hq => exec_gbc h (quietExpiry_running hq),
    fun hq => exec_same h (quietExpiry_none hq)⟩, fun o s hb ho i hi => ?_⟩
  · obtain ⟨hstart, hstop⟩ := foreign_unexpected hb
    exact ⟨exec_congr hstart, exec_congr hstop⟩
  · refine exec_gbc_unflagged h ?_ rfl
    rw [show effectOf .foreignStart s = foreignStart s from rfl, foreignStart_observing hb]
    unfold State.modGbc
    dsimp only
    rw [ho]
    rfl
  · refine ⟨_, exec_next i s, ?_⟩
    rw [effectOf_observationEnd hb ho hi]
    obtain ⟨hob, hq, hf, hr⟩ := endObservation_gbc o (s.modGbc fun g => { g with recovery := sentAtEnd i s })
    obtain ⟨hpmu, hhead⟩ := endObservation_pmu o (s.modGbc fun g => { g with recovery := sentAtEnd i s })
    have k := endObservation_kept o (s.modGbc fun g => { g with recovery := sentAtEnd i s })
    simp only [close_gbc, close_pmu, close_tcu, close_blu, close_ahs, close_sst]
    refine ⟨hob, hq, hf, hr, fun hn => ?_, fun side => ⟨fun ht => ?_, fun ht => ?_, fun ht hs hn => ?_⟩, ?_, ?_,
      k.wholeBlu rfl rfl, k.wholeAhs rfl rfl, k.sst rfl⟩
    · obtain ⟨ki, hg⟩ := endObservation_idle o (s := s.modGbc fun g => { g with recovery := sentAtEnd i s }) hn
      exact ⟨hg, ki.wholeTcu rfl rfl⟩
    · rw [hhead, ht]
      rfl
    · rw [hhead, ht]
      rfl
    · rw [hhead, ht]
      exact noticedHead_stale hs hn
    · rw [hpmu]
      rfl
    · rw [hpmu]
      rfl

end Sys2Proof.Machine

end

section

namespace Sys2Proof.Machine

/-! ## A result is handed (R73, R83) -/

/-- A result that nobody looks at, with no transaction kept back, changes nothing (R93). -/
theorem handResult_discarded {t : Txn} (result : TxnResult) (data : List Byte) {s : State} (ht : t.purpose = .discarded)
    (hk : s.gbc.held = .both []) : handResult t result data s = s := by
  obtain ⟨q, _, _, _, _, _, _⟩ := t
  subst ht
  cases q with
  | pilTag => rfl
  | pmu side => simp [handResult, pmuResult, placeKept, hk]

/-- The works a transaction of a head can serve. -/
def Txn.serves (t : Txn) (w : Work) : Prop :=
  t.purpose = .mode w ∨ t.purpose = .command w ∨ t.purpose = .stateRead w ∨ t.purpose = .blockRead w

/-- A result other than OK ends the work FAILED(BUS) (R83). -/
theorem pmuResult_failed {t : Txn} {w : Work} (ht : t.serves w) (side : Side) {result : TxnResult} (data : List Byte)
    (hr : result ≠ .ok) (s : State) : pmuResult side t.purpose result data s = workFailed w .bus side s := by
  cases result with
  | ok => exact absurd rfl hr
  | _ => obtain h | h | h | h := ht <;> rw [h] <;> rfl

theorem handResult_pmu {t : Txn} {side : Side} (ht : t.requester = .pmu side) (result : TxnResult) (data : List Byte)
    (s : State) : handResult t result data s = placeKept (.pmu side) (pmuResult side t.purpose result data s) := by
  unfold handResult
  rw [ht]

/-- The work that a transaction of a head served has ended FAILED with its reason. -/
structure WorkEnded (w : Work) (reason : Reason) (side : Side) (s t : State) : Prop where
  sweep : w = .sweep → sweepRunning s = true → t.pmu.phase = .idle ∧ t.pmu.lastSweep = .failed reason
  reference : w = .reference → referenceRunning side s = true →
    (t.pmu.head.get side).reference = .idle ∧ (t.pmu.head.get side).lastReference = .failed reason
  sst : t.sst = s.sst

theorem WorkEnded.after {w : Work} {reason : Reason} {side : Side} {s t u : State} (h : WorkEnded w reason side s t)
    (hp : u.pmu = t.pmu) (hs : u.sst = t.sst) : WorkEnded w reason side s u where
  sweep := fun hw hr => hp ▸ h.sweep hw hr
  reference := fun hw hr => hp ▸ h.reference hw hr
  sst := hs.trans h.sst

theorem WorkEnded.since {w : Work} {reason : Reason} {side : Side} {s t u : State} (h : WorkEnded w reason side s t)
    (hr : sweepRunning u = sweepRunning s) (hf : referenceRunning side u = referenceRunning side s) (hs : u.sst = s.sst) :
    WorkEnded w reason side u t where
  sweep := fun hw h1 => h.sweep hw (hr ▸ h1)
  reference := fun hw h1 => h.reference hw (hf ▸ h1)
  sst := h.sst.trans hs.symm

theorem workFailed_ends (w : Work) (reason : Reason) (side : Side) (s : State) :
    WorkEnded w reason side s (workFailed w reason side s) where
  sweep := fun hw hr => by
    subst hw
    exact ⟨(sweepFail_pmu hr).1, (sweepFail_pmu hr).2.1⟩
  reference := fun hw hr => by
    subst hw
    exact referenceFailed_outcome hr
  sst := by
    cases w
    · exact (kept_sweepFail (keep := { gbc := true, pmu := true, tpe := true, tcu := true, spindle := true, ahs := true })
        reason rfl rfl rfl rfl rfl rfl (.refl _ s)).sst rfl
    · exact (kept_referenceFailed (keep := { fmu := true, gbc := true, pmu := true, tcu := true }) reason side
        rfl rfl rfl rfl (.refl _ s)).sst rfl

/-- Work that ends FAILED leaves the calibration (R101). -/
theorem workFailed_calibration (w : Work) (reason : Reason) (side : Side) (s : State) :
    ((workFailed w reason side s).pmu.head.get side).calibration = (s.pmu.head.get side).calibration := by
  cases w with
  | sweep =>
    show ((sweepFail reason s).pmu.head.get side).calibration = _
    rw [sweepFail_pmuHead]
  | reference =>
    show ((endReference side _ s).pmu.head.get side).calibration = _
    rw [endReference_pmu]
    split
    · rw [Sides.get_set_same]
    · rfl

theorem placeKept_kept (q : Requester) (s : State) : Kept { gbc := true } s (placeKept q s) := kept_placeKept q rfl (.refl _ s)

/-- A failed result of a head's transaction ends its work (R83). -/
theorem handResult_failed {t : Txn} {w : Work} {side : Side} (hq : t.requester = .pmu side) (ht : t.serves w)
    {result : TxnResult} (data : List Byte) (hr : result ≠ .ok) (s : State) :
    WorkEnded w .bus side s (handResult t result data s) := by
  rw [handResult_pmu hq, pmuResult_failed ht side data hr]
  have k := placeKept_kept (.pmu side) (workFailed w .bus side s)
  exact (workFailed_ends w .bus side s).after (k.pmu rfl) (k.sst rfl)

/-! ## A transaction ends (R72, R73) -/

/-- The part with the front record out of the queue and the bus IDLE, before its result is handed. -/
def freed (s : State) : State :=
  (dropFront s).modGbc fun g => { g with bus := .idle, run := none, clockHeld := false, waitTimer := none }

theorem begun_none {g : Gbc} (h : g.run = none) : begun g = busWith g.queue g := by
  unfold begun busWith
  rw [h]
  rfl

theorem endTransaction_eq {t : Txn} {rest : List Txn} {s : State} (hq : s.gbc.queue = t :: rest) (result : TxnResult)
    (data : List Byte) : endTransaction result data s = beginOldest (handResult t result data (freed s)) := by
  unfold endTransaction
  rw [hq]
  rfl

/-- At the end of a transaction the bus takes up the queue that the requester leaves (R68, R73). -/
theorem endTransaction_gbc {t : Txn} {rest : List Txn} {s : State} (hq : s.gbc.queue = t :: rest) (result : TxnResult)
    (data : List Byte) :
    endTransaction result data s = { handResult t result data (freed s) with gbc :=
      { busWith (handResult t result data (freed s)).gbc.queue s.gbc with
        held := (handResult t result data (freed s)).gbc.held, clockHeld := false, waitTimer := none } } := by
  have h : QueuesOnly (freed s) (handResult t result data (freed s)) :=
    (steady_queuesOnly _).handResult t result data (.refl _)
  have hidle : (handResult t result data (freed s)).gbc.bus = .idle := by rw [h]; rfl
  have hrun : (handResult t result data (freed s)).gbc.run = none := by rw [h]; rfl
  rw [endTransaction_eq hq, beginOldest_idle hidle, begun_none hrun]
  congr 1
  exact (congrArg (busWith (handResult t result data (freed s)).gbc.queue) h).trans rfl

/-- The end of a transaction whose result is not looked at. -/
theorem endTransaction_discarded {t : Txn} {rest : List Txn} {s : State} (hq : s.gbc.queue = t :: rest)
    (result : TxnResult) (data : List Byte) (ht : t.purpose = .discarded) (hk : s.gbc.held = .both []) :
    endTransaction result data s =
      { s with gbc := { busWith rest s.gbc with clockHeld := false, waitTimer := none } } := by
  rw [endTransaction_gbc hq, handResult_discarded (s := freed s) result data ht hk]
  unfold freed dropFront State.modGbc busWith
  simp only [hq, List.drop_succ_cons, List.drop_zero]

/-- The works of a head stand in `x` as they stand in `s`. -/
structure SameWork (side : Side) (s x : State) : Prop where
  sweep : sweepRunning s = sweepRunning x
  reference : referenceRunning side s = referenceRunning side x
  calibration : (x.pmu.head.get side).calibration = (s.pmu.head.get side).calibration
  sst : s.sst = x.sst

/-- The end of a transaction whose result ends the work of its head. -/
theorem endTransaction_worked {t : Txn} {rest : List Txn} {w : Work} {reason : Reason} {side : Side} {s x : State}
    {result : TxnResult} {data : List Byte} (hq : s.gbc.queue = t :: rest)
    (hx : handResult t result data (freed s) = placeKept (.pmu side) (workFailed w reason side x))
    (hw : SameWork side s x) :
    WorkEnded w reason side s (endTransaction result data s) ∧
    ((endTransaction result data s).pmu.head.get side).calibration = (s.pmu.head.get side).calibration := by
  have k := kept_beginOldest rfl (placeKept_kept (.pmu side) (workFailed w reason side x))
  rw [endTransaction_eq hq, hx]
  refine ⟨((workFailed_ends w reason side x).after (k.pmu rfl) (k.sst rfl)).since hw.sweep hw.reference hw.sst, ?_⟩
  rw [k.pmu rfl, workFailed_calibration, hw.calibration]

/-- The end of a transaction that served a head with a result other than OK. -/
theorem endTransaction_failed {t : Txn} {rest : List Txn} {w : Work} {side : Side} {s : State}
    (hq : s.gbc.queue = t :: rest) (hp : t.requester = .pmu side) (ht : t.serves w) {result : TxnResult} (data : List Byte)
    (hr : result ≠ .ok) :
    WorkEnded w .bus side s (endTransaction result data s) ∧
    ((endTransaction result data s).pmu.head.get side).calibration = (s.pmu.head.get side).calibration :=
  endTransaction_worked hq ((handResult_pmu hp ..).trans (congrArg _ (pmuResult_failed ht side data hr _)))
    ⟨rfl, rfl, rfl, rfl⟩

theorem transactionEnd_closing {r : Run} {result : TxnResult} {s : State} (hb : s.gbc.bus = .running)
    (hr : s.gbc.run = some r) (hp : r.phase = .closing) (hres : r.result = some result) (hc : s.gbc.clockHeld = false) :
    transactionEnd s = endTransaction result (if result = .ok then r.received else []) s := by
  unfold transactionEnd
  rw [hc, hb, hr]
  dsimp only
  rw [hp, hres]
  rfl

theorem transactionEnd_recovering {s : State} (hb : s.gbc.bus = .recovering) (hc : s.gbc.clockHeld = false) :
    transactionEnd s = endTransaction .waitTimeout [] (sendRecovery [.stop] s) := by
  unfold transactionEnd
  rw [hc, hb]
  rfl

end Sys2Proof.Machine

end

section

namespace Sys2Proof.Machine

/-! ## The clock held, and the recovery (R72) -/

theorem clockHold_running {s : State} (h : s.gbc.bus = .running) :
    clockHold s = s.modGbc fun g => { g with clockHeld := true, waitTimer := some 25 } := if_pos h

theorem clockRelease_idle {s : State} (h : s.gbc.bus ≠ .recovering ∨ s.gbc.clockHeld = false) :
    clockRelease s = s.modGbc fun g => { g with clockHeld := false, waitTimer := none } := by
  unfold clockRelease
  rw [if_neg fun hc => h.elim (absurd hc.1) fun hf => Bool.noConfusion (hf.symm.trans hc.2)]

theorem clockRelease_recovering {s : State} (hb : s.gbc.bus = .recovering) (hc : s.gbc.clockHeld = true) :
    clockRelease s = s.modGbc fun g => { g with
      clockHeld := false, waitTimer := none, recovery := g.recovery ++ List.replicate 9 .pulse } := by
  unfold clockRelease
  rw [if_pos ⟨hb, hc⟩]
  rfl

theorem waitExpiry_held {s : State} (hb : s.gbc.bus = .running) (ht : s.gbc.waitTimer.isSome = true)
    (hc : s.gbc.clockHeld = true) :
    waitExpiry s = s.modGbc fun g => { g with bus := .recovering, run := none, waitTimer := none, recovery := [] } :=
  if_pos ⟨hb, ht, hc⟩

theorem waitExpiry_free {s : State} (h : s.gbc.clockHeld = false) : waitExpiry s = s :=
  if_neg fun hc => Bool.noConfusion (h.symm.trans hc.2.2)

/-- At the end of a recovery the STOP stands behind its clock pulses, and the bus is RECOVERING no more (R72). -/
theorem transactionEnd_recovery {t : Txn} {rest : List Txn} {s : State} (hb : s.gbc.bus = .recovering)
    (hc : s.gbc.clockHeld = false) (hq : s.gbc.queue = t :: rest) :
    (transactionEnd s).gbc.recovery = s.gbc.recovery ++ [.stop] ∧ (transactionEnd s).gbc.bus ≠ .recovering := by
  rw [transactionEnd_recovering hb hc, endTransaction_gbc (s := sendRecovery [.stop] s) hq]
  refine ⟨rfl, ?_⟩
  show (if _ then _ else _) ≠ _
  split <;> exact BusState.noConfusion

/-! ## Losses of arbitration and unexpected conditions (R74 to R76) -/

/-- The bus OBSERVING what the other master sends, the record still at the front of the queue. -/
def lossObserved (o : Observation) (s : State) : State := observe o (s.modGbc fun g => { g with clockHeld := false })

section Loss

variable {t : Txn} {rest : List Txn} {r : Run} {s : State}

theorem arbitrationLoss_compared {o : Observation} (hb : s.gbc.bus = .running) (hr : s.gbc.run = some r)
    (hq : s.gbc.queue = t :: rest) (ho : lossObservation t r.phase = some o) :
    arbitrationLoss s = retryFront (lossObserved o s) := by
  unfold arbitrationLoss
  rw [hb, hr, hq]
  dsimp only
  rw [ho]
  rfl

theorem arbitrationLoss_uncompared (hb : s.gbc.bus = .running) (hr : s.gbc.run = some r)
    (hq : s.gbc.queue = t :: rest) (hp : r.phase = .read ∨ r.phase = .closing) : arbitrationLoss s = s := by
  have hnone : lossObservation t r.phase = none := by rcases hp with hp | hp <;> rw [hp] <;> rfl
  unfold arbitrationLoss
  rw [hb, hr, hq]
  dsimp only
  rw [hnone]

/-- An unexpected condition in a transaction is a loss, whose observation a STOP ends at once (R76). -/
theorem unexpectedCondition_running (hb : s.gbc.bus = .running) (hr : s.gbc.run = some r) (hq : s.gbc.queue = t :: rest) :
    unexpectedCondition .start s = retryFront (lossObserved ⟨true, .both false, true⟩ s) ∧
    unexpectedCondition .stop s =
      foreignStopTaken (retryFront (lossObserved (unexpectedObservation t r.phase .stop) s)) := by
  unfold unexpectedCondition
  rw [hb, hr, hq]
  exact ⟨rfl, rfl⟩

/-- In the recovery it ends the transaction WAIT_TIMEOUT (R72, R76). -/
theorem unexpectedCondition_recovering (hb : s.gbc.bus = .recovering) (hq : s.gbc.queue = t :: rest) :
    unexpectedCondition .start s =
      handResult t .waitTimeout [] (lossObserved ⟨true, .both false, true⟩ (dropFront s)) ∧
    unexpectedCondition .stop s = endTransaction .waitTimeout [] s := by
  unfold unexpectedCondition
  rw [hb, hq]
  exact ⟨rfl, rfl⟩

theorem dropFront_eq (hq : s.gbc.queue = t :: rest) : dropFront s = s.modGbc fun g => { g with queue := rest } := by
  unfold dropFront State.modGbc
  dsimp only
  rw [hq]
  rfl

theorem retryFront_lost (hq : s.gbc.queue = t :: rest) (h : 3 ≤ t.retries) :
    retryFront s = handResult t .lost [] (dropFront s) := by
  unfold retryFront
  rw [hq]
  exact if_neg (by simpa [Config.maxRetries] using h)

theorem retryFront_retried (hq : s.gbc.queue = t :: rest) (h : t.retries < 3) :
    retryFront s = s.modGbc fun g => { g with queue := { t with retries := t.retries + 1 } :: rest } := by
  unfold retryFront
  rw [hq]
  exact if_pos h

/-- What a loss leaves of the queue where no requester hears of it: the front record with one retry more, or the rest. -/
def LossLeaves (t : Txn) (rest : List Txn) (held : Sides (List Txn)) (queue : List Txn) : Prop :=
  t.retries < 3 ∧ queue = { t with retries := t.retries + 1 } :: rest ∨
  3 ≤ t.retries ∧ t.purpose = .discarded ∧ held = .both [] ∧ queue = rest

theorem retryFront_leaves {queue : List Txn} (hq : s.gbc.queue = t :: rest) (hl : LossLeaves t rest s.gbc.held queue) :
    retryFront s = s.modGbc fun g => { g with queue := queue } := by
  rcases hl with ⟨h, rfl⟩ | ⟨h, hp, hk, rfl⟩
  · exact retryFront_retried hq h
  · rw [retryFront_lost hq h, handResult_discarded (s := dropFront s) .lost [] hp hk]
    exact dropFront_eq hq

theorem retryFront_queues (b : State) (h : QueuesOnly b s) (hq : s.gbc.queue = t :: rest) : QueuesOnly b (retryFront s) := by
  by_cases hl : t.retries < 3
  · rw [retryFront_retried hq hl]
    exact h.queues _ rfl
  · rw [retryFront_lost hq (by omega)]
    exact (steady_queuesOnly b).handResult t .lost [] (h.queues _ rfl)

/-- The record of the phases in which bits are compared. -/
theorem lossObservation_own (t : Txn) (next : Bool) :
    noteAddress t.address ⟨true, .both false, next⟩ =
      ⟨true, ⟨decide (t.address = 0x31), decide (t.address = 0x32)⟩, next⟩ := by
  rw [noteAddress_addressed, beq_eq_decide, beq_eq_decide]
  rfl

/-- The head that an unexpected STOP hands a notice: the one that the part itself has addressed (R74, R79). -/
theorem unexpectedStop_told (t : Txn) (phase : RunPhase) (side : Side) :
    (!(unexpectedObservation t phase .stop).seen || (unexpectedObservation t phase .stop).addressed.get side) = true ↔
      (phase = .write ∨ phase = .turn) ∧
        (⟨decide (t.address = 0x31), decide (t.address = 0x32)⟩ : Sides Bool).get side = true := by
  unfold unexpectedObservation lossObservation
  cases phase <;> simp [lossObservation_own]

end Loss

/-- The part after a loss that no requester hears of. -/
def lossState (queue : List Txn) (o : Observation) (s : State) : State :=
  { s with gbc := { s.gbc with
    queue := queue, bus := .observing, run := none, clockHeld := false, waitTimer := none, observation := some o,
    foreignFlag := true, quietTimer := none } }

theorem retryFront_lossState {t : Txn} {rest queue : List Txn} {s : State} (o : Observation) (hq : s.gbc.queue = t :: rest)
    (hl : LossLeaves t rest s.gbc.held queue) : retryFront (lossObserved o s) = lossState queue o s :=
  retryFront_leaves (s := lossObserved o s) hq hl

theorem foreignStopTaken_observing {o : Observation} {s : State} (h : s.gbc.bus = .observing)
    (ho : s.gbc.observation = some o) : foreignStopTaken s = endObservation o s := by
  unfold foreignStopTaken
  rw [ho]
  exact if_pos h

/-- The STOP of an unexpected condition ends the observation that the loss has begun. -/
theorem foreignStopTaken_lost {t : Txn} {rest : List Txn} {s : State} (o : Observation) (hq : s.gbc.queue = t :: rest) :
    foreignStopTaken (retryFront (lossObserved o s)) = endObservation o (retryFront (lossObserved o s)) := by
  have h := retryFront_queues (lossObserved o s) (.refl _) hq
  exact foreignStopTaken_observing (by rw [h]; rfl) (by rw [h]; rfl)

/-! ### What a STOP after a loss leaves -/

/-- Whatever touches neither the locator, the lift and the clamps nor the turning unit keeps the locator at the end of the
step. -/
theorem close_pil_kept {m : Blocks} {s t : State} (h : settled s = true) (k : Kept m s t) (hpil : m.pil = false)
    (hbridge : m.bridge = false) (hlift : m.lift = false) (hclamp : m.clamp = false) (htcu : m.tcu = false)
    (hspindle : m.spindle = false) (before : State) : (close before t).pil = s.pil := by
  have hline : clearInputs t = clearInputs s := by
    unfold clearInputs bothBridges bothClamps
    rw [k.wholePil hpil hbridge, k.wholeBlu hlift hclamp, k.wholeTcu htcu hspindle]
  rw [close_pil, hline, k.wholePil hpil hbridge, ← reviewAll_pil, (settled_iff s).1 h]

/-! ## The works that a loss ends (R83) -/

/-- A head notice leaves ended work as it is. -/
theorem WorkEnded.noticed {w : Work} {reason : Reason} {side : Side} {s t : State} (h : WorkEnded w reason side s t)
    (o : Observation) : WorkEnded w reason side s (endObservation o t) := by
  obtain ⟨hpmu, hhead⟩ := endObservation_pmu o t
  refine ⟨fun hw hr => ?_, fun hw hr => ?_, ((endObservation_kept o t).sst rfl).trans h.sst⟩
  · rw [hpmu]
    exact h.sweep hw hr
  · obtain ⟨hidle, hlast⟩ := h.reference hw hr
    have hn : referenceRunning side t = false := by unfold referenceRunning; rw [hidle]; rfl
    rw [hhead]
    split
    · unfold noticedHead
      rw [hn]
      exact ⟨hidle, hlast⟩
    · exact ⟨hidle, hlast⟩

section LossFails

variable {t : Txn} {rest : List Txn} {w : Work} {side : Side} {s : State}

theorem retryFront_failed (hq : s.gbc.queue = t :: rest) (hp : t.requester = .pmu side) (ht : t.serves w)
    (h : 3 ≤ t.retries) (o : Observation) : WorkEnded w .bus side s (retryFront (lossObserved o s)) := by
  rw [retryFront_lost (s := lossObserved o s) hq h]
  exact (handResult_failed hp ht [] TxnResult.noConfusion _).since rfl rfl rfl

theorem unexpectedCondition_failed {r : Run} (hb : s.gbc.bus = .running) (hr : s.gbc.run = some r)
    (hq : s.gbc.queue = t :: rest) (hp : t.requester = .pmu side) (ht : t.serves w) (h : 3 ≤ t.retries) (c : BusCondition) :
    WorkEnded w .bus side s (unexpectedCondition c s) := by
  obtain ⟨hstart, hstop⟩ := unexpectedCondition_running hb hr hq
  cases c with
  | start =>
    rw [hstart]
    exact retryFront_failed hq hp ht h _
  | stop =>
    rw [hstop, foreignStopTaken_lost _ hq]
    exact (retryFront_failed hq hp ht h _).noticed _

theorem recovery_failed (hb : s.gbc.bus = .recovering) (hq : s.gbc.queue = t :: rest) (hp : t.requester = .pmu side)
    (ht : t.serves w) (c : BusCondition) : WorkEnded w .bus side s (unexpectedCondition c s) := by
  obtain ⟨hstart, hstop⟩ := unexpectedCondition_recovering hb hq
  cases c with
  | start =>
    rw [hstart]
    exact (handResult_failed hp ht [] TxnResult.noConfusion _).since rfl rfl rfl
  | stop =>
    rw [hstop]
    exact (endTransaction_failed hq hp ht [] TxnResult.noConfusion).1

end LossFails

/-- A command by whose effect the work has ended. -/
theorem exec_ended {i : Instr} {w : Work} {reason : Reason} {side : Side} {s : State}
    (h : WorkEnded w reason side s (effectOf i s)) :
    (w = .sweep → sweepRunning s = true →
      ∃ u, exec i s = .next u ∧ u.pmu.phase = .idle ∧ u.pmu.lastSweep = .failed reason) ∧
    (w = .reference → referenceRunning side s = true →
      ∃ u, exec i s = .next u ∧ (u.pmu.head.get side).reference = .idle ∧
        (u.pmu.head.get side).lastReference = .failed reason ∧ u.sst = s.sst) := by
  have hc : WorkEnded w reason side s (close s (effectOf i s)) := h.after (close_pmu ..) (close_sst ..)
  refine ⟨fun hw hr => ⟨_, exec_next i s, hc.sweep hw hr⟩, fun hw hr => ?_⟩
  obtain ⟨hidle, hlast⟩ := hc.reference hw hr
  exact ⟨_, exec_next i s, hidle, hlast, hc.sst⟩

/-- The end of an observation after a loss that no requester has heard of (R76, R79). -/
theorem exec_stopAfterLoss {t : Txn} {rest queue : List Txn} {r : Run} {s : State} (h : settled s = true)
    (hb : s.gbc.bus = .running) (hq : s.gbc.queue = t :: rest) (hr : s.gbc.run = some r)
    (hl : LossLeaves t rest s.gbc.held queue) (hn : anyReference s = false) :
    ∃ u, exec (.unexpectedStartStop .stop) s = .next u ∧
      u.gbc = { busWith queue s.gbc with
        clockHeld := false, waitTimer := none, observation := none, foreignFlag := true, quietTimer := some 1000 } ∧
      (∀ side, (u.pmu.head.get side).calibration =
        if (r.phase = .write ∨ r.phase = .turn) ∧
            (⟨decide (t.address = 0x31), decide (t.address = 0x32)⟩ : Sides Bool).get side = true then .stale
        else (s.pmu.head.get side).calibration) ∧
      u.pmu.phase = s.pmu.phase ∧ u.pmu.record = s.pmu.record ∧ u.pil = s.pil ∧ u.blu = s.blu ∧ u.tcu = s.tcu ∧
      u.tpe = s.tpe ∧ u.ahs = s.ahs ∧ u.sst = s.sst := by
  generalize ho : unexpectedObservation t r.phase .stop = o
  have hstate : effectOf (.unexpectedStartStop .stop) s = endObservation o (lossState queue o s) := by
    rw [show effectOf (.unexpectedStartStop .stop) s = _ from (unexpectedCondition_running hb hr hq).2, ho,
      foreignStopTaken_lost o hq, retryFront_lossState o hq hl]
  obtain ⟨_, hgbc⟩ := endObservation_idle o (s := lossState queue o s) hn
  obtain ⟨hpmu, hhead⟩ := endObservation_pmu o (lossState queue o s)
  have ks : Kept { gbc := true, pmu := true } s (endObservation o (lossState queue o s)) :=
    kept_beginOldest rfl (kept_handNotices_idle o rfl hn (kept_modGbc _ rfl (kept_modGbc (fun _ => (lossState queue o s).gbc)
      rfl (.refl _ s))))
  refine ⟨_, exec_next _ s, ?_⟩
  rw [hstate]
  simp only [close_gbc, close_pmu, close_tcu, close_blu, close_ahs, close_sst, close_tpe]
  refine ⟨hgbc.trans (begun_none rfl), fun side => ?_, ?_, ?_, close_pil_kept h ks rfl rfl rfl rfl rfl rfl s,
    ks.wholeBlu rfl rfl, ks.wholeTcu rfl rfl, ks.tpe rfl, ks.wholeAhs rfl rfl, ks.sst rfl⟩
  · rw [hhead, ← ho]
    by_cases hown : (r.phase = .write ∨ r.phase = .turn) ∧
        (⟨decide (t.address = 0x31), decide (t.address = 0x32)⟩ : Sides Bool).get side = true
    · rw [if_pos ((unexpectedStop_told t r.phase side).2 hown), if_pos hown]
      unfold noticedHead
      dsimp only
      split <;> rfl
    · rw [if_neg (mt (unexpectedStop_told t r.phase side).1 hown), if_neg hown]
      rfl
  · rw [hpmu]
    rfl
  · rw [hpmu]
    rfl

/-- A loss that no requester hears of (R74 to R76). -/
theorem exec_lossUnheard {t : Txn} {rest queue : List Txn} {r : Run} {s : State} (h : settled s = true)
    (hb : s.gbc.bus = .running) (hq : s.gbc.queue = t :: rest) (hr : s.gbc.run = some r)
    (hl : LossLeaves t rest s.gbc.held queue) :
    let own : Sides Bool := ⟨decide (t.address = 0x31), decide (t.address = 0x32)⟩
    (r.phase = .address →
      exec .arbitrationLoss s = .next (noted s (lossState queue ⟨true, .both false, true⟩ s))) ∧
    (r.phase = .write → exec .arbitrationLoss s = .next (noted s (lossState queue ⟨true, own, false⟩ s))) ∧
    (r.phase = .turn → exec .arbitrationLoss s = .next (noted s (lossState queue ⟨true, own, true⟩ s))) ∧
    exec (.unexpectedStartStop .start) s = .next (noted s (lossState queue ⟨true, .both false, true⟩ s)) := by
  have hloss : ∀ o, lossObservation t r.phase = some o →
      exec .arbitrationLoss s = .next (noted s (lossState queue o s)) := fun o ho =>
    exec_gbc h ((arbitrationLoss_compared hb hr hq ho).trans (retryFront_lossState o hq hl))
  refine ⟨fun hp => hloss _ ?_, fun hp => hloss _ ?_, fun hp => hloss _ ?_,
    exec_gbc h ((unexpectedCondition_running hb hr hq).1.trans (retryFront_lossState _ hq hl))⟩
  · rw [hp]
    rfl
  · rw [hp, ← lossObservation_own]
    rfl
  · rw [hp, ← lossObservation_own]
    rfl

/-- From the wait timer's expiry to the STOP that ends the recovery (R72). -/
theorem exec_recovery {t : Txn} {rest : List Txn} {s : State} (hb : s.gbc.bus = .running)
    (ht : s.gbc.waitTimer.isSome = true) (hc : s.gbc.clockHeld = true) (hq : s.gbc.queue = t :: rest) :
    ∃ u v w, exec .waitTimerExpiry s = .next u ∧ exec .clockRelease u = .next v ∧ exec .gaugeTransactionEnd v = .next w ∧
      u.gbc.bus = .recovering ∧ u.gbc.recovery = [] ∧ v.gbc.bus = .recovering ∧
      v.gbc.recovery = List.replicate 9 .pulse ∧ w.gbc.recovery = List.replicate 9 .pulse ++ [.stop] ∧
      w.gbc.bus ≠ .recovering := by
  have hu : (close s (effectOf .waitTimerExpiry s)).gbc =
      { s.gbc with bus := .recovering, run := none, waitTimer := none, recovery := [] } :=
    (close_gbc ..).trans (congrArg State.gbc (waitExpiry_held hb ht hc))
  refine ⟨_, _, _, exec_next .., exec_next .., exec_next .., ?_⟩
  generalize close s (effectOf .waitTimerExpiry s) = u at hu
  have hv : (close u (effectOf .clockRelease u)).gbc = { u.gbc with
      clockHeld := false, waitTimer := none, recovery := u.gbc.recovery ++ List.replicate 9 .pulse } :=
    (close_gbc ..).trans (congrArg State.gbc (clockRelease_recovering (by rw [hu]) (by rw [hu, ← hc])))
  generalize close u (effectOf .clockRelease u) = v at hv
  rw [hu] at hv
  obtain ⟨hrecovery, hbus⟩ := transactionEnd_recovery (s := v) (by rw [hv]) (by rw [hv]) (by rw [hv, ← hq])
  rw [close_gbc, hu, hv]
  exact ⟨rfl, rfl, rfl, rfl, hrecovery.trans (by rw [hv]; rfl), hbus⟩

/-- Settles O28: `lossState` is what a loss leaves where no requester hears of it; `WorkEnded` follows the work of a head
that the loss, or the recovery, ends. -/
theorem arbitrationIsLost : Obligations.ArbitrationIsLost := by
  unfold Obligations.ArbitrationIsLost
  refine ⟨fun s h => ⟨fun hb => exec_gbc_unflagged h (clockHold_running hb) rfl,
    fun hb => exec_gbc_unflagged h (clockRelease_idle hb) rfl,
    fun hb hc => exec_gbc_unflagged h (clockRelease_recovering hb hc) rfl,
    fun hb ht hc => exec_gbc_unflagged h (waitExpiry_held hb ht hc) rfl, fun hc => exec_same h (waitExpiry_free hc)⟩,
    fun s hb ht hc hq => ?_, fun t rest r s h hb hq hr => ⟨fun hl => ?_, fun hl ht hk => ?_, fun hp =>
      exec_same h (arbitrationLoss_uncompared hb hr hq hp)⟩, fun t rest s h hb hq ht hk => ?_,
    fun side t rest w s hq hp ht => ⟨fun r hb hr h3 => ⟨fun hphase => exec_ended ?_, fun c =>
      exec_ended (unexpectedCondition_failed hb hr hq hp ht h3 c)⟩, fun hb => ⟨fun hc => exec_ended ?_, fun c =>
      exec_ended (recovery_failed hb hq hp ht c)⟩⟩⟩
  · obtain ⟨t, rest, hq⟩ := List.exists_cons_of_ne_nil hq
    exact exec_recovery hb ht hc hq
  · have hleaves : LossLeaves t rest s.gbc.held _ := .inl ⟨hl, rfl⟩
    obtain ⟨haddress, hwrite, hturn, hstart⟩ := exec_lossUnheard h hb hq hr hleaves
    exact ⟨haddress, hwrite, hturn, hstart, exec_stopAfterLoss h hb hq hr hleaves⟩
  · have hleaves : LossLeaves t rest s.gbc.held rest := .inr ⟨hl, ht, hk, rfl⟩
    obtain ⟨haddress, hwrite, hturn, hstart⟩ := exec_lossUnheard h hb hq hr hleaves
    exact ⟨haddress, hwrite, hturn, hstart, exec_stopAfterLoss h hb hq hr hleaves⟩
  · obtain ⟨hstart, hstop⟩ := unexpectedCondition_recovering hb hq
    refine ⟨exec_gbc h (hstart.trans ?_), exec_gbc_unflagged h
      (hstop.trans (endTransaction_discarded hq .waitTimeout [] ht hk)) rfl⟩
    rw [dropFront_eq hq]
    exact handResult_discarded .waitTimeout [] ht hk
  · obtain ⟨o, ho⟩ : ∃ o, lossObservation t r.phase = some o := by
      rcases hphase with hphase | hphase | hphase <;> rw [hphase] <;> exact ⟨_, rfl⟩
    rw [show effectOf .arbitrationLoss s = _ from arbitrationLoss_compared hb hr hq ho]
    exact retryFront_failed hq hp ht h3 o
  · rw [show effectOf .gaugeTransactionEnd s = _ from transactionEnd_recovering hb hc]
    have he := (endTransaction_failed (s := sendRecovery [.stop] s) hq hp ht (result := .waitTimeout) []
      TxnResult.noConfusion).1
    exact he.since rfl rfl rfl

end Sys2Proof.Machine

end

section

namespace Sys2Proof.Machine

/-! ## The oldest transaction runs to its end (R68, R73, R83, R84, R88, R101) -/

theorem beginOldest_eq (s : State) :
    beginOldest s =
      if s.gbc.bus = .idle ∧ s.gbc.queue ≠ [] then
        { s with gbc := { s.gbc with bus := .running, run := some ⟨.address, 0, [], none, [.start]⟩ } }
      else s := rfl

/-- What `txnEnding` says, taken apart. -/
theorem txnEnding_end {t : Txn} {rest : List Txn} {result : TxnResult} {data : List Byte} {s : State}
    (h : txnEnding s = some (t, rest, result, data)) :
    s.gbc.queue = t :: rest ∧ transactionEnd s = endTransaction result data s := by
  unfold txnEnding at h
  split at h
  · next r hb hq hr =>
    split at h
    · next res hp hres =>
      split at h
      · simp at h
      · next hc =>
        simp only [Option.some.injEq, Prod.mk.injEq] at h
        obtain ⟨rfl, rfl, rfl, rfl⟩ := h
        exact ⟨hq, transactionEnd_closing hb hr hp hres (by simpa using hc)⟩
    · simp at h
  · simp at h

/-- A requester with nothing kept back places nothing. -/
theorem placeKept_none {side : Side} {s : State} (h : s.gbc.held.get side = []) : placeKept (.pmu side) s = s := by
  simp [placeKept, h]

/-- The gauge bus IDLE with a queue, at the end of a transaction. -/
def freedGbc (queue : List Txn) (g : Gbc) : Gbc :=
  { g with queue := queue, bus := .idle, run := none, clockHeld := false, waitTimer := none }

theorem freed_eq {t : Txn} {rest : List Txn} {s : State} (hq : s.gbc.queue = t :: rest) :
    freed s = { s with gbc := freedGbc rest s.gbc } := by
  unfold freed
  rw [dropFront_eq hq]
  rfl

section Freed

variable {side : Side} {rest : List Txn} {u : State} {g : Gbc}

/-- A head that has room in its quota and keeps nothing back places its transaction (R67). -/
theorem place_freed {x : Txn} (hx : x.requester = .pmu side) (hk : g.held = .both [])
    (hroom : (rest.filter fun y => y.requester == .pmu side).length < 2) :
    place x { u with gbc := freedGbc rest g } = { u with gbc := freedGbc (rest ++ [x]) g } :=
  place_head (s := { u with gbc := freedGbc rest g }) hx hroom (by
    show g.held.get side = []
    rw [hk, Sides.get_both])

theorem filter_none (h : (rest.all fun y => y.requester != .pmu side) = true) :
    (rest.filter fun y => y.requester == .pmu side) = [] := by
  refine List.filter_eq_nil_iff.2 fun y hy => ?_
  simpa using List.all_eq_true.1 h y hy

theorem place_freed_one {x : Txn} (hx : x.requester = .pmu side) (hk : g.held = .both [])
    (h : (rest.all fun y => y.requester != .pmu side) = true) :
    place x { u with gbc := freedGbc rest g } = { u with gbc := freedGbc (rest ++ [x]) g } :=
  place_freed hx hk (by rw [filter_none h]; decide)

/-- Two transactions of a head that has none in the queue are both placed (R67). -/
theorem place_freed_two {x y : Txn} (hx : x.requester = .pmu side) (hy : y.requester = .pmu side)
    (hk : g.held = .both []) (h : (rest.all fun y => y.requester != .pmu side) = true) :
    place y (place x { u with gbc := freedGbc rest g }) = { u with gbc := freedGbc (rest ++ [x, y]) g } := by
  rw [place_freed_one hx hk h, place_freed hy hk, List.append_assoc]
  · rfl
  · rw [List.filter_append, filter_none h]
    exact Nat.lt_succ_of_le (List.length_filter_le ..)

end Freed

/-! ### The results of the reads (R83, R84) -/

/-- What a state read tells: the last reach code and the overtravel condition (R84). -/
def reachSeen (side : Side) (flags : Byte) (s : State) : State :=
  handCondition (overtravelOf side) (decide (flags.toNat % 4 = 3))
    (modPmuHead side (fun h => { h with lastReach := some (flags.toNat % 4) }) s)

theorem stateRead_eq (w : Work) (side : Side) (available flags : Byte) (s : State) :
    stateRead w side available flags s =
      if flags.getLsbD 6 then workFailed w .overrun side (reachSeen side flags s)
      else if available ≠ 0#8 then place (blockReadTxn side (min 16 available.toNat) w) (reachSeen side flags s)
      else if flags.getLsbD 7 then listComplete w (flags.toNat % 4) side (reachSeen side flags s)
      else place (stateReadTxn side w) (reachSeen side flags s) := rfl

/-- The list a block read goes to, as it stands before. -/
def listOf (profile : Bool) (side : Side) (s : State) : List Sample :=
  if profile then (s.pmu.head.get side).profile else (s.pmu.head.get side).ring

def listCapacity (profile : Bool) : Nat := if profile then 256 else 128

/-- A head with a list in place of the one a block read goes to. -/
def withList (profile : Bool) (list : List Sample) (h : PmuHead) : PmuHead :=
  if profile then { h with profile := list } else { h with ring := list }

/-- The samples that are appended, and whether they fit (R83). -/
theorem appendSamples_eq (profile : Bool) (samples : List Sample) (side : Side) (s : State) :
    modPmuHead side (appendSamples profile samples) s =
      modPmuHead side (withList profile ((listOf profile side s ++ samples).take (listCapacity profile))) s ∧
    overruns profile samples (s.pmu.head.get side) =
      decide (listCapacity profile < (listOf profile side s ++ samples).length) := by
  cases profile <;> exact ⟨rfl, decide_eq_decide.2 (by rw [List.length_append]; rfl)⟩

theorem blockRead_eq (w : Work) (side : Side) (data : List Byte) (s : State) {profile : Bool}
    (hp : takesProfile w s = profile) :
    let list := listOf profile side s ++ samplesOf (!profile) data
    blockRead w side data s =
      if listCapacity profile < list.length then
        workFailed w .overrun side (modPmuHead side (withList profile (list.take (listCapacity profile))) s)
      else place (stateReadTxn side w) (modPmuHead side (withList profile list) s) := by
  obtain ⟨happend, hover⟩ := appendSamples_eq profile (samplesOf (!profile) data) side s
  unfold blockRead
  dsimp only
  rw [hp, happend, hover]
  by_cases hfull : listCapacity profile < (listOf profile side s ++ samplesOf (!profile) data).length
  · rw [if_pos hfull, if_pos (decide_eq_true hfull)]
  · rw [if_neg hfull, if_neg (by simpa using hfull), List.take_of_length_le (Nat.le_of_not_lt hfull)]

/-! ### The end of a head's transaction -/

/-- A head whose reference sweep and calibration an update leaves. -/
theorem sameWork_modPmuHead {side : Side} {s x : State} (h : SameWork side s x) (f : PmuHead → PmuHead)
    (hf : (f (x.pmu.head.get side)).reference = (x.pmu.head.get side).reference ∧
      (f (x.pmu.head.get side)).calibration = (x.pmu.head.get side).calibration) :
    SameWork side s (modPmuHead side f x) where
  sweep := h.sweep
  reference := by
    rw [h.reference]
    unfold referenceRunning modPmuHead
    rw [State.modPmu_pmu, Sides.get_set_same, hf.1]
  calibration := by
    rw [← h.calibration]
    unfold modPmuHead
    rw [State.modPmu_pmu, Sides.get_set_same, hf.2]
  sst := h.sst

theorem sameWork_freed (side : Side) (s : State) : SameWork side s (freed s) := ⟨rfl, rfl, rfl, rfl⟩

theorem sameWork_reachSeen (side : Side) (flags : Byte) (s : State) : SameWork side s (reachSeen side flags (freed s)) :=
  let h := sameWork_modPmuHead (sameWork_freed side s) (fun h => { h with lastReach := some (flags.toNat % 4) }) ⟨rfl, rfl⟩
  ⟨h.sweep, h.reference, h.calibration, h.sst⟩

theorem sameWork_withList (side : Side) (profile : Bool) (list : List Sample) (s : State) :
    SameWork side s (modPmuHead side (withList profile list) (freed s)) :=
  sameWork_modPmuHead (sameWork_freed side s) _ (by cases profile <;> exact ⟨rfl, rfl⟩)

section Ends

variable {t : Txn} {rest : List Txn} {result : TxnResult} {data : List Byte} {side : Side} {s : State}

/-- A transaction of a head ends, its requester leaving the queue `queue` and doing `u` beside it. -/
theorem exec_ended_placing {queue : List Txn} {u : State} (h : txnEnding s = some (t, rest, result, data))
    (hp : t.requester = .pmu side) (hk : s.gbc.held = .both [])
    (hu : pmuResult side t.purpose result data { s with gbc := freedGbc rest s.gbc } =
      { u with gbc := freedGbc queue s.gbc }) :
    exec .gaugeTransactionEnd s =
      .next (close s { u with gbc := { busWith queue s.gbc with clockHeld := false, waitTimer := none } }) := by
  obtain ⟨hq, hend⟩ := txnEnding_end h
  have hh : handResult t result data (freed s) = { u with gbc := freedGbc queue s.gbc } := by
    rw [handResult_pmu hp, freed_eq hq, hu, placeKept_none]
    show s.gbc.held.get side = []
    rw [hk, Sides.get_both]
  rw [exec_next, show effectOf .gaugeTransactionEnd s = _ from hend, endTransaction_gbc hq, hh]
  rfl

/-- A transaction of a head ends, and with it the work that it served. -/
theorem exec_ended_failing {w : Work} {reason : Reason} {x : State} (h : txnEnding s = some (t, rest, result, data))
    (hp : t.requester = .pmu side)
    (hx : pmuResult side t.purpose result data (freed s) = workFailed w reason side x) (hw : SameWork side s x) :
    (w = .sweep → sweepRunning s = true →
      ∃ u, exec .gaugeTransactionEnd s = .next u ∧ u.pmu.phase = .idle ∧ u.pmu.lastSweep = .failed reason) ∧
    (w = .reference → referenceRunning side s = true →
      ∃ u, exec .gaugeTransactionEnd s = .next u ∧ (u.pmu.head.get side).reference = .idle ∧
        (u.pmu.head.get side).lastReference = .failed reason ∧
        (u.pmu.head.get side).calibration = (s.pmu.head.get side).calibration ∧ u.sst = s.sst) := by
  obtain ⟨hq, hend⟩ := txnEnding_end h
  obtain ⟨hended, hcal⟩ := endTransaction_worked hq ((handResult_pmu hp ..).trans (congrArg _ hx)) hw
  rw [← show effectOf .gaugeTransactionEnd s = _ from hend] at hended hcal
  have hc : WorkEnded w reason side s (close s (effectOf .gaugeTransactionEnd s)) :=
    hended.after (close_pmu ..) (close_sst ..)
  rw [← close_pmu s] at hcal
  refine ⟨fun hw hr => ⟨_, exec_next .., hc.sweep hw hr⟩, fun hw hr => ?_⟩
  obtain ⟨hidle, hlast⟩ := hc.reference hw hr
  exact ⟨_, exec_next .., hidle, hlast, hcal, hc.sst⟩

/-- A block read ends: its samples fit into their list, or the work fails (R83). -/
theorem blockRead_ends {w : Work} {profile : Bool} (h : txnEnding s = some (t, rest, .ok, data))
    (hp : t.requester = .pmu side) (hk : s.gbc.held = .both []) (ht : t.purpose = .blockRead w)
    (hrest : (rest.all fun y => y.requester != .pmu side) = true)
    (htakes : ∀ g : Gbc, takesProfile w { s with gbc := g } = profile) :
    let list := listOf profile side s ++ samplesOf (!profile) data
    (list.length ≤ listCapacity profile →
      exec .gaugeTransactionEnd s = .next (close s { modPmuHead side (withList profile list) s with gbc :=
        { busWith (rest ++ [stateReadTxn side w]) s.gbc with clockHeld := false, waitTimer := none } })) ∧
    (listCapacity profile < list.length →
      (w = .sweep → sweepRunning s = true →
        ∃ u, exec .gaugeTransactionEnd s = .next u ∧ u.pmu.phase = .idle ∧ u.pmu.lastSweep = .failed .overrun) ∧
      (w = .reference → referenceRunning side s = true →
        ∃ u, exec .gaugeTransactionEnd s = .next u ∧ (u.pmu.head.get side).reference = .idle ∧
          (u.pmu.head.get side).lastReference = .failed .overrun ∧
          (u.pmu.head.get side).calibration = (s.pmu.head.get side).calibration ∧ u.sst = s.sst)) := by
  refine ⟨fun hfits => exec_ended_placing h hp hk ?_, fun hfull =>
    exec_ended_failing h hp ?_ (sameWork_withList side profile
      ((listOf profile side s ++ samplesOf (!profile) data).take (listCapacity profile)) s)⟩
  · rw [ht]
    exact (blockRead_eq w side data _ (htakes _)).trans ((if_neg (Nat.not_lt.2 hfits)).trans
      (place_freed_one (u := modPmuHead side (withList profile _) s) rfl hk hrest))
  · rw [ht]
    exact (blockRead_eq w side data _ (htakes _)).trans (if_pos hfull)

end Ends

/-- Settles O25: the begin, the end of a transaction whose result is not looked at, and then the results of a head one by
one, those that place on by `exec_ended_placing`, those that end the work by `exec_ended_failing`. -/
theorem transactionsRun : Obligations.TransactionsRun := by
  unfold Obligations.TransactionsRun
  refine ⟨fun s h => ?_, fun t rest s h hq ht hk hc => ⟨fun ⟨r, hr, hp, hres, hb⟩ => ?_, fun hb => ?_⟩,
    fun side t rest result data s h hq hk hrest => ⟨fun hok => ?_, fun hres w ht =>
      exec_ended_failing h hq (pmuResult_failed ht side data hres _) (sameWork_freed side s)⟩⟩
  · split
    · next hi => exact exec_gbc_unflagged h ((beginOldest_eq s).trans (if_pos hi)) rfl
    · next hi => exact exec_same h ((beginOldest_eq s).trans (if_neg hi))
  · obtain ⟨result, hres⟩ := Option.isSome_iff_exists.1 hres
    exact exec_gbc_unflagged h ((transactionEnd_closing hb hr hp hres hc).trans
      (endTransaction_discarded hq result _ ht hk)) rfl
  · exact exec_gbc_unflagged h ((transactionEnd_recovering hb hc).trans
      (endTransaction_discarded (s := sendRecovery [.stop] s) hq .waitTimeout [] ht hk)) rfl
  · subst hok
    refine ⟨fun ht => ?_, fun ht => ?_, fun w ht => ?_, fun w available flags ht hdata => ⟨fun h6 => ?_, fun h6 hav => ?_,
      fun h6 hav h7 => ?_⟩, fun w ht => ⟨fun hw hphase => ?_, fun hw => ?_⟩⟩
    · exact exec_ended_placing h hq hk (by rw [ht]; rfl)
    · exact exec_ended_placing h hq hk (by rw [ht]; exact place_freed_two rfl rfl hk hrest)
    · exact exec_ended_placing h hq hk (by rw [ht]; rfl)
    · refine exec_ended_failing h hq ?_ (sameWork_reachSeen side flags s)
      rw [ht, hdata]
      exact (stateRead_eq ..).trans (if_pos h6)
    · refine exec_ended_placing h hq hk ?_
      rw [ht, hdata]
      exact (stateRead_eq ..).trans ((if_neg (ne_true_of_eq_false h6)).trans ((if_pos hav).trans
        (place_freed_one (u := reachSeen side flags s) rfl hk hrest)))
    · refine exec_ended_placing h hq hk ?_
      rw [ht, hdata]
      exact (stateRead_eq ..).trans ((if_neg (ne_true_of_eq_false h6)).trans ((if_neg (not_not.2 hav)).trans
        ((if_neg (ne_true_of_eq_false h7)).trans (place_freed_one (u := reachSeen side flags s) rfl hk hrest))))
    · have htakes : ∀ g : Gbc, takesProfile w { s with gbc := g } = true := fun g => by
        simp [takesProfile, hw, hphase]
      exact blockRead_ends h hq hk ht hrest htakes
    · have htakes : ∀ g : Gbc, takesProfile w { s with gbc := g } = false := fun g => by
        rcases hw with rfl | hphase
        · rfl
        · simp [takesProfile, hphase]
      exact blockRead_ends h hq hk ht hrest htakes

end Sys2Proof.Machine

end

section

namespace Sys2Proof.Machine

/-! ## The commit queue grows (R153, R164, R166) -/

/-- Of the history store only the commit queue differs, and it has lost nothing. -/
structure QueueGrows (s t : State) : Prop where
  ahs : t.ahs = { s.ahs with queue := t.ahs.queue }
  queue : s.ahs.queue ⊆ t.ahs.queue

theorem QueueGrows.refl (s : State) : QueueGrows s s := ⟨rfl, List.Subset.refl _⟩

theorem QueueGrows.trans {s t u : State} (h : QueueGrows s t) (k : QueueGrows t u) : QueueGrows s u :=
  ⟨by rw [k.ahs, h.ahs], List.Subset.trans h.queue k.queue⟩

theorem QueueGrows.openFind {s t : State} (h : QueueGrows s t) (id : AxleId) : openFind id t = openFind id s := by
  unfold Machine.openFind
  rw [h.ahs]

theorem queueGrows_queueCommit (id : AxleId) (s : State) : QueueGrows s (queueCommit id s) := by
  unfold queueCommit
  split
  · exact .refl s
  · split
    · exact .refl s
    · split
      · exact .refl s
      · exact ⟨rfl, List.subset_append_left ..⟩

/-- A record that is open and not being committed is queued. -/
theorem mem_queueCommit {id : AxleId} {o : OpenRecord} {s : State} (ho : openFind id s = some o)
    (hs : o.state ≠ .committing) : id ∈ (queueCommit id s).ahs.queue := by
  unfold queueCommit
  split
  · next h => exact List.contains_iff_mem.1 h
  · rw [ho]
    dsimp only
    rw [if_neg hs]
    exact List.mem_append_right _ (List.mem_singleton.2 rfl)

theorem queueGrows_queueAll (l : List OpenRecord) (s : State) :
    QueueGrows s (l.foldl (fun t o => queueCommit o.record.axleId t) s) := by
  induction l generalizing s with
  | nil => exact .refl s
  | cons o rest ih => exact (queueGrows_queueCommit _ s).trans (ih _)

theorem mem_queueAll {l : List OpenRecord} {o : OpenRecord} {s : State} (hl : o ∈ l)
    (ho : openFind o.record.axleId s = some o) (hs : o.state ≠ .committing) :
    o.record.axleId ∈ (l.foldl (fun t o => queueCommit o.record.axleId t) s).ahs.queue := by
  induction l generalizing s with
  | nil => exact absurd hl (List.not_mem_nil)
  | cons x rest ih =>
    rcases List.mem_cons.1 hl with rfl | hl
    · exact (queueGrows_queueAll rest _).queue (mem_queueCommit ho hs)
    · exact ih hl (((queueGrows_queueCommit _ s).openFind _).trans ho)

/-! ## An entry is appended (R144, R151) -/

theorem openFind_modOpen {id x : AxleId} {f : OpenRecord → OpenRecord} (hf : ∀ o, (f o).record.axleId = o.record.axleId)
    (s : State) : openFind x (modOpen id f s) = (openFind x s).map fun o => if x = id then f o else o := by
  unfold openFind modOpen
  rw [State.modAhs_ahs, List.find?_map]
  have hp : ((fun o : OpenRecord => o.record.axleId == x) ∘ fun o => if o.record.axleId == id then f o else o) =
      fun o => o.record.axleId == x := by
    funext o
    simp only [Function.comp_apply]
    split
    · rw [hf]
    · rfl
  rw [hp]
  refine Option.map_congr fun o ho => ?_
  have hx : o.record.axleId = x := by simpa using List.find?_some ho
  simp [hx]

/-- The open record with the entry, as an append leaves it. -/
def appended (body : EntryBody) (stamp : Stamp) (o : OpenRecord) : OpenRecord :=
  touch { o with record := appendEntry body stamp o.record }

theorem appended_record (body : EntryBody) (stamp : Stamp) (o : OpenRecord) :
    (appended body stamp o).record = appendEntry body stamp o.record := touch_record _

theorem appended_state (body : EntryBody) (stamp : Stamp) (o : OpenRecord) :
    (o.state ≠ .committing → (appended body stamp o).state = .dirty) ∧
    (o.state = .committing → (appended body stamp o).state = .committing ∧ (appended body stamp o).changed = true) := by
  obtain ⟨_, state, _⟩ := o
  cases state <;> simp [appended, touch]

/-- During the drain an append queues its record again (R166). -/
theorem appendTo_draining {id : AxleId} {body : EntryBody} {s : State} (h : s.slp.resetPending = true) :
    appendTo id body s = queueCommit id (modOpen id (appended body s.pil.stamp) s) := if_pos h

/-! ## RESET is taken (R136, R166, R179) -/

/-- RESET with the commits of the DIRTY records queued. -/
def resetQueued (s : State) : State := queueDirty (s.modSlp fun p => { p with resetPending := true })

/-- The turning that is PAUSED has handed its TURNED entry, INTERRUPTED. -/
def resetHanded (s : State) : State :=
  if turningPaused (resetQueued s) then handEntry (turnedEntry true (resetQueued s)) (resetQueued s) else resetQueued s

theorem takeReset_eq (s : State) : takeReset s = drainMarks (resetHanded s) := rfl

theorem resetQueued_kept (s : State) : Kept { ahs := true, slp := true } s (resetQueued s) :=
  kept_queueDirty rfl (kept_modSlp _ rfl (.refl _ s))

theorem resetQueued_pending (s : State) : (resetQueued s).slp = { s.slp with resetPending := true } :=
  (kept_queueDirty (keep := { ahs := true }) rfl (.refl _ _)).slp rfl

theorem resetQueued_grows (s : State) : QueueGrows s (resetQueued s) :=
  let h := queueGrows_queueAll (s.ahs.cache.filter fun o => o.state == .dirty)
    (s.modSlp fun p => { p with resetPending := true })
  ⟨h.ahs, h.queue⟩

/-- The DIRTY records are in the commit queue. -/
theorem mem_resetQueued {o : OpenRecord} {s : State} (hc : o ∈ s.ahs.cache) (hd : o.state = .dirty)
    (ho : openFind o.record.axleId s = some o) : o.record.axleId ∈ (resetQueued s).ahs.queue :=
  mem_queueAll (s := s.modSlp fun p => { p with resetPending := true })
    (List.mem_filter.2 ⟨hc, by simp [hd]⟩) ho (by simp [hd])

theorem turnedEntry_kept {m : Blocks} {s t : State} (k : Kept m s t) (htpe : m.tpe = false) (htcu : m.tcu = false)
    (hspindle : m.spindle = false) (interrupted : Bool) : turnedEntry interrupted t = turnedEntry interrupted s := by
  unfold turnedEntry depthCut planPasses passStatuses
  rw [k.tpe htpe, k.wholeTcu htcu hspindle]

/-- With a turning PAUSED, RESET appends its TURNED entry to the seated record. -/
theorem resetHanded_paused {s : State} (h : turningPaused s = true) {id : AxleId} (hid : seatedRecord s = some id) :
    resetHanded s = queueCommit id (modOpen id (appended (turnedEntry true s) s.pil.stamp) (resetQueued s)) := by
  have k := resetQueued_kept s
  have hp : turningPaused (resetQueued s) = true := by
    unfold turningPaused
    rw [k.wholeTcu rfl rfl]
    exact h
  have hs : seatedRecord (resetQueued s) = some id := by
    unfold seatedRecord
    rw [(resetQueued_grows s).ahs]
    exact hid
  unfold resetHanded handEntry
  rw [if_pos hp, hs, turnedEntry_kept k rfl rfl rfl, ← k.wholePil rfl rfl]
  exact appendTo_draining (by rw [resetQueued_pending])

theorem resetHanded_other {s : State} (h : turningPaused s = false ∨ seatedRecord s = none) :
    resetHanded s = resetQueued s := by
  unfold resetHanded
  split
  · next hp =>
    have hs : seatedRecord s = none := h.resolve_left fun hf => by
      unfold turningPaused at hp hf
      rw [(resetQueued_kept s).wholeTcu rfl rfl, hf] at hp
      exact Bool.noConfusion hp
    unfold handEntry seatedRecord
    rw [(resetQueued_grows s).ahs]
    unfold seatedRecord at hs
    split at hs
    · simp at hs
    · next h => simp [h]
    · next h => simp [h]
  · rfl

/-- The TURNED entry takes nothing out of the queue, and leaves the opening that waits. -/
theorem resetHanded_queue (s : State) :
    (resetQueued s).ahs.queue ⊆ (resetHanded s).ahs.queue ∧ (resetHanded s).ahs.opening = s.ahs.opening := by
  have hq : (resetQueued s).ahs.opening = s.ahs.opening := by rw [(resetQueued_grows s).ahs]
  unfold resetHanded
  split
  · unfold handEntry
    split
    · next id _ =>
      rw [appendTo_draining (by rw [resetQueued_pending])]
      have h := queueGrows_queueCommit id
        (modOpen id (appended (turnedEntry true (resetQueued s)) (resetQueued s).pil.stamp) (resetQueued s))
      exact ⟨h.queue, by rw [h.ahs]; exact hq⟩
    · exact ⟨List.Subset.refl _, hq⟩
  · exact ⟨List.Subset.refl _, hq⟩

/-! ### The marks of the drain (R166) -/

/-- The opening of a mark that waits is looked at only with the commit queue empty. -/
theorem drainMarks_still {s : State}
    (h : s.ahs.queue ≠ [] ∨ ∀ o, s.ahs.opening = some o → o.seating = true) : drainMarks s = s := by
  unfold drainMarks
  split
  · rfl
  · next o ho =>
    refine if_neg fun hc => ?_
    simp only [Bool.and_eq_true, drainStuck, List.isEmpty_iff, Bool.not_eq_true'] at hc
    obtain ⟨⟨hseat, _⟩, ⟨⟨_, hq⟩, _⟩, _⟩ := hc
    rcases h with h | h
    · exact h hq
    · rw [h o ho] at hseat
      exact Bool.noConfusion hseat

theorem makePlace_pil (s : State) : (makePlace s).pil = s.pil := by
  unfold makePlace
  split <;> rfl

/-- The opening of a mark seats no axle. -/
theorem markOpening_pil (id : AxleId) (s : State) : (beginOpening ⟨id, false, none, false⟩ s).pil = s.pil := by
  unfold beginOpening serveOpening
  dsimp only [State.modAhs_ahs]
  split
  · rfl
  · exact makePlace_pil _

theorem processMarks_pil (ms : List Mark) (s : State) : (processMarks ms s).pil = s.pil := by
  induction ms generalizing s with
  | nil => exact (kept_planReady (keep := { tpe := true }) rfl (.refl _ s)).wholePil rfl rfl
  | cons m rest ih =>
    unfold processMarks
    split
    · exact ih s
    · split
      · exact (ih _).trans ((kept_judgeMark (keep := { ahs := true }) m rfl (.refl _ s)).wholePil rfl rfl)
      · split
        · exact ih s
        · exact markOpening_pil _ _

theorem drainMarks_pil (s : State) : (drainMarks s).pil = s.pil := by
  unfold drainMarks
  split
  · rfl
  · split
    · exact processMarks_pil _ _
    · rfl

/-! ### What RESET leaves -/

/-- RESET touches the plan work and the open records alone, beside the link. -/
theorem takeReset_touches (s : State) :
    Kept { pil := true, tpe := true, ahs := true } (s.modSlp fun p => { p with resetPending := true }) (takeReset s) := by
  have kh : Kept { pil := true, tpe := true, ahs := true } (s.modSlp fun p => { p with resetPending := true })
      (resetHanded s) := by
    have kq : Kept { pil := true, tpe := true, ahs := true } (s.modSlp fun p => { p with resetPending := true })
      (resetQueued s) := kept_queueDirty rfl (.refl _ _)
    unfold resetHanded
    split
    · exact kept_handEntry _ rfl kq
    · exact kq
  exact kept_drainMarks rfl rfl rfl kh

theorem takeReset_pil (s : State) : (takeReset s).pil = s.pil := by
  rw [takeReset_eq, drainMarks_pil]
  have k := (resetQueued_kept s).wholePil rfl rfl
  unfold resetHanded
  split
  · exact ((kept_handEntry (keep := { ahs := true }) _ rfl (.refl _ _)).wholePil rfl rfl).trans k
  · exact k

/-- While records are queued, or no mark waits, the drain leaves what RESET has handed. -/
theorem takeReset_still {s : State} (h : (resetQueued s).ahs.queue ≠ [] ∨ ∀ o, s.ahs.opening = some o → o.seating = true) :
    takeReset s = resetHanded s := by
  obtain ⟨hqueue, hopening⟩ := resetHanded_queue s
  refine drainMarks_still (h.imp (fun hn he => hn ?_) fun hs o ho => hs o (hopening ▸ ho))
  exact List.subset_nil.1 (he ▸ hqueue)

/-- With a turning PAUSED no mark waits. -/
theorem paused_noMark {s : State} (hw : workLaw s = true) (hp : turningPaused s = true) :
    ∀ o, s.ahs.opening = some o → o.seating = true := by
  have hlaw := (workLaw_iff s).1 hw
  have hturn : turningInProgress s = true := by
    unfold turningPaused at hp
    unfold turningInProgress turningLive
    split at hp
    · next h => rw [h]; rfl
    · exact Bool.noConfusion hp
  intro o ho
  refine (hlaw.mark o ho).resolve_right fun hm => ?_
  have := (hlaw.plan (by simp [hm])).2
  rw [hturn] at this
  exact Bool.noConfusion this

/-- The commit of every DIRTY record is queued (R164, R166). -/
theorem takeReset_dirty {s : State} {o : OpenRecord} (hc : o ∈ s.ahs.cache) (hd : o.state = .dirty)
    (ho : openFind o.record.axleId s = some o) : o.record.axleId ∈ (takeReset s).ahs.queue := by
  have hm := mem_resetQueued hc hd ho
  rw [takeReset_still (.inl fun he => by rw [he] at hm; exact absurd hm List.not_mem_nil)]
  exact (resetHanded_queue s).1 hm

/-- The seated record of a turning that is PAUSED gets its TURNED entry, INTERRUPTED, and is queued (R136, R166). -/
theorem takeReset_turned {s : State} (hw : workLaw s = true) (hp : turningPaused s = true) {id : AxleId} {o : OpenRecord}
    (hid : seatedRecord s = some id) (ho : openFind id s = some o) :
    openFind id (takeReset s) = some (appended (turnedEntry true s) s.pil.stamp o) ∧
    (o.state ≠ .committing → id ∈ (takeReset s).ahs.queue) := by
  rw [takeReset_still (.inr (paused_noMark hw hp)), resetHanded_paused hp hid]
  have hopen : openFind id (modOpen id (appended (turnedEntry true s) s.pil.stamp) (resetQueued s)) =
      some (appended (turnedEntry true s) s.pil.stamp o) := by
    rw [openFind_modOpen (fun o => by simp [appended]), (resetQueued_grows s).openFind, ho]
    simp
  refine ⟨((queueGrows_queueCommit id _).openFind id).trans hopen, fun hn => mem_queueCommit hopen ?_⟩
  rw [(appended_state _ _ o).1 hn]
  exact CacheState.noConfusion

/-- The other open records stay, where no opening waits. -/
theorem takeReset_kept {s : State} (hn : s.ahs.opening = none) {id : AxleId}
    (h : ¬ (turningPaused s = true ∧ seatedRecord s = some id)) : openFind id (takeReset s) = openFind id s := by
  rw [takeReset_still (.inr fun o ho => by simp [hn] at ho)]
  have hq := (resetQueued_grows s).openFind id
  by_cases hp : turningPaused s = true
  · cases hid : seatedRecord s with
    | none => rw [resetHanded_other (.inr hid), hq]
    | some other =>
      have hne : id ≠ other := fun he => h ⟨hp, he ▸ hid⟩
      rw [resetHanded_paused hp hid, (queueGrows_queueCommit other _).openFind,
        openFind_modOpen (fun o => by simp [appended]), hq]
      simp [hne]
  · rw [resetHanded_other (.inl (by simpa using hp)), hq]

theorem exec_resetRefused {tag : Byte} {s : State} (h : ready s = true) (hr : resetRefused s = true) :
    exec (.reset tag) s = .next (repliedCode 0xCA#8 tag .busy s) := by
  obtain ⟨hs, hd⟩ := ready_iff.1 h
  refine exec_say_same 0x4A#8 rfl rfl hs hd ?_
  unfold resetRequest
  rw [hr]
  rfl

/-- The locator stays too, its line with it. -/
theorem resetTaken_pil {tag : Byte} {s : State} (h : settled s = true) :
    (close s (repliedCode 0xCA#8 tag .ok (takeReset s))).pil = s.pil := by
  have k := takeReset_touches s
  have hline : clearInputs (repliedCode 0xCA#8 tag .ok (takeReset s)) = clearInputs s := by
    show clearInputs (takeReset s) = _
    unfold clearInputs bothBridges bothClamps
    rw [takeReset_pil, k.wholeBlu rfl rfl, k.wholeTcu rfl rfl]
    rfl
  rw [close_pil, hline]
  show { (takeReset s).pil with clearToMove := clearInputs s } = s.pil
  rw [takeReset_pil, ← reviewAll_pil, (settled_iff s).1 h]

/-- RESET is taken: of the part the link, the plan work and the history store alone may differ (R179). -/
theorem exec_resetTaken {tag : Byte} {s : State} (h : ready s = true) (hr : resetRefused s = false) :
    ∃ t, exec (.reset tag) s = .next t ∧ t.pil = s.pil ∧ t.ahs = (takeReset s).ahs ∧
      t.slp.replySlot = some ⟨0xCA#8, tag, .fixed .ok []⟩ ∧ t.slp.resetPending = true ∧
      t.blu = s.blu ∧ t.pmu = s.pmu ∧ t.tcu = s.tcu ∧ t.sst = s.sst := by
  obtain ⟨hs, hd⟩ := ready_iff.1 h
  have hreq : resetRequest s = say .ok (takeReset s) := by
    unfold resetRequest
    rw [hr]
    rfl
  have k := takeReset_touches s
  refine ⟨_, exec_say 0x4A#8 rfl rfl hd hreq, resetTaken_pil hs, close_ahs .., ?_, ?_,
    (close_blu ..).trans (k.wholeBlu rfl rfl),
    (close_pmu ..).trans (k.pmu rfl), (close_tcu ..).trans (k.wholeTcu rfl rfl), (close_sst ..).trans (k.sst rfl)⟩
  · rw [close_slp]
    rfl
  · rw [close_slp]
    exact congrArg Slp.resetPending (k.slp rfl)

end Sys2Proof.Machine

end

section

namespace Sys2Proof.Machine

/-! ## What a head notice leaves of the tools (R139) -/

theorem sameTools_of_tcu {s t : State} (h : t.tcu = s.tcu) : SameTools s t := sameTools_of_head (by rw [h])

theorem SameTools.trans {s t u : State} (h : SameTools s t) (k : SameTools t u) : SameTools s u :=
  fun side => ⟨(k side).1.trans (h side).1, (k side).2.trans (h side).2⟩

theorem sameTools_modHead (side : Side) {f : Head → Head} (hf : ∀ h, (f h).feed = h.feed ∧ (f h).tools = h.tools)
    (s : State) : SameTools s (modHead side f s) := fun x => by
  obtain rfl | hx := eq_or_ne x side
  · rw [modHead_get]
    exact hf _
  · have hother : x = side.other := by
      revert hx
      cases x <;> cases side <;> decide
    rw [hother, show (modHead side f s).tcu.head.get side.other = s.tcu.head.get side.other from Sides.get_other_set ..]
    exact ⟨rfl, rfl⟩

theorem sameTools_releaseHead (side : Side) (s : State) : SameTools s (releaseHead side s) := by
  unfold releaseHead
  dsimp only
  split
  · exact sameTools_modHead side (f := fun h => { h with owner := .none }) (fun _ => ⟨rfl, rfl⟩) s
  · exact sameTools_of_tcu rfl

theorem sameTools_stowHead (side : Side) (s : State) : SameTools s (stowHead side s) := by
  unfold stowHead
  split
  · exact sameTools_of_tcu rfl
  · exact (sameTools_modHead side (f := fun h => { h with position := .parked, dest := some .stow })
      (fun _ => ⟨rfl, rfl⟩) s).trans (sameTools_of_tcu (place_tcu ..))

theorem sameTools_headNotice (side : Side) (s : State) : SameTools s (headNotice side s) := by
  unfold headNotice referenceFailed endReference
  split
  · refine SameTools.trans ?_ ((sameTools_stowHead side _).trans (sameTools_releaseHead side _))
    exact sameTools_of_tcu (abandon_tcu ..)
  · exact sameTools_of_tcu rfl

theorem sameTools_handNotices (o : Observation) (s : State) : SameTools s (handNotices o s) := by
  have hone : ∀ side u, SameTools u (noticeOf o side u) := fun side u => by
    unfold noticeOf
    split
    · exact sameTools_headNotice side u
    · exact sameTools_of_tcu rfl
  exact (hone .l s).trans (hone .r _)

/-! ## The notices of a link RESET (R80, R85) -/

theorem resetNotices_eq (s : State) :
    resetNotices s = match s.gbc.observation with
      | some o => handNotices { o with seen := true } s
      | none => s := by
  unfold resetNotices
  cases s.gbc.observation <;> rfl

theorem resetNotices_kept (s : State) : Kept { fmu := true, gbc := true, pmu := true, tcu := true } s (resetNotices s) := by
  rw [resetNotices_eq]
  split
  · exact kept_handNotices _ rfl rfl rfl rfl (.refl _ s)
  · exact .refl _ s

theorem resetNotices_tools (s : State) : SameTools s (resetNotices s) := by
  rw [resetNotices_eq]
  split
  · exact sameTools_handNotices _ s
  · exact sameTools_of_tcu rfl

/-- A notice makes its head STALE. -/
theorem noticedHead_calibration (side : Side) (s : State) : (noticedHead side s).calibration = .stale := by
  unfold noticedHead
  dsimp only
  split <;> rfl

/-- A link RESET makes the heads STALE that the observation in progress has seen addressed (R80, R85, log entry 38). -/
theorem resetNotices_calibration (s : State) (side : Side) :
    ((resetNotices s).pmu.head.get side).calibration =
      match s.gbc.observation with
      | some o => if o.addressed.get side then .stale else (s.pmu.head.get side).calibration
      | none => (s.pmu.head.get side).calibration := by
  rw [resetNotices_eq]
  split
  · next o _ =>
    rw [handNotices_head]
    show (if o.addressed.get side = true then _ else _ : PmuHead).calibration = _
    split
    · exact noticedHead_calibration side s
    · rfl
  · rfl

/-! ## What a reset leaves (R1, R9, R22, R40, R48, R80, R120, R122) -/

theorem bridgeAfterReset_state (w : BridgeSwitches) :
    (bridgeAfterReset w).state = match w.inMade, w.outMade with
      | true, false => .inLine
      | false, true => .out
      | _, _ => .halted := by
  obtain ⟨inMade, outMade⟩ := w
  cases inMade <;> cases outMade <;> rfl

theorem clampAfterReset_state (w : ClampSwitches) :
    (clampAfterReset w).state = match w.openMade, w.closedMade with
      | true, false => .opened
      | false, true => .closed
      | _, _ => .halted := by
  obtain ⟨openMade, closedMade⟩ := w
  cases openMade <;> cases closedMade <;> rfl

section Rebuilt

variable (x : FieldLines) (sst : Sst) (tools : Sides ToolCounters) (calibration : Sides Calibration) (ahs : Ahs)
  (rate : Rate) (pending : List Instr)

/-- After a reset each monitor is as at its reset, but for a condition that is handed. -/
theorem rebuilt_monitor (m : MonitorId) : ∃ c,
    (rebuilt x sst tools calibration ahs rate pending).fmu.monitors.get m = { Monitor.reset with condition := c } := by
  cases m <;> exact ⟨_, rfl⟩

/-- A monitor that was QUIET with nothing counted is QUIET or in DEGLITCH when its condition has been handed. -/
theorem settleMonitor_quiet (time : Nat) (seen c : Bool) :
    (settleMonitor time seen { Monitor.reset with condition := c }).count = 0 ∧
    ((settleMonitor time seen { Monitor.reset with condition := c }).state = .quiet ∨
      (settleMonitor time seen { Monitor.reset with condition := c }).state = .deglitch) := by
  cases seen
  · exact ⟨rfl, .inl rfl⟩
  · exact ⟨rfl, .inr rfl⟩

theorem close_rebuilt_monitor (before : State) (m : MonitorId) :
    ((close before (rebuilt x sst tools calibration ahs rate pending)).fmu.monitors.get m).count = 0 ∧
    (((close before (rebuilt x sst tools calibration ahs rate pending)).fmu.monitors.get m).state = .quiet ∨
      ((close before (rebuilt x sst tools calibration ahs rate pending)).fmu.monitors.get m).state = .deglitch) := by
  obtain ⟨c, hc⟩ := rebuilt_monitor x sst tools calibration ahs rate pending m
  rw [close_fmu, PerMonitor.get_ofFn, reviewed, hc]
  exact settleMonitor_quiet ..

theorem close_rebuilt_slp (before : State) :
    (close before (rebuilt x sst tools calibration ahs rate pending)).slp = slpAfterReset rate := by
  rw [close_slp]
  generalize decide (reportBody (reviewAll (rebuilt x sst tools calibration ahs rate pending)) ≠ reportBody before) = due
  show { slpAfterReset rate with reportDue := true || due } = _
  rw [Bool.true_or]
  rfl

theorem tcuAfterReset_head (side : Side) :
    ((tcuAfterReset sst.active tools x).head.get side).owner = .none ∧
    ((tcuAfterReset sst.active tools x).head.get side).position = if x.parked.get side then .parked else .halted := by
  cases side <;> exact ⟨rfl, rfl⟩

theorem tcuAfterReset_tools (side : Side) : ((tcuAfterReset sst.active tools x).head.get side).tools = tools.get side := by
  cases side <;> rfl

end Rebuilt

theorem linkResetEffect_ready (lines : FieldLines) {s : State} (h : resetReady s = true) :
    linkResetEffect lines s =
      rebuilt lines { (resetNotices s).sst with snapshot := none, store := .idle, lastOutcome := .none }
        (keptTools (resetNotices s)) ((resetNotices s).pmu.head.map PmuHead.calibration)
        (ahsAfterLinkReset (resetNotices s).ahs) (resetNotices s).slp.rate (resetNotices s).pending := if_pos h

theorem linkResetEffect_waits (lines : FieldLines) {s : State} (h : resetReady s = false) : linkResetEffect lines s = s :=
  if_neg (ne_true_of_eq_false h)

/-- Settles O60: RESET by what `takeReset` leaves of the queue and of the open records; the resets by `rebuilt`, whose
blocks are read off, and by what the head notices of a link RESET leave. -/
theorem partIsReset : Obligations.PartIsReset := by
  unfold Obligations.PartIsReset
  intro s
  refine ⟨fun tag h => ⟨exec_resetRefused h, fun hr hw => ?_⟩, fun lines hr h => exec_same h (linkResetEffect_waits lines hr),
    fun lines => ?_⟩
  · obtain ⟨t, ht, hpil, hahs, hslot, hpending, hblu, hpmu, htcu, hsst⟩ := exec_resetTaken h hr
    have hopen : ∀ id, openFind id t = openFind id (takeReset s) := fun id => by unfold openFind; rw [hahs]
    refine ⟨t, ht, hslot, hpending, hpil, hblu, hpmu, htcu, hsst, ?_, fun o hc hd ho => ?_, fun id o ho => ?_⟩
    · rw [hahs]
      exact (takeReset_touches s).slots rfl
    · rw [hahs]
      exact takeReset_dirty hc hd ho
    · rw [hopen, hahs]
      split
      · next hp =>
        obtain ⟨hturned, hqueue⟩ := takeReset_turned hw hp.1 hp.2 ho
        obtain ⟨hdirty, hcommitting⟩ := appended_state (turnedEntry true s) s.pil.stamp o
        exact ⟨_, hturned, appended_record .., fun hn => ⟨hdirty hn, hqueue hn⟩, hcommitting⟩
      · next hp =>
        by_cases hn : s.ahs.opening = none
        · exact .inl ((takeReset_kept hn hp).trans ho)
        · exact .inr (Option.isSome_iff_ne_none.2 hn)
  · intro fieldsStand
    have hstand : ∀ sst tools calibration ahs rate,
        ahs.cache = [] ∧ ahs.queue = [] ∧ ahs.commit = none ∧ ahs.link = .none ∧ ahs.lastCommit = .none →
        ∀ pending, fieldsStand (close s (rebuilt lines sst tools calibration ahs rate pending)) :=
      fun sst tools calibration ahs rate ⟨hcache, hqueue, hcommit, hlink, hlast⟩ pending => by
        have hm := close_rebuilt_monitor lines sst tools calibration ahs rate pending s
        have hslp := close_rebuilt_slp lines sst tools calibration ahs rate pending s
        generalize hu : rebuilt lines sst tools calibration ahs rate pending = u at hm hslp
        have hpil : u.pil = pilAfterReset lines := by rw [← hu]; rfl
        have hblu : u.blu = bluAfterReset sst.active lines := by rw [← hu]; rfl
        have hgbc : u.gbc = gbcAfterReset lines.busHigh := by rw [← hu]; rfl
        have hpmu : u.pmu = pmuAfterReset calibration lines.rims := by rw [← hu]; rfl
        have htpe : u.tpe = .reset := by rw [← hu]; rfl
        have htcu : u.tcu = tcuAfterReset sst.active tools lines := by rw [← hu]; rfl
        have hahs : u.ahs = ahs := by rw [← hu]; rfl
        simp only [fieldsStand, close_pil, close_blu, close_gbc, close_pmu, close_tpe, close_tcu, close_ahs, hslp, hpil,
          hblu, hgbc, hpmu, htpe, htcu, hahs]
        refine ⟨rfl, rfl, rfl, rfl, rfl, rfl, fun side => ?_, fun side => ?_, rfl, hm, rfl, rfl, rfl, trivial, rfl, rfl,
          fun side => tcuAfterReset_head lines sst tools side, hcache, hqueue, hcommit, hlink, hlast, rfl⟩
        · rw [show (pilAfterReset lines).bridge = lines.bridges.map bridgeAfterReset from rfl, Sides.get_map]
          exact bridgeAfterReset_state _
        · rw [show (bluAfterReset sst.active lines).clamp = lines.clamps.map clampAfterReset from rfl, Sides.get_map]
          exact clampAfterReset_state _
    refine ⟨fun hr => ?_, fun i hi => ?_⟩
    · have k := resetNotices_kept s
      have hrate : (resetNotices s).slp.rate = s.slp.rate := by rw [k.slp rfl]
      have hahs : (resetNotices s).ahs = s.ahs := k.wholeAhs rfl rfl
      have hslots : (resetNotices s).ahs.slots = s.ahs.slots := by rw [hahs]
      have hindex : (ahsAfterLinkReset (resetNotices s).ahs).index = s.ahs.index.filter fun e => e.slot.isSome := by
        rw [hahs]
        rfl
      have hstore : (resetNotices s).ahs.store = s.ahs.store := by rw [hahs]
      have hactive : (resetNotices s).sst.active = s.sst.active := by rw [k.sst rfl]
      have himage : (resetNotices s).sst.image = s.sst.image := by rw [k.sst rfl]
      refine ⟨_, exec_next .., ?_⟩
      rw [show effectOf (.linkResetEffect lines) s = _ from linkResetEffect_ready lines hr]
      refine ⟨hstand _ _ _ _ _ ⟨rfl, rfl, rfl, rfl, rfl⟩ _, ?_⟩
      simp only [close_rebuilt_slp, close_ahs, close_sst, close_pmu, close_tcu]
      refine ⟨hrate, hslots, hindex, hstore, hactive, himage, fun side => ?_, fun side => ?_⟩
      · refine Eq.trans ?_ (resetNotices_calibration s side)
        cases side <;> rfl
      · exact ((tcuAfterReset_tools ..).trans (Sides.get_map ..)).trans (resetNotices_tools s side).2
    · have hexec : exec i s = .next (close s (startUp lines s)) := by
        rcases hi with rfl | rfl <;> exact exec_next ..
      refine ⟨_, hexec, ?_⟩
      rw [startUp]
      refine ⟨hstand _ _ _ _ _ ⟨rfl, rfl, rfl, rfl, rfl⟩ _, ?_⟩
      rw [close_rebuilt_slp, close_ahs, close_sst, close_pmu, close_tcu]
      refine ⟨rfl, rfl, rfl, rfl, rfl, fun side => ?_, fun x hx => ⟨fun side => ?_, ?_⟩, fun hx => ⟨?_, fun side => ?_⟩⟩
      · cases side <;> rfl
      · refine (tcuAfterReset_tools ..).trans ?_
        rw [hx]
        rfl
      · show (sstAfterReset s.sst.image).active = _
        rw [hx]
        rfl
      · show (sstAfterReset s.sst.image).active = _
        rw [hx]
        rfl
      · refine (tcuAfterReset_tools ..).trans ?_
        rw [hx]
        exact Sides.get_both ..

end Sys2Proof.Machine

end
